-- ==== Sys2Proof/Word.lean ====
section
/-! DEFINITION. The machine's plainest types: octets, part slot counter values, cell frame numbers, calendar
identities, and pairs held once for each subscription. Nothing here is behaviour of its own. -/

namespace Sys2Proof

/-- One octet of a record, of a block of speech or of a text. -/
abbrev Byte := BitVec 8

/-- A value of the part slot counter, which wraps at 2^32 (R1). -/
abbrev Slot := BitVec 32

/-- A cell frame number 0..65535, which wraps (R2). -/
abbrev FrameNo := BitVec 16

/-- A calendar window's identity: the value of the insertion counter, which wraps at 2^32 (R43). -/
abbrev WinId := BitVec 32

/-- The two subscriptions. -/
inductive Sub where
  | A
  | B
  deriving DecidableEq, Repr

/-- The other subscription. -/
def Sub.other : Sub → Sub
  | .A => .B
  | .B => .A

/-- The two call ids. -/
inductive CallId where
  | one
  | two
  deriving DecidableEq, Repr

/-- The other call id. -/
def CallId.other : CallId → CallId
  | .one => .two
  | .two => .one

/-- One value for each subscription. -/
structure Two (α : Type) where
  /-- the value of subscription A -/
  a : α
  /-- the value of subscription B -/
  b : α
  deriving DecidableEq, Repr

/-- The value of one subscription. -/
def Two.get {α : Type} (t : Two α) : Sub → α
  | .A => t.a
  | .B => t.b

/-- The pair with one subscription's value replaced. -/
def Two.set {α : Type} (t : Two α) (x : Sub) (v : α) : Two α :=
  match x with
  | .A => { t with a := v }
  | .B => { t with b := v }

/-- The same value for both subscriptions. -/
def Two.both {α : Type} (v : α) : Two α := ⟨v, v⟩

end Sys2Proof
end

