-- ==== Sys2Proof/Syntax.lean ====
section
/-! DEFINITION. The commands: what the host's records ask, what the front end and the network return, and one constructor
of `Instr` for each row of the table of operations and events. -/

namespace Sys2Proof

/-! ## Requests of the host (11.5), with the raw values their records carry (R179, R185) -/

/-- A string of digits, one octet a digit (R185). -/
abbrev Digits := List Byte

/-- A well-formed request: its fields as the record carries them. The owner checks the ranges (R179). -/
inductive Request where
  | identify
  | reset
  /-- the target, an enumeration octet: 0 DOZE_ON, 1 DOZE_OFF, 2 DORMANT (R167) -/
  | powerSet (target : Option Byte)
  | subLoad (sub : Byte) (identity : BitVec 32) (channels : List (BitVec 16))
  | subAttach (sub : Byte)
  | subDetach (sub : Byte)
  | subSet (sub : Byte) (guard notices : Option Byte) (channels : Option (List (BitVec 16)))
  | subQuery (sub : Byte)
  | measQuery
  | callDial (sub : Byte) (number : Digits)
  | callAnswer (id : Byte)
  | callEnd (id : Byte)
  | callQuery (id : Option Byte)
  | voiceSet (clockRole frameRole clockRate polarity idleLine : Option Byte)
  | voiceQuery
  | textSend (sub : Byte) (destination : Digits) (reference index last : Byte) (body : List Byte)
  | textCancel (sub reference : Byte)
  | outboxQuery
  | storeList (start : BitVec 16)
  | storeRead (number offset : BitVec 16) (length : Byte)
  | storeDelete (number : BitVec 16)
  | storeKeep (number : BitVec 16)
  | storeProtect (edge count invert : Byte)
  | storeQuery
  deriving DecidableEq, Repr

/-! ## What the network sends (R4 to R6, R11, R14) -/

/-- The purpose of a page entry (R6). -/
inductive PagePurpose where
  | call
  | text
  deriving DecidableEq, Repr

/-- One entry of a page list (R6). -/
structure PageEntry where
  /-- paging key -/
  key : BitVec 16
  /-- what the network wants -/
  purpose : PagePurpose
  deriving DecidableEq, Repr

/-- One entry of a grant list (R8). -/
structure Grant where
  /-- reference of the burst it answers -/
  reference : Byte
  /-- rx offset -/
  rx : Nat
  /-- tx offset -/
  tx : Nat
  deriving DecidableEq, Repr

/-- A cell: its channel and its cell code (R3). -/
structure CellId where
  /-- 0..2047 -/
  channel : Nat
  /-- 0..4095 -/
  code : Nat
  deriving DecidableEq, Repr

/-- One entry of a beacon's neighbour list (R5). -/
structure Neighbour where
  /-- the cell named -/
  cell : CellId
  /-- −20..+20 codes -/
  offset : Int
  deriving DecidableEq, Repr

/-- The fields of a BEACON as received, before R5 accepts it. -/
structure Beacon where
  code : Nat
  area : Nat
  frame : FrameNo
  barred : Bool
  /-- listen exponent e, 0..3 -/
  listen : Nat
  /-- filter depth k, 0..5 -/
  depth : Nat
  /-- hysteresis H, 0..20 codes -/
  hysteresis : Nat
  /-- time-to-trigger T, 1..15 -/
  trigger : Nat
  /-- floor level, 0..200 -/
  floor : Nat
  /-- link tolerance R0, 4..64 -/
  tolerance : Nat
  /-- network time in seconds -/
  time : BitVec 32
  neighbours : List Neighbour
  pages : List PageEntry
  deriving DecidableEq, Repr

/-- Causes the network gives when it ends a call (R14). -/
inductive DropCause where
  | normal
  | busyFar
  | noAnswer
  | rejected
  deriving DecidableEq, Repr

/-- Causes of ENROL_NO (R14). -/
inductive EnrolCause where
  | rejected
  | notAllowed
  deriving DecidableEq, Repr

/-- Causes of the network's TEXT_REFUSE (R14). -/
inductive RefuseCause where
  | rejected
  | noRoute
  | memoryFull
  | badPart
  deriving DecidableEq, Repr

/-- The downlink signalling messages (R14), with numbers as received. -/
inductive DownMsg where
  | arrive (caller : Option Digits)
  | progress
  | join (rx tx : Nat)
  | drop (cause : DropCause)
  | dropOk
  | enrolOk (key : BitVec 16)
  | enrolNo (cause : EnrolCause)
  | textPart (reference index count : Nat) (sender : Digits) (body : List Byte)
  | textAck (reference index : Nat)
  | textRefuse (reference : Nat) (cause : RefuseCause)
  | move (channel code rx tx offset deadline : Nat)
  | release
  deriving DecidableEq, Repr

/-- A block the front end decoded, with the cell frame number it carried (R4, R11). -/
inductive Block where
  | beacon (b : Beacon)
  | control (frame : FrameNo) (pages : List PageEntry) (grants : List Grant)
  | voice (frame : FrameNo) (octets : List Byte)
  | sig (frame : FrameNo) (message : Option DownMsg)
  | grant (frame : FrameNo) (grants : List Grant)
  deriving DecidableEq, Repr

/-- A result on the front-end link (R18), with the level as the front end reports it, a signed number (R3). -/
inductive FrontEndResult where
  | block (b : Block) (level : Int)
  | blockBad (level : Int)
  | timing (offset : Fin 10) (frame : FrameNo) (level : Int)
  | sent
  | sample (level : Int)
  deriving DecidableEq, Repr

/-! ## The commands -/

/-- The steps of the part, one constructor for each row of the table of operations and events. A row that is the dispatch
of a request carries the request's tag and fields; a row that is an event carries what the outside world brings. -/
inductive Instr where
  /-- POWER_ON (R173) -/
  | powerOn
  /-- RESETN_ASSERTED (R173) -/
  | resetnAsserted
  /-- RESETN_RELEASED (R175) -/
  | resetnReleased
  /-- STARTUP_END (R175) -/
  | startupEnd
  /-- REQUESTED_RESET (R174) -/
  | requestedReset
  /-- BREAK on CLRX (R178) -/
  | lineBreak
  /-- CHARACTER_ERROR on CLRX (R178) -/
  | characterError
  /-- LENGTH_DISCARD (R178): the octet that makes the receiver discard its frame with reason LENGTH -/
  | lengthDiscard (octet : Byte)
  /-- RECEIVE_GAP_TIMEOUT (R178) -/
  | receiveGapTimeout
  /-- REQUEST_ARRIVAL (R179): the octet that completes a frame -/
  | requestArrival (octet : Byte)
  /-- STARTING_REPLY (R175): the oldest request of the inbox, dispatched while starting -/
  | startingReply
  /-- IDENTIFY (R184) -/
  | identify (tag : Byte)
  /-- RESET (R174) -/
  | reset (tag : Byte)
  /-- POWER_SET, target DOZE_ON (R167) -/
  | powerSetDozeOn (tag : Byte)
  /-- POWER_SET, target DOZE_OFF (R167) -/
  | powerSetDozeOff (tag : Byte)
  /-- POWER_SET, target DORMANT (R171) -/
  | powerSetDormant (tag : Byte)
  /-- POWER_SET that changes nothing: no target, or a target octet that names none (R167) -/
  | powerSetQuery (tag : Byte) (target : Option Byte)
  /-- SUB_LOAD (R21) -/
  | subLoad (tag sub : Byte) (identity : BitVec 32) (channels : List (BitVec 16))
  /-- SUB_ATTACH (R22) -/
  | subAttach (tag sub : Byte)
  /-- SUB_DETACH (R40) -/
  | subDetach (tag sub : Byte)
  /-- SUB_SET (R23) -/
  | subSet (tag sub : Byte) (guard notices : Option Byte) (channels : Option (List (BitVec 16)))
  /-- SUB_QUERY (R42) -/
  | subQuery (tag sub : Byte)
  /-- MEAS_QUERY (R79) -/
  | measQuery (tag : Byte)
  /-- CALL_DIAL (R83) -/
  | callDial (tag sub : Byte) (number : Digits)
  /-- CALL_ANSWER (R88) -/
  | callAnswer (tag id : Byte)
  /-- CALL_END (R92) -/
  | callEnd (tag id : Byte)
  /-- CALL_QUERY (R101) -/
  | callQuery (tag : Byte) (id : Option Byte)
  /-- VOICE_SET (R129) -/
  | voiceSet (tag : Byte) (clockRole frameRole clockRate polarity idleLine : Option Byte)
  /-- VOICE_QUERY (R133) -/
  | voiceQuery (tag : Byte)
  /-- TEXT_SEND (R135) -/
  | textSend (tag sub : Byte) (destination : Digits) (reference index last : Byte) (body : List Byte)
  /-- TEXT_CANCEL (R141) -/
  | textCancel (tag sub reference : Byte)
  /-- OUTBOX_QUERY (R150) -/
  | outboxQuery (tag : Byte)
  /-- STORE_LIST (R165) -/
  | storeList (tag : Byte) (start : BitVec 16)
  /-- STORE_READ (R165) -/
  | storeRead (tag : Byte) (number offset : BitVec 16) (length : Byte)
  /-- STORE_DELETE (R160) -/
  | storeDelete (tag : Byte) (number : BitVec 16)
  /-- STORE_KEEP (R159) -/
  | storeKeep (tag : Byte) (number : BitVec 16)
  /-- STORE_PROTECT (R158) -/
  | storeProtect (tag edge count invert : Byte)
  /-- STORE_QUERY (R166) -/
  | storeQuery (tag : Byte)
  /-- CLRDY_ASSERTED (R182) -/
  | clrdyAsserted
  /-- FRAME_TRANSMIT_START (R182) -/
  | frameTransmitStart
  /-- FRAME_TRANSMIT_END (R180) -/
  | frameTransmitEnd
  /-- DOZE_ENTRY (R168) -/
  | dozeEntry
  /-- WAKE_TIME_REACHED (R170) -/
  | wakeTimeReached
  /-- DORMANT_ENTRY (R172) -/
  | dormantEntry
  /-- WINDOW_ORDERED (R53): the first window in calendar order whose ordering point is reached -/
  | windowOrdered
  /-- FRONT_END_RESULT (R18): the order number it answers, and the result -/
  | frontEndResult (order : Byte) (result : FrontEndResult)
  /-- RESULT_LIMIT (R18): the window that has reached its result limit -/
  | resultLimit (window : WinId)
  /-- NO_SERVICE_RETRY_EXPIRY (R26) -/
  | noServiceRetryExpiry (sub : Sub)
  /-- RELEASE_TIMER_EXPIRY (R16) -/
  | releaseTimerExpiry
  /-- REGISTRATION_GUARD_EXPIRY (R39) -/
  | registrationGuardExpiry (sub : Sub)
  /-- CALL_TIMER_EXPIRY (R86) -/
  | callTimerExpiry (id : CallId)
  /-- PORT_FRAME_START (R123) -/
  | portFrameStart
  /-- UPLINK_BLOCK_RECEIVED (R127): the 21 inbound octets of the frame -/
  | uplinkBlockReceived (octets : List Byte)
  /-- ASSEMBLY_TIMER_EXPIRY (R136): the outbox entry, by subscription and reference -/
  | assemblyTimerExpiry (sub : Sub) (reference : Byte)
  /-- PART_WAIT_EXPIRY (R139): the subscription's SENDING entry -/
  | partWaitExpiry (sub : Sub)
  /-- AGE_TIMER_EXPIRY (R147): the reassembly entry, by subscription, sender and reference -/
  | ageTimerExpiry (sub : Sub) (sender : Digits) (reference : Nat)
  /-- IDLE_WAIT_EXPIRY (R143) -/
  | idleWaitExpiry (sub : Sub)
  /-- STORE_OPERATION_START (R154) -/
  | storeOperationStart
  /-- SLOT_PROGRAM_END (R156): whether the program verified -/
  | slotProgramEnd (verified : Bool)
  /-- MARK_PROGRAM_END (R160): whether the mark verified -/
  | markProgramEnd (verified : Bool)
  /-- BLOCK_ERASE_END (R162): whether the erase verified -/
  | blockEraseEnd (verified : Bool)
  /-- SETTINGS_REWRITE_END (R158): whether the rewrite verified -/
  | settingsRewriteEnd (verified : Bool)
  /-- CLRDY_DEASSERTED (R182) -/
  | clrdyDeasserted
  /-- GOOD_OCTET on CLRX (R178) -/
  | goodOctet (octet : Byte)
  deriving DecidableEq, Repr

end Sys2Proof
end

