-- ==== Sys2Proof/Decode.lean ====
section
/-! DEFINITION. The host's requests as records: the request codes, the fields read from and written to octets (R179, R185,
11.5), and the decoder of the table's bits. -/

namespace Sys2Proof

/-! ## Codes (11.5) -/

/-- The request code of a request (11.5). -/
def requestCode : Request → Byte
  | .identify => 0x01
  | .reset => 0x02
  | .powerSet _ => 0x03
  | .subLoad _ _ _ => 0x10
  | .subAttach _ => 0x11
  | .subDetach _ => 0x12
  | .subSet _ _ _ _ => 0x13
  | .subQuery _ => 0x14
  | .measQuery => 0x18
  | .callDial _ _ => 0x20
  | .callAnswer _ => 0x21
  | .callEnd _ => 0x22
  | .callQuery _ => 0x23
  | .voiceSet _ _ _ _ _ => 0x28
  | .voiceQuery => 0x29
  | .textSend _ _ _ _ _ _ => 0x30
  | .textCancel _ _ => 0x31
  | .outboxQuery => 0x32
  | .storeList _ => 0x38
  | .storeRead _ _ _ => 0x39
  | .storeDelete _ => 0x3A
  | .storeKeep _ => 0x3B
  | .storeProtect _ _ _ => 0x3C
  | .storeQuery => 0x3D

/-! ## Reading fields (R185) -/

/-- One octet. -/
def take1 : List Byte → Option (Byte × List Byte)
  | b :: rest => some (b, rest)
  | [] => none

/-- A whole number of two octets, big-endian. -/
def take2 : List Byte → Option (BitVec 16 × List Byte)
  | a :: b :: rest => some (a ++ b, rest)
  | _ => none

/-- A whole number of four octets, big-endian. -/
def take4 : List Byte → Option (BitVec 32 × List Byte)
  | a :: b :: c :: d :: rest => some ((a ++ b ++ (c ++ d) : BitVec 32), rest)
  | _ => none

/-- So many octets. -/
def takeOctets (n : Nat) (l : List Byte) : Option (List Byte × List Byte) :=
  if n ≤ l.length then some (l.take n, l.drop n) else none

/-- A digit string: its count octet, then its digits. The range of the count is the owner's to check. -/
def takeDigits : List Byte → Option (Digits × List Byte)
  | n :: rest => takeOctets n.toNat rest
  | [] => none

/-- A body: its two count octets, then its octets. -/
def takeBody (l : List Byte) : Option (List Byte × List Byte) :=
  match take2 l with
  | some (n, rest) => takeOctets n.toNat rest
  | none => none

/-- So many numbers of two octets. -/
def takePairs : Nat → List Byte → Option (List (BitVec 16) × List Byte)
  | 0, l => some ([], l)
  | n + 1, l =>
    match take2 l with
    | some (v, rest) =>
      match takePairs n rest with
      | some (vs, rest') => some (v :: vs, rest')
      | none => none
    | none => none

/-- A list of channels: its count octet, then the channels. -/
def takeChannels : List Byte → Option (List (BitVec 16) × List Byte)
  | n :: rest => takePairs n.toNat rest
  | [] => none

/-- An optional field: a presence octet of 0 or 1, then the value when present. -/
def takeOpt {α : Type} (p : List Byte → Option (α × List Byte)) : List Byte → Option (Option α × List Byte)
  | b :: rest =>
    if b = 0 then some (none, rest)
    else if b = 1 then (p rest).map fun q => (some q.1, q.2)
    else none
  | [] => none

/-- The value read, when nothing is left over. -/
def whole {α : Type} : Option (α × List Byte) → Option α
  | some (a, []) => some a
  | _ => none

/-- A reading followed by another. -/
def andThen {α β : Type} (p : Option (α × List Byte)) (f : α → List Byte → Option β) : Option β :=
  match p with
  | some (a, rest) => f a rest
  | none => none

/-- A request that carries no fields. -/
def noFields (r : Request) : List Byte → Option Request
  | [] => some r
  | _ => none

/-- SUB_SET's fields after the subscription. -/
def parseSubSet (x : Byte) (l : List Byte) : Option Request :=
  andThen (takeOpt take1 l) fun g l =>
    andThen (takeOpt take1 l) fun n l => (whole (takeOpt takeChannels l)).map fun c => .subSet x g n c

/-- VOICE_SET's fields. -/
def parseVoiceSet (l : List Byte) : Option Request :=
  andThen (takeOpt take1 l) fun a l => andThen (takeOpt take1 l) fun b l => andThen (takeOpt take1 l) fun c l =>
    andThen (takeOpt take1 l) fun d l => (whole (takeOpt take1 l)).map fun e => .voiceSet a b c d e

/-- TEXT_SEND's fields. -/
def parseTextSend (l : List Byte) : Option Request :=
  andThen (take1 l) fun x l => andThen (takeDigits l) fun d l => andThen (take1 l) fun r l => andThen (take1 l) fun i l =>
    andThen (take1 l) fun e l => (whole (takeBody l)).map fun b => .textSend x d r i e b

/-- R179: the request a code and its fields spell; none when the code is no request code or the fields do not follow the
encoding. -/
def parseRequest (code : Byte) (l : List Byte) : Option Request :=
  match code.toNat with
  | 0x01 => noFields .identify l
  | 0x02 => noFields .reset l
  | 0x03 => (whole (takeOpt take1 l)).map .powerSet
  | 0x10 => andThen (take1 l) fun x l => andThen (take4 l) fun i l => (whole (takeChannels l)).map fun c => .subLoad x i c
  | 0x11 => (whole (take1 l)).map .subAttach
  | 0x12 => (whole (take1 l)).map .subDetach
  | 0x13 => andThen (take1 l) parseSubSet
  | 0x14 => (whole (take1 l)).map .subQuery
  | 0x18 => noFields .measQuery l
  | 0x20 => andThen (take1 l) fun x l => (whole (takeDigits l)).map fun d => .callDial x d
  | 0x21 => (whole (take1 l)).map .callAnswer
  | 0x22 => (whole (take1 l)).map .callEnd
  | 0x23 => (whole (takeOpt take1 l)).map .callQuery
  | 0x28 => parseVoiceSet l
  | 0x29 => noFields .voiceQuery l
  | 0x30 => parseTextSend l
  | 0x31 => andThen (take1 l) fun x l => (whole (take1 l)).map fun r => .textCancel x r
  | 0x32 => noFields .outboxQuery l
  | 0x38 => (whole (take2 l)).map .storeList
  | 0x39 => andThen (take2 l) fun n l => andThen (take2 l) fun o l => (whole (take1 l)).map fun k => .storeRead n o k
  | 0x3A => (whole (take2 l)).map .storeDelete
  | 0x3B => (whole (take2 l)).map .storeKeep
  | 0x3C => andThen (take1 l) fun e l => andThen (take1 l) fun c l => (whole (take1 l)).map fun i => .storeProtect e c i
  | 0x3D => noFields .storeQuery l
  | _ => none

/-! ## Writing fields (R185) -/

/-- A whole number in one octet. -/
def put1 (n : Nat) : List Byte := [BitVec.ofNat 8 n]

/-- A whole number in two octets, big-endian. -/
def put2 (n : Nat) : List Byte := [BitVec.ofNat 8 (n / 256), BitVec.ofNat 8 n]

/-- A whole number in four octets, big-endian. -/
def put4 (n : Nat) : List Byte :=
  [BitVec.ofNat 8 (n / 16777216), BitVec.ofNat 8 (n / 65536), BitVec.ofNat 8 (n / 256), BitVec.ofNat 8 n]

/-- A signed number in one octet, two's complement. -/
def putInt1 (n : Int) : List Byte := [BitVec.ofInt 8 n]

/-- A signed number in two octets, two's complement. -/
def putInt2 (n : Int) : List Byte := put2 (BitVec.ofInt 16 n).toNat

/-- Set or clear. -/
def putFlag (b : Bool) : List Byte := [if b then 1 else 0]

/-- An optional field. -/
def putOpt {α : Type} (f : α → List Byte) : Option α → List Byte
  | some a => 1 :: f a
  | none => [0]

/-- A digit string. -/
def putDigits (d : Digits) : List Byte := put1 d.length ++ d

/-- A body. -/
def putBody (b : List Byte) : List Byte := put2 b.length ++ b

/-- A list of channels. -/
def putChannels (cs : List (BitVec 16)) : List Byte := put1 cs.length ++ cs.flatMap fun c => put2 c.toNat

/-- The fields of a request as its record carries them. -/
def encodeRequest : Request → List Byte
  | .identify => []
  | .reset => []
  | .powerSet t => putOpt (fun b => [b]) t
  | .subLoad x i cs => x :: (put4 i.toNat ++ putChannels cs)
  | .subAttach x => [x]
  | .subDetach x => [x]
  | .subSet x g n c => x :: (putOpt (fun b => [b]) g ++ putOpt (fun b => [b]) n ++ putOpt putChannels c)
  | .subQuery x => [x]
  | .measQuery => []
  | .callDial x d => x :: putDigits d
  | .callAnswer i => [i]
  | .callEnd i => [i]
  | .callQuery i => putOpt (fun b => [b]) i
  | .voiceSet a b c d e =>
    putOpt (fun b => [b]) a ++ putOpt (fun b => [b]) b ++ putOpt (fun b => [b]) c ++ putOpt (fun b => [b]) d ++
      putOpt (fun b => [b]) e
  | .voiceQuery => []
  | .textSend x d r i e b => x :: (putDigits d ++ r :: i :: e :: putBody b)
  | .textCancel x r => [x, r]
  | .outboxQuery => []
  | .storeList n => put2 n.toNat
  | .storeRead n o k => put2 n.toNat ++ put2 o.toNat ++ [k]
  | .storeDelete n => put2 n.toNat
  | .storeKeep n => put2 n.toNat
  | .storeProtect e c i => [e, c, i]
  | .storeQuery => []

/-! ## The table's bits -/

/-- The command a word spells by the bits of the table of operations and events: no row gives bits, so none. -/
def decodeTableWord (nbits w : Nat) : Option Instr :=
  match nbits, w with
  | _, _ => none

end Sys2Proof
end

