-- ==== Sys2Proof/Config.lean ====
section
/-! DEFINITION. What the manual leaves open: values it calls drawn at random, the silicon revision, and what the
non-volatile memory holds after an operation that was cut or that failed. Each is an opaque constant applied to the
model's own draw counter, so that nothing can be proved of the value it has. -/

namespace Sys2Proof

/-- FREE VALUE (log 1). The reference 0..255 of an access attempt, drawn at random (R7). -/
opaque Config.reference : Nat → Byte

/-- FREE VALUE (log 1). The spacing between two bursts less one: a value 0..3, so that the spacing is 1..4 frames (R9). -/
opaque Config.spacing : Nat → Fin 4

/-- FREE VALUE (log 2). The silicon revision less one, so that the revision is 1..255 (R184). -/
opaque Config.revision : Fin 255

/-- FREE VALUE (log 3). What a store operation that was cut by a reset (R164) or whose verification failed (R157) leaves in
the memory: 0 nothing of it, 1 its beginning, 2 something unreadable, 3 all of it. -/
opaque Config.leftover : Nat → Fin 4

/-- FREE VALUE (log 4). Whether a store operation that the idle step ends by time verifies (R151). -/
opaque Config.verifies : Nat → Bool

end Sys2Proof
end

