-- ==== Sys2Proof/Machine/State.lean ====
section
/-! DEFINITION. The state of the part, block by block as the Introduction divides it, as plain data; the reasons a step can
stop; and the state right after power-on. -/

namespace Sys2Proof.Machine

open Sys2Proof

/-! ## Common -/

/-- A timer of a block: stopped, running until an expiry slot (R1), or held with the slots it has left (R108). -/
inductive Timer where
  | stopped
  | running (expiry : Slot)
  | held (left : Nat)
  deriving DecidableEq, Repr

/-- A frame anchor: frame f0 of a cell began at part slot s0 (R2). -/
structure Anchor where
  s0 : Slot
  f0 : FrameNo
  deriving DecidableEq, Repr

/-! ## The radio calendar (3.1) and the front-end link (R17) -/

/-- Whose work a window serves; PART for a sample of a cell that interests both subscriptions (3.1). -/
inductive Owner where
  | sub (x : Sub)
  | part
  deriving DecidableEq, Repr

/-- The block to which every outcome of a window is handed (3.1). -/
inductive Reporter where
  | subscription
  | measurement
  | context
  deriving DecidableEq, Repr

/-- The purpose of a window (R44). -/
inductive WinPurpose where
  | pageRx
  | beaconRx
  | search
  | meas
  | grantRx
  | accessTx
  | dedRx
  | dedTx
  deriving DecidableEq, Repr

/-- The classes of windows, from highest to lowest (R44). -/
inductive Class where
  | access
  | pageStarved
  | dedicated
  | page
  | beacon
  | meas
  | search
  deriving DecidableEq, Repr

/-- The purposes of an ACCESS burst (R7). -/
inductive AccessPurpose where
  | callOut
  | pageReply
  | textOut
  | register
  | storeReady
  | leave
  | moveIn
  | returning
  deriving DecidableEq, Repr

/-- The causes of the part's DROP (R13). -/
inductive OwnDropCause where
  | normal
  | byHost
  | noAnswer
  deriving DecidableEq, Repr

/-- One candidate of a MEAS_REPORT (R78). -/
structure Reported where
  cell : CellId
  level : Nat
  deriving DecidableEq, Repr

/-- The uplink signalling messages (R13). In textRefuse the flag is set for MEMORY_FULL and clear for BAD_PART; in moveFail
it is set for BAD_ORDER and clear for NO_ACCESS. -/
inductive UpMsg where
  | dial (number : Digits)
  | ring
  | take
  | drop (cause : OwnDropCause)
  | dropOk
  | enrol (identity : BitVec 32) (oldArea : Option Nat)
  | textPart (reference index count : Nat) (destination : Digits) (body : List Byte)
  | textAck (reference index : Nat)
  | textRefuse (reference : Nat) (memoryFull : Bool)
  | storeReady
  | leave
  | measReport (serving : Nat) (candidates : List Reported)
  | moveDone
  | moveFail (badOrder : Bool)
  | done
  deriving DecidableEq, Repr

/-- The block a TRANSMIT order carries (R7, R11). -/
inductive TxBlock where
  | burst (purpose : AccessPurpose) (reference : Byte)
  | sig (message : UpMsg)
  | voice (octets : List Byte)
  | idle
  deriving DecidableEq, Repr

/-- The states of a window (R45). Only PLANNED and ORDERED windows stay in the calendar. -/
inductive WinState where
  | planned
  | ordered
  | done
  | failed
  | skipped
  deriving DecidableEq, Repr

/-- A radio window (3.1). -/
structure Window where
  id : WinId
  owner : Owner
  reporter : Reporter
  purpose : WinPurpose
  cls : Class
  channel : Nat
  start : Slot
  len : Nat
  requested : Slot
  /-- slack in frames; absent for a window that is not movable -/
  slack : Option Nat
  /-- ACCESS_TX and DED_TX: the block to send, once it is set -/
  block : Option TxBlock
  state : WinState
  withdrawn : Bool
  deriving DecidableEq, Repr

/-- The causes of a skip (R51). -/
inductive SkipCause where
  | late
  | displaced
  | outclassed
  | noPlace
  | evicted
  | full
  deriving DecidableEq, Repr

/-- What an order asks of the front end (R17). -/
inductive Order where
  | receive (channel : Nat) (start : Slot) (len : Nat)
  | acquire (channel : Nat) (start : Slot)
  | transmit (channel : Nat) (start : Slot) (block : TxBlock)
  | sample (channel : Nat) (start : Slot)
  deriving DecidableEq, Repr

/-- An entry of the list of outstanding orders (R17). -/
structure Outstanding where
  number : Byte
  order : Order
  window : WinId
  deriving DecidableEq, Repr

/-- The reason of a RADIO notice (R19). -/
inductive RadioReason where
  | silent
  | back
  deriving DecidableEq, Repr

/-- The radio calendar with its side of the front-end link. -/
structure Calendar where
  windows : List Window
  /-- the insertion counter (R43) -/
  counter : WinId
  /-- windows that ended FAILED in succession (R19) -/
  failed : Nat
  /-- the front end is recorded as silent (R19) -/
  silent : Bool
  /-- reason of the latest change of the front end's recorded state -/
  reason : Option RadioReason
  outstanding : List Outstanding
  /-- number of the next order (R17) -/
  nextOrder : Byte
  /-- the first 20 slots after a reset are not over (R17) -/
  quiet : Bool
  deriving DecidableEq, Repr

/-! ## Subscriptions (02) -/

/-- The states of a subscription. -/
inductive SubState where
  | empty
  | detached
  | searching
  | camped
  | engaged
  | noService
  deriving DecidableEq, Repr

/-- Registration results. -/
inductive RegResult where
  | ok
  | rejected
  | notAllowed
  | noAccess
  | noReply
  deriving DecidableEq, Repr

/-- Reasons for NO_SERVICE. -/
inductive NoServiceReason where
  | noCell
  | rejected
  | notAllowed
  | noAccess
  | noReply
  deriving DecidableEq, Repr

/-- The beacon parameters held with a cell. -/
structure Params where
  barred : Bool
  listen : Nat
  depth : Nat
  hysteresis : Nat
  trigger : Nat
  floor : Nat
  tolerance : Nat
  time : BitVec 32
  deriving DecidableEq, Repr

/-- A cell a subscription camps on, or a candidate for one. -/
structure CampedCell where
  cell : CellId
  area : Nat
  anchor : Anchor
  params : Params
  /-- cell frame number of the last accepted BEACON, from which the refresh schedule counts (R27, R28, R36) -/
  lastBeacon : FrameNo
  deriving DecidableEq, Repr

/-- The search state of a subscription (R24, R25): scan list entries are (channel, level). -/
inductive Search where
  | none
  /-- SEARCH windows still open, with their channels, and the scan list so far -/
  | sampling (waiting : List (WinId × Nat)) (scan : List (Nat × Nat))
  | acquiring (scan : List (Nat × Nat)) (position : Nat) (window : WinId) (again : Bool)
  | reading (scan : List (Nat × Nat)) (position : Nat) (anchor : Anchor) (frame : FrameNo) (window : WinId) (again : Bool)
  /-- a candidate, its neighbour list, and the next refresh: its frame and window -/
  | candidate (cell : CampedCell) (neighbours : List Neighbour) (frame : FrameNo) (window : WinId)
  deriving DecidableEq, Repr

/-- The next serving BEACON refresh: its frame 0, and its window, absent when the PAGE window of that frame reads it (R28). -/
structure Refresh where
  frame : FrameNo
  window : Option WinId
  deriving DecidableEq, Repr

/-- A subscription record with what the subscription controller keeps beside it. -/
structure SubRec where
  state : SubState
  identity : Option (BitVec 32)
  key : Option (BitVec 16)
  area : Option Nat
  channels : List Nat
  camped : Option CampedCell
  misses : Nat
  downlink : Int
  strikes : Nat
  guard : Nat
  notices : Bool
  registration : Option RegResult
  reason : Option NoServiceReason
  textWaiting : Bool
  memoryFull : Bool
  areaChanged : Bool
  /-- reselection target: an index of the neighbour table -/
  target : Option Nat
  /-- additions not kept at the latest table change (R42, R62) -/
  notKept : Nat
  search : Search
  /-- the next PAGE window and its frame -/
  page : Option (WinId × FrameNo)
  refresh : Option Refresh
  /-- no-service retry timer -/
  retry : Option Slot
  /-- registration guard timer -/
  regGuard : Option Slot
  /-- ticket of an unanswered SUB_DETACH; while present a LEAVE purpose is open (R40) -/
  detaching : Option Nat
  deriving DecidableEq, Repr

/-- The purposes of an engagement (R34). -/
inductive Purpose where
  | call
  | text
  | register
  | storeReady
  | leave
  deriving DecidableEq, Repr

/-- A request in the engagement queue (R34). -/
structure EngRequest where
  sub : Sub
  /-- in the order they were added -/
  purposes : List Purpose
  pageReply : Bool
  /-- the moment it was made, as a sequence value -/
  moment : Nat
  deriving DecidableEq, Repr

/-- A running access attempt (R9). -/
structure Attempt where
  purposes : List Purpose
  pageReply : Bool
  burst : AccessPurpose
  reference : Byte
  /-- bursts placed so far, 1..3 -/
  placed : Nat
  /-- the current burst's window and frame, until it has ended -/
  tx : Option (WinId × FrameNo)
  /-- GRANT_RX windows that have not ended, with their frames -/
  watches : List (WinId × FrameNo)
  deriving DecidableEq, Repr

/-- What the ENGAGED subscription is doing (R35 to R37). -/
inductive Stage where
  | attempt (a : Attempt)
  | connected
  | confirming (window : WinId) (frame : FrameNo)
  deriving DecidableEq, Repr

/-- The subscription that holds the dedicated radio. -/
structure Engaged where
  sub : Sub
  stage : Stage
  deriving DecidableEq, Repr

/-! ## Measurement (04) -/

/-- An entry of the neighbour table (4.1). -/
structure Entry where
  index : Nat
  cell : CellId
  owner : Two Bool
  serving : Two Bool
  offset : Two Int
  depth : Nat
  /-- filtered level F, in sixteenths of a code -/
  level : Option Nat
  /-- rounds since the last sample -/
  rounds : Nat
  trigger : Two Nat
  bound : Option WinId
  deriving DecidableEq, Repr

/-- The modes of a subscription's measurement (R66). -/
inductive Mode where
  | none
  | idle
  | dedicated
  | paused
  deriving DecidableEq, Repr

/-- An attempt of a round (R67). -/
structure SampleTry where
  entry : Nat
  /-- the planner has reached it -/
  passed : Bool
  window : Option WinId
  /-- absent while open; then whether it ended with a sample -/
  ended : Option Bool
  deriving DecidableEq, Repr

/-- A measurement round (R67). -/
structure Round where
  attempts : List SampleTry
  /-- the serving attempt: absent while open; then whether it ended with a sample -/
  serving : Option Bool
  /-- its round list was empty as it began, so that a connection ends it with a DED_RX window (R69, R70) -/
  bare : Bool
  deriving DecidableEq, Repr

/-- The stage of a reselection read (R74, R75). -/
inductive ReselStage where
  | none
  | acquiring (window : WinId) (again : Bool)
  | reading (window : WinId) (anchor : Anchor) (frame : FrameNo) (again : Bool)
  deriving DecidableEq, Repr

/-- A subscription's measurement state (4.1). -/
structure MeasSub where
  mode : Mode
  rounds : List Round
  resel : ReselStage
  /-- evaluations since the last report, 0..8 (R77) -/
  sinceReport : Option Nat
  /-- MODEL (DEDUCED, log 39): evaluations since the last report or the last change of mode, for the second case of R77 -/
  evaluations : Nat
  /-- serving level and best index of the MEAS snapshot last sent (R80) -/
  reference : Option (Option Nat × Option Nat)
  /-- DEDICATED: the subscription's MEAS windows in the calendar, and the start of the frame after the latest planned -/
  dedWindows : List WinId
  dedNext : Slot
  /-- MODEL (DEDUCED, log 38): the planner stands still, for no entry could be given a window -/
  dedHeld : Bool
  deriving DecidableEq, Repr

/-- The measurement unit. -/
structure Meas where
  entries : List Entry
  subs : Two MeasSub
  deriving DecidableEq, Repr

/-! ## Calls (05) -/

/-- Directions of a call. -/
inductive Direction where
  | out
  | incoming
  deriving DecidableEq, Repr

/-- The states of a call record. -/
inductive CallState where
  | free
  | dialling
  | requesting
  | offering
  | ringingOut
  | incoming
  | blocked
  | answering
  | connected
  | clearing
  deriving DecidableEq, Repr

/-- The causes of a call's end. -/
inductive CallCause where
  | normal
  | byHost
  | busyFar
  | noAnswer
  | notAnswered
  | noAccess
  | linkLost
  | rejected
  | moveLost
  deriving DecidableEq, Repr

/-- A call record (5.1). -/
structure CallRec where
  sub : Option Sub
  direction : Option Direction
  state : CallState
  number : Option Digits
  cause : Option CallCause
  answered : Bool
  arrived : Bool
  moving : Bool
  /-- RING waits for a registration to end (R87, R95) -/
  ringWaits : Bool
  /-- expiry of the call timer; its kind is the state that started it -/
  timer : Option Slot
  deriving DecidableEq, Repr

/-- The two call records. -/
structure Calls where
  one : CallRec
  two : CallRec
  deriving DecidableEq, Repr

/-! ## The dedicated context unit (06) -/

/-- Roles of a context record. -/
inductive Role where
  | active
  | spare
  | fallback
  deriving DecidableEq, Repr

/-- A context record (6.1). -/
structure Context where
  sub : Sub
  cell : CellId
  area : Nat
  areaConfirmed : Bool
  s0 : Slot
  /-- absent while unknown on a target -/
  f0 : Option FrameNo
  rx : Nat
  tx : Nat
  purposes : List Purpose
  /-- radio link counter -/
  counter : Option Nat
  role : Role
  deriving DecidableEq, Repr

/-- A message in the uplink signalling queue, or an offer waiting for room, with a number that tells it from others. -/
structure Queued where
  id : Nat
  msg : UpMsg
  deriving DecidableEq, Repr

/-- A frame of a connection whose DED windows have not both ended: its start, and the windows still open. -/
structure DedFrame where
  start : Slot
  rx : Option WinId
  tx : Option WinId
  deriving DecidableEq, Repr

/-- A frame of a connection-following access whose windows have not all ended (R110). -/
structure AccessFrame where
  number : Nat
  tx : Option WinId
  rx : Option WinId
  deriving DecidableEq, Repr

/-- A connection-following access (R10). -/
structure Access where
  reference : Byte
  /-- D -/
  deadline : Nat
  /-- start of access frame 1 -/
  base : Slot
  /-- frames with windows still open -/
  frames : List AccessFrame
  deriving DecidableEq, Repr

/-- The handover state (6.1). -/
inductive Handover where
  | none
  | moving (a : Access)
  | returning (a : Access)
  deriving DecidableEq, Repr

/-- The dedicated context unit. -/
structure CtxUnit where
  /-- the record with role ACTIVE -/
  active : Option Context
  /-- the other record: SPARE or FALLBACK while in use -/
  spare : Option Context
  queue : List Queued
  /-- offers that found no room, held by the blocks that made them, in the order first offered (R105) -/
  waiting : List Queued
  /-- MODEL: number of the next message -/
  nextMsg : Nat
  /-- the message each ORDERED DED_TX window carries that was given one: the window and the message's number (R12) -/
  carrying : List (WinId × Nat)
  release : Timer
  /-- DONE counts as sent on this connection (R16) -/
  doneSent : Bool
  handover : Handover
  frames : List DedFrame
  /-- start of the frame after the latest planned (R104) -/
  nextFrame : Slot
  areaRead : Option WinId
  /-- how the registration on this connection failed, if it did (R37) -/
  regFailed : Option NoServiceReason
  /-- an outbox entry has become SENDING on this connection (R137) -/
  textBegun : Bool
  deriving DecidableEq, Repr

/-! ## The voice path (07) -/

/-- Roles of the voice port's clock and frame sync. -/
inductive PortRole where
  | drive
  | follow
  deriving DecidableEq, Repr

/-- Clock rates in kHz (R129). -/
inductive ClockRate where
  | khz256
  | khz512
  | khz1024
  deriving DecidableEq, Repr

/-- Settings of the voice port (R129). -/
structure VoiceSettings where
  clock : PortRole
  frame : PortRole
  rate : ClockRate
  /-- frame sync active high -/
  activeHigh : Bool
  /-- idle line LOW; RELEASED when false -/
  idleLow : Bool
  deriving DecidableEq, Repr

/-- Marks of downlink entries (R121). -/
inductive Mark where
  | good
  | damaged
  | lost
  | signal
  | stolen
  deriving DecidableEq, Repr

/-- A downlink ring entry; an entry without data has no octets. -/
structure VoiceEntry where
  mark : Mark
  octets : List Byte
  deriving DecidableEq, Repr

/-- The port counters (R133), each 0..65535, saturating. -/
structure PortCounts where
  good : Nat
  damaged : Nat
  lost : Nat
  signal : Nat
  stolen : Nat
  outGood : Nat
  outDamaged : Nat
  outFill : Nat
  outHeld : Nat
  silence : Nat
  downOverflow : Nat
  trims : Nat
  upOverflow : Nat
  upDiscard : Nat
  deriving DecidableEq, Repr

/-- The voice path (7.1). -/
structure Voice where
  running : Bool
  settings : VoiceSettings
  down : List VoiceEntry
  /-- PLAYING; PRIMING when false -/
  playing : Bool
  /-- priming cause RESUME; START when false -/
  resumed : Bool
  hold : Bool
  store : Option (List Byte)
  repeats : Nat
  trim : Nat
  up : List (List Byte)
  counts : PortCounts
  shortFrames : Nat
  /-- the outbound octets of the frame in progress on the port, if one is -/
  frame : Option (List Byte)
  /-- part slot value at which the latest port frame of this run began -/
  lastFrame : Option Slot
  deriving DecidableEq, Repr

/-! ## Text transfer (08) -/

/-- Causes of a failed text (R140). -/
inductive TextCause where
  | noAck
  | rejected
  | noRoute
  | memoryFull
  | badPart
  | noAccess
  | linkLost
  | detached
  deriving DecidableEq, Repr

/-- Outcomes of an outgoing text (R140). -/
inductive TextOutcome where
  | sent
  | failed (cause : TextCause)
  | abandoned
  deriving DecidableEq, Repr

/-- States of an outbox entry. -/
inductive OutState where
  | assembling
  | ready
  | sending
  | sent
  | failed
  deriving DecidableEq, Repr

/-- An outbox entry (8.1). -/
structure OutEntry where
  sub : Sub
  destination : Digits
  reference : Byte
  next : Option Nat
  count : Option Nat
  parts : List (List Byte)
  state : OutState
  /-- ready order -/
  order : Nat
  attempts : Nat
  /-- part being sent -/
  part : Option Nat
  /-- its sends -/
  sends : Nat
  assembly : Option Slot
  wait : Timer
  outcome : Option TextOutcome
  /-- MODEL: sequence value of the moment the entry ended (R140) -/
  ended : Nat
  deriving DecidableEq, Repr

/-- How a reassembly entry was closed. -/
inductive Closing where
  | complete
  | incomplete
  deriving DecidableEq, Repr

/-- A store slot: block and slot. -/
structure SlotId where
  block : Nat
  slot : Nat
  deriving DecidableEq, Repr

/-- A reassembly entry (8.2). UNWRITTEN is the state without a reserved slot (R144). -/
structure Reassembly where
  sub : Sub
  sender : Digits
  reference : Nat
  count : Nat
  /-- parts received, by index -/
  parts : List (Nat × List Byte)
  closing : Option Closing
  unwritten : Bool
  slot : Option SlotId
  age : Option Slot
  deriving DecidableEq, Repr

/-- A record of the recent list (R144). -/
structure Recent where
  sub : Sub
  sender : Digits
  reference : Nat
  parts : List Nat
  number : Nat
  deriving DecidableEq, Repr

/-- What the text transfer unit keeps for one subscription. -/
structure TextSub where
  /-- the incoming reason holds (R143) -/
  incoming : Bool
  idle : Timer
  /-- STORE_READY sent mark (R148) -/
  readySent : Bool
  outcomes : List (Byte × TextOutcome)
  received : Nat
  latest : Option Nat
  incomplete : Nat
  deriving DecidableEq, Repr

/-- The text transfer unit. -/
structure Text where
  outbox : List OutEntry
  table : List Reassembly
  recent : List Recent
  subs : Two TextSub
  deriving DecidableEq, Repr

/-! ## The message store (09) -/

/-- The protection descriptor (R158). -/
structure Descriptor where
  /-- edge HIGH; LOW when false -/
  high : Bool
  count : Nat
  invert : Bool
  deriving DecidableEq, Repr

/-- The header of a message (R151). -/
structure Header where
  number : Nat
  sub : Sub
  sender : Digits
  time : BitVec 32
  count : Nat
  present : List Nat
  complete : Bool
  deriving DecidableEq, Repr

/-- A message: its header and body. -/
structure Message where
  header : Header
  body : List Byte
  deriving DecidableEq, Repr

/-- A slot of the non-volatile memory: its marks and what can be read of it (R151). -/
structure Cell where
  begun : Bool
  complete : Bool
  deleted : Bool
  message : Option Message
  deriving DecidableEq, Repr

/-- A block of the non-volatile memory (R151). -/
structure FlashBlock where
  erases : Nat
  retired : Bool
  /-- the block header can be read; a damaged block's cannot -/
  readable : Bool
  cells : List Cell
  deriving DecidableEq, Repr

/-- The non-volatile memory: 16 blocks and the settings area, absent when blank or unreadable. -/
structure Flash where
  blocks : List FlashBlock
  settings : Option Descriptor
  deriving DecidableEq, Repr

/-- States of a slot in the volatile index (R152). -/
inductive SlotState where
  | free
  | reserved
  | live
  | deleted
  | retired
  deriving DecidableEq, Repr

/-- Why a slot's DELETED mark is programmed. -/
inductive MarkReason where
  /-- STORE_DELETE, with the tickets that wait for it (R160) -/
  | delete (tickets : List Nat)
  /-- the original of a KEEP (R159) -/
  | keep (ticket : Nat)
  /-- the original, or the unwanted copy, of a relocation (R160, R162) -/
  | relocation
  /-- the start-up scan's repair of a doubled number (R163) -/
  | repair
  deriving DecidableEq, Repr

/-- Operations of the store (R154). -/
inductive StoreOp where
  | write (slot : SlotId) (message : Message)
  | keepCopy (number : Nat) (source target : SlotId) (ticket : Nat)
  /-- dropped: the message was deleted while the copy ran (R160) -/
  | relocCopy (number : Nat) (source target : SlotId) (dropped : Bool)
  | mark (slot : SlotId) (why : MarkReason)
  | retireMark (block : Nat)
  /-- repair: an erase of the start-up scan (R163) -/
  | erase (block : Nat) (repair : Bool)
  | settings (d : Descriptor) (ticket : Nat)
  deriving DecidableEq, Repr

/-- The operation running or suspended: unsuspended slots accumulated until `since`, which is absent while suspended. -/
structure Running where
  op : StoreOp
  accumulated : Nat
  since : Option Slot
  deriving DecidableEq, Repr

/-- The message store. -/
structure Store where
  flash : Flash
  /-- the volatile index: 16 lists of 8 states -/
  index : List (List SlotState)
  /-- blocks retired in the volatile index (R157) -/
  retired : List Nat
  queue : List StoreOp
  running : Option Running
  descriptor : Descriptor
  /-- a settings fault stands: the latest rewrite failed -/
  fault : Bool
  reclaim : Option Nat
  nextNumber : Nat
  /-- MODEL: whether the usable count was 2 or more when last compared (R166, SPACE) -/
  roomy : Bool
  deriving DecidableEq, Repr

/-! ## The power controller (10) -/

/-- Power states. -/
inductive PowerState where
  | run
  | doze
  | dormant
  deriving DecidableEq, Repr

/-- Reset kinds. -/
inductive ResetKind where
  | powerOn
  | line
  | request
  deriving DecidableEq, Repr

/-- The course of a RESET request (R174). -/
inductive ResetWait where
  | none
  /-- answered; its reply is not yet sent -/
  | replying
  /-- everything but the store has stopped -/
  | stopping
  deriving DecidableEq, Repr

/-- The power controller (10.1). -/
structure Power where
  state : PowerState
  doze : Bool
  pending : Bool
  wake : Option Slot
  /-- phase OPERATING; STARTING when false -/
  operating : Bool
  kind : ResetKind
  /-- held in reset: RESETN asserted, or the supplies or XREF not yet good (R173) -/
  held : Bool
  wait : ResetWait
  deriving DecidableEq, Repr

/-! ## What the host is told -/

/-- Snapshots of the notices (R183). -/
inductive Snapshot where
  | ready (kind : ResetKind) (free reserved live deleted retired : Nat)
  | radio (silent : Bool) (reason : RadioReason) (failed : Nat)
  | call (id : CallId) (sub : Sub) (direction : Direction) (state : CallState) (number : Option Digits)
      (cause : Option CallCause) (answered moving : Bool)
  | sub (x : Sub) (state : SubState) (camped : Option (CellId × Nat)) (area : Option Nat) (key : BitVec 16)
      (registration : Option RegResult) (reason : Option NoServiceReason) (textWaiting memoryFull : Bool) (notKept : Nat)
  | text (x : Sub) (assembling ready sending ended : Nat) (outcomes : List (Byte × TextOutcome)) (received : Nat)
      (latest : Option Nat) (incomplete opened unwritten : Nat) (memoryFull : Bool)
  | store (free reserved live deleted retired usable retiredBlocks : Nat) (descriptor : Descriptor) (reclaim : Option Nat)
  | link (gap cut badChar length overrun : Nat)
  | meas (x : Sub) (dedicated : Bool) (serving : Option Nat) (candidates : List (Nat × CellId × Nat × Int))
  deriving DecidableEq, Repr

/-- An entry of the notice outbox: the latest snapshot, and the change flags since the entry was made (R183). -/
structure Notice where
  snapshot : Snapshot
  flags : BitVec 16
  deriving DecidableEq, Repr

/-- Reply statuses (R181). -/
inductive Status where
  | done
  | malformed
  | badValue
  | wrongState
  | noRoom
  | protected_
  | unknownItem
  | busy
  | starting
  deriving DecidableEq, Repr

/-- A listed message (R165). -/
structure Listed where
  header : Header
  length : Nat
  protected_ : Bool
  deriving DecidableEq, Repr

/-- What SUB_QUERY shows (R42). -/
structure SubView where
  sub : Sub
  record : SubRec
  /-- the purposes of its request in the engagement queue, if it has one -/
  queued : Option (List Purpose)
  deriving DecidableEq, Repr

/-- The connection details of CALL_QUERY (R101). -/
structure ConnView where
  cell : CellId
  rx : Nat
  tx : Nat
  counter : Nat
  tolerance : Nat
  deriving DecidableEq, Repr

/-- One call record in a CALL_QUERY reply (R101). -/
structure CallView where
  id : CallId
  record : CallRec
  /-- slots left of the call timer -/
  left : Option Nat
  connection : Option ConnView
  deriving DecidableEq, Repr

/-- One subscription in a MEAS_QUERY reply (R79). -/
structure MeasView where
  mode : Mode
  ended : Nat
  opened : Nat
  target : Option Nat
  stage : ReselStage
  sinceReport : Option Nat
  reportWaits : Bool
  deriving DecidableEq, Repr

/-- One outbox entry in an OUTBOX_QUERY reply (R150): the entry, and the slots left of its timer. -/
structure OutView where
  entry : OutEntry
  left : Option Nat
  deriving DecidableEq, Repr

/-- One reassembly entry in an OUTBOX_QUERY reply (R150). -/
structure ReasView where
  entry : Reassembly
  left : Option Nat
  deriving DecidableEq, Repr

/-- One subscription in an OUTBOX_QUERY reply (R150). -/
structure TextView where
  incoming : Bool
  idleLeft : Option Nat
  readySent : Bool
  deriving DecidableEq, Repr

/-- One block in a STORE_QUERY reply (R166). -/
structure BlockView where
  erases : Nat
  retired : Bool
  protected_ : Bool
  free : Nat
  reserved : Nat
  live : Nat
  deleted : Nat
  retiredSlots : Nat
  deriving DecidableEq, Repr

/-- The next step of a reclaim (R162). -/
inductive ReclaimStep where
  | relocate
  | erase
  deriving DecidableEq, Repr

/-- What STORE_QUERY shows (R166). -/
structure StoreView where
  free : Nat
  reserved : Nat
  live : Nat
  deleted : Nat
  retired : Nat
  usable : Nat
  blocks : List BlockView
  descriptor : Descriptor
  fault : Bool
  reclaim : Option (Nat × ReclaimStep)
  running : Option (StoreOp × Nat)
  queued : Nat
  nextNumber : Nat
  deriving DecidableEq, Repr

/-- The result of a reply, present when the status is DONE (R181). -/
inductive Result where
  | none
  | identity (revision : Byte) (operating : Bool) (kind : ResetKind)
  | power (state : PowerState) (doze pending : Bool)
  | subscription (v : SubView)
  | measurement (entries : List Entry) (a b : MeasView)
  | callId (id : CallId)
  | calls (vs : List CallView)
  | voice (v : Voice)
  | outbox (out : List OutView) (entries parts : Nat) (table : List ReasView) (recent : List Recent) (a b : TextView)
  | listing (messages : List Listed) (more : Bool)
  | octets (body : List Byte)
  | storage (v : StoreView)
  deriving DecidableEq, Repr

/-- A filled reply (R180, R181). -/
structure Reply where
  tag : Byte
  code : Byte
  status : Status
  stamp : Slot
  result : Result
  /-- segments already sent -/
  sent : Nat
  deriving DecidableEq, Repr

/-! ## The command link (11) -/

/-- The link receiver (R178); in a frame it holds the octets stored after the sync. -/
inductive Receiver where
  | hunting
  | inFrame (octets : List Byte)
  | awaiting
  deriving DecidableEq, Repr

/-- A request in the inbox. -/
structure Tagged where
  tag : Byte
  request : Request
  deriving DecidableEq, Repr

/-- A reserved position of the reply queue (R180). The ticket is the model's name for the position. -/
structure Reserved where
  ticket : Nat
  tag : Byte
  code : Byte
  deriving DecidableEq, Repr

/-- The frame going out on CLTX. -/
structure Sending where
  octets : List Byte
  /-- a segment of the oldest filled reply; a notice when false -/
  reply : Bool
  deriving DecidableEq, Repr

/-- The five LINK counts (R186). -/
structure LinkCounts where
  gap : Nat
  cut : Nat
  badChar : Nat
  length : Nat
  overrun : Nat
  deriving DecidableEq, Repr

/-- The command link controller. Of the 8 reply positions those reserved and filled are listed; the others are free. -/
structure Link where
  receiver : Receiver
  inbox : List Tagged
  reserved : List Reserved
  /-- filled replies in the order they were filled -/
  filled : List Reply
  outbox : List Notice
  sending : Option Sending
  /-- level of CLRDY -/
  clrdy : Bool
  counts : LinkCounts
  deriving DecidableEq, Repr

/-! ## Reports between blocks -/

/-- MODEL: a report one block has for another that is taken once the present action is settled (R51). -/
inductive Report where
  /-- a window ended SKIPPED -/
  | skipped (w : Window) (cause : SkipCause) (winner : Option Class)
  /-- a subscription's rounds may have no open attempt left (R64, R67) -/
  | rounds (x : Sub)
  /-- a count of the index, a flag or an operation changed (R161, R166) -/
  | storeChanged
  /-- the number of usable slots rose (R156) -/
  | usableRose
  deriving DecidableEq, Repr

/-! ## The machine -/

/-- The whole state of the part. -/
structure State where
  /-- commands waiting, first in, first out -/
  pending : List Instr
  /-- MODEL: reports not yet taken; empty between commands -/
  reports : List Report
  /-- the part slot counter (R1) -/
  now : Slot
  /-- MODEL: how many free values have been drawn -/
  draws : Nat
  /-- MODEL: sequence values handed out, for the moments the manual compares -/
  moments : Nat
  cal : Calendar
  subs : Two SubRec
  /-- the engagement queue (R34) -/
  engQueue : List EngRequest
  engaged : Option Engaged
  meas : Meas
  calls : Calls
  ctx : CtxUnit
  voice : Voice
  text : Text
  store : Store
  power : Power
  link : Link
  deriving DecidableEq, Repr

/-- The reasons the machine stops with a fault. There is none: the manual names no event that stops the part, and every command
has a next state. -/
inductive Fault where
  deriving DecidableEq, Repr

/-- The reasons the machine refuses a command. -/
inductive Refusal where
  /-- Raised by `exec` for a command that has no meaning yet; no command is left so. SAFE. -/
  | notModelled (mnemonic : String)
  deriving DecidableEq, Repr

/-! ## Reset values -/

/-- R20, with the record's own slot fixed. -/
def SubRec.reset : SubRec :=
  { state := .empty, identity := none, key := none, area := none, channels := [], camped := none, misses := 0, downlink := 0,
    strikes := 0, guard := 3, notices := false, registration := none, reason := none, textWaiting := false,
    memoryFull := false, areaChanged := false, target := none, notKept := 0, search := .none, page := none, refresh := none,
    retry := none, regGuard := none, detaching := none }

/-- R60. -/
def MeasSub.reset : MeasSub :=
  { mode := .none, rounds := [], resel := .none, sinceReport := none, evaluations := 0, reference := none, dedWindows := [],
    dedNext := 0, dedHeld := false }

/-- R81. -/
def CallRec.reset : CallRec :=
  { sub := none, direction := none, state := .free, number := none, cause := none, answered := false, arrived := false,
    moving := false, ringWaits := false, timer := none }

/-- R103. -/
def CtxUnit.reset : CtxUnit :=
  { active := none, spare := none, queue := [], waiting := [], nextMsg := 0, carrying := [], release := .stopped,
    doneSent := false, handover := .none, frames := [], nextFrame := 0, areaRead := none, regFailed := none,
    textBegun := false }

/-- R59, R17, R19. -/
def Calendar.reset : Calendar :=
  { windows := [], counter := 0, failed := 0, silent := false, reason := none, outstanding := [], nextOrder := 0,
    quiet := true }

/-- R129: the defaults. -/
def VoiceSettings.reset : VoiceSettings :=
  { clock := .drive, frame := .drive, rate := .khz512, activeHigh := true, idleLow := true }

/-- R119: the port counters. -/
def PortCounts.zero : PortCounts :=
  { good := 0, damaged := 0, lost := 0, signal := 0, stolen := 0, outGood := 0, outDamaged := 0, outFill := 0, outHeld := 0,
    silence := 0, downOverflow := 0, trims := 0, upOverflow := 0, upDiscard := 0 }

/-- R119. -/
def Voice.reset : Voice :=
  { running := false, settings := .reset, down := [], playing := false, resumed := false, hold := false, store := none,
    repeats := 0, trim := 0, up := [], counts := .zero, shortFrames := 0, frame := none, lastFrame := none }

/-- R134. -/
def TextSub.reset : TextSub :=
  { incoming := false, idle := .stopped, readySent := false, outcomes := [], received := 0, latest := none, incomplete := 0 }

/-- R134. -/
def Text.reset : Text := { outbox := [], table := [], recent := [], subs := .both .reset }

/-- A slot in the erased condition (R151). -/
def Cell.erased : Cell := { begun := false, complete := false, deleted := false, message := none }

/-- DESIGN CHOICE (log 5): a part fresh from the factory has every block erased, never erased since, and a blank settings
area. The manual gives the memory's content on first power-on nowhere. -/
def Flash.blank : Flash :=
  { blocks := List.replicate 16 { erases := 0, retired := false, readable := true, cells := List.replicate 8 .erased },
    settings := none }

/-- The descriptor in force when the settings area is blank (R158). -/
def Descriptor.default : Descriptor := { high := false, count := 0, invert := false }

/-- The volatile state of the store before the start-up scan has read the memory (DESIGN CHOICE, log 65). -/
def Store.beforeScan (f : Flash) : Store :=
  { flash := f, index := List.replicate 16 (List.replicate 8 .free), retired := [], queue := [], running := none,
    descriptor := .default, fault := false, reclaim := none, nextNumber := 1, roomy := true }

/-- R187, with CLRDY as the host drives it. -/
def Link.reset (clrdy : Bool) : Link :=
  { receiver := .hunting, inbox := [], reserved := [], filled := [], outbox := [], sending := none,
    clrdy := clrdy, counts := { gap := 0, cut := 0, badChar := 0, length := 0, overrun := 0 } }

/-- R167; the part is held in reset (R173). -/
def Power.reset (k : ResetKind) : Power :=
  { state := .run, doze := false, pending := false, wake := none, operating := false, kind := k, held := true, wait := .none }

/-- Right after power-on: every block at its reset values (R173), the part held in reset until RESETN is released. CLRDY is an
input; it is taken to be deasserted (DESIGN CHOICE, log 6) (DESIGN CHOICE, log 64). -/
def State.reset : State :=
  { pending := [], reports := [], now := 0, draws := 0, moments := 0, cal := .reset, subs := .both .reset, engQueue := [],
    engaged := none, meas := { entries := [], subs := .both .reset }, calls := { one := .reset, two := .reset },
    ctx := .reset, voice := .reset, text := .reset, store := .beforeScan .blank, power := .reset .powerOn,
    link := .reset false }

end Sys2Proof.Machine
end

