-- ==== Sys2Proof/Machine/Ops.lean ====
section
/-! DEFINITION. Shared operations: slot and frame arithmetic, acceptance of what the air brings, access to the records,
notices, replies, and the uplink signalling queue. -/

namespace Sys2Proof.Machine

open Sys2Proof

/-! ## Slots and frames (R1, R2) -/

/-- The slot value n slots later. -/
def slotAdd (s : Slot) (n : Nat) : Slot := s + BitVec.ofNat 32 n

/-- How many slots t lies after s, by difference. -/
def slotsTo (s t : Slot) : Nat := (t - s).toNat

/-- Slot s is later than slot t (Conventions, Time). -/
def isLater (s t : Slot) : Bool := decide (1 ≤ slotsTo t s ∧ slotsTo t s < 2 ^ 31)

/-- The counter value now is t or later. -/
def reached (now t : Slot) : Bool := decide (slotsTo t now < 2 ^ 31)

/-- Slot t lies at least n slots after now. -/
def liesAhead (now t : Slot) (n : Nat) : Bool := decide (n ≤ slotsTo now t ∧ slotsTo now t < 2 ^ 31)

/-- The slots left until an expiry, 0 once it is reached. -/
def slotsLeft (now expiry : Slot) : Nat := if reached now expiry then 0 else slotsTo now expiry

/-- The slots of one wrap of the cell frame number (R2). -/
def wrapSlots : Nat := 655360

/-- Slot j of cell frame f: the first value of the series of R2 that is not earlier than the counter. -/
def frameSlot (a : Anchor) (f : FrameNo) (j : Nat) (now : Slot) : Slot :=
  let base := slotAdd a.s0 (10 * (f - a.f0).toNat + j)
  if isLater now base then slotAdd base (wrapSlots * ((slotsTo base now + wrapSlots - 1) / wrapSlots)) else base

/-- The first frame f of the cell with f mod m = r mod m whose slot j lies at least `lead` slots after the counter, and that
slot. m divides 65536. -/
def nextFrame (a : Anchor) (now : Slot) (lead j m r : Nat) : FrameNo × Slot :=
  let behind := slotsTo (slotAdd a.s0 j) (slotAdd now lead)
  let n0 := if behind < 2 ^ 31 then (behind + 9) / 10 else 0
  let n := n0 + (r % m + m - (a.f0.toNat + n0) % m) % m
  (a.f0 + BitVec.ofNat 16 n, slotAdd a.s0 (10 * n + j))

/-- The next frame 0 of a cycle whose slot 0 lies at least 3 slots ahead. -/
def nextCycle (a : Anchor) (now : Slot) : FrameNo × Slot := nextFrame a now 3 0 64 0

/-- The frame 0 of the cycle after the one in which a read stood that started, or was to start, at a slot. -/
def cycleAfter (a : Anchor) (now start : Slot) : FrameNo × Slot :=
  if isLater start now then nextFrame a start 10 0 64 0 else nextCycle a now

/-! ## What the air brings (R3 to R8) -/

/-- R3: a reported level clamped to a level code. -/
def clampLevel (l : Int) : Nat := (max 0 (min 200 l)).toNat

/-- R5: every field of a BEACON lies in its range, and its frame number is a multiple of 64. -/
def beaconInRange (b : Beacon) : Bool :=
  decide (b.code ≤ 4095 ∧ b.area ≤ 65535 ∧ b.frame.toNat % 64 = 0 ∧ b.listen ≤ 3 ∧ b.depth ≤ 5 ∧ b.hysteresis ≤ 20 ∧
    1 ≤ b.trigger ∧ b.trigger ≤ 15 ∧ b.floor ≤ 200 ∧ 4 ≤ b.tolerance ∧ b.tolerance ≤ 64 ∧ b.neighbours.length ≤ 16 ∧
    b.pages.length ≤ 4) &&
  b.neighbours.all fun n => decide (n.cell.channel ≤ 2047 ∧ n.cell.code ≤ 4095 ∧ -20 ≤ n.offset ∧ n.offset ≤ 20)

/-- R4: a decoded block whose lists and fields are as the air protocol states; any other is handed on as BLOCK_BAD. -/
def blockInForm : Block → Bool
  | .beacon b => beaconInRange b
  | .control _ pages grants => decide (pages.length ≤ 4 ∧ grants.length ≤ 2)
  | .grant _ grants => decide (grants.length ≤ 2)
  | .voice _ _ => true
  | .sig _ _ => true

/-- The cell frame number a block carries (R4). -/
def blockFrame : Block → FrameNo
  | .beacon b => b.frame
  | .control f _ _ => f
  | .voice f _ => f
  | .sig f _ => f
  | .grant f _ => f

/-- R5: the neighbour list without the beacon's own cell and without later entries of a pair already named. -/
def cleanNeighbours (own : CellId) (ns : List Neighbour) : List Neighbour :=
  ns.foldl (fun acc n => if n.cell = own ∨ acc.any (fun m => decide (m.cell = n.cell)) then acc else acc ++ [n]) []

/-- The beacon parameters held with a cell. -/
def beaconParams (b : Beacon) : Params :=
  { barred := b.barred, listen := b.listen, depth := b.depth, hysteresis := b.hysteresis, trigger := b.trigger,
    floor := b.floor, tolerance := b.tolerance, time := b.time }

/-- The cell an accepted BEACON was read from, with the anchor the reading window gives (R2). -/
def beaconCell (b : Beacon) (channel : Nat) (start : Slot) : CampedCell :=
  { cell := { channel := channel, code := b.code }, area := b.area, anchor := { s0 := start, f0 := b.frame },
    params := beaconParams b, lastBeacon := b.frame }

/-- R8: a GRANT entry is valid. -/
def grantValid (g : Grant) : Bool :=
  decide (2 ≤ g.rx ∧ g.rx ≤ 9 ∧ 2 ≤ g.tx ∧ g.tx ≤ 9 ∧ (g.rx + 2 ≤ g.tx ∨ g.tx + 2 ≤ g.rx))

/-- R8: the first valid entry with the reference of the access in progress. -/
def grantFor (reference : Byte) (gs : List Grant) : Option Grant :=
  gs.find? fun g => grantValid g && decide (g.reference = reference)

/-- The rx and tx offsets of a JOIN or a MOVE lie in range (R14). -/
def offsetsInRange (rx tx : Nat) : Bool := grantValid { reference := 0, rx := rx, tx := tx }

/-- 1..20 digits, each 0..9 (DEDUCED, log 18). -/
def digitsInRange (ds : Digits) : Bool :=
  decide (1 ≤ ds.length ∧ ds.length ≤ 20) && ds.all fun d => decide (d.toNat ≤ 9)

/-- R12: every field of a downlink message lies in its range. A MOVE is checked by R106 instead. -/
def downInRange : DownMsg → Bool
  | .arrive (some caller) => digitsInRange caller
  | .arrive none => true
  | .join rx tx => offsetsInRange rx tx
  | .textPart reference index count sender body =>
    digitsInRange sender && decide (reference ≤ 255 ∧ 1 ≤ index ∧ index ≤ 8 ∧ 1 ≤ count ∧ count ≤ 8 ∧ body.length ≤ 96)
  | .textAck reference index => decide (reference ≤ 255 ∧ 1 ≤ index ∧ index ≤ 8)
  | .textRefuse reference _ => decide (reference ≤ 255)
  | .progress => true
  | .drop _ => true
  | .dropOk => true
  | .enrolOk _ => true
  | .enrolNo _ => true
  | .move _ _ _ _ _ _ => true
  | .release => true

/-- A subscription as a request names it (R185): 0 for A, 1 for B. -/
def subOf (o : Byte) : Option Sub := if o = 0 then some .A else if o = 1 then some .B else none

/-- A call id as a request names it. -/
def callIdOf (o : Byte) : Option CallId := if o = 1 then some .one else if o = 2 then some .two else none

/-- A setting of two values as an octet (R185) (DEDUCED, log 17). -/
def flagOf (o : Byte) : Option Bool := if o = 0 then some false else if o = 1 then some true else none

/-- The number of a call id. -/
def callNumber : CallId → Nat
  | .one => 1
  | .two => 2

/-! ## Records -/

/-- The record of a subscription. -/
def State.sub (s : State) (x : Sub) : SubRec := s.subs.get x

/-- The state with one subscription record changed. -/
def State.modSub (s : State) (x : Sub) (f : SubRec → SubRec) : State := { s with subs := s.subs.set x (f (s.subs.get x)) }

/-- A call record. -/
def State.call (s : State) : CallId → CallRec
  | .one => s.calls.one
  | .two => s.calls.two

/-- The state with one call record replaced. -/
def State.setCall (s : State) (i : CallId) (r : CallRec) : State :=
  match i with
  | .one => { s with calls := { s.calls with one := r } }
  | .two => { s with calls := { s.calls with two := r } }

/-- The measurement state of a subscription. -/
def State.measOf (s : State) (x : Sub) : MeasSub := s.meas.subs.get x

/-- The state with one measurement state changed. -/
def State.modMeas (s : State) (x : Sub) (f : MeasSub → MeasSub) : State :=
  { s with meas := { s.meas with subs := s.meas.subs.set x (f (s.meas.subs.get x)) } }

/-- The text transfer unit's state of a subscription. -/
def State.textOf (s : State) (x : Sub) : TextSub := s.text.subs.get x

/-- The state with the text transfer unit's state of a subscription changed. -/
def State.modText (s : State) (x : Sub) (f : TextSub → TextSub) : State :=
  { s with text := { s.text with subs := s.text.subs.set x (f (s.text.subs.get x)) } }

/-- The state with the dedicated context unit changed. -/
def State.modCtx (s : State) (f : CtxUnit → CtxUnit) : State := { s with ctx := f s.ctx }

/-- The state with the voice path changed. -/
def State.modVoice (s : State) (f : Voice → Voice) : State := { s with voice := f s.voice }

/-- The state with the power controller changed. -/
def State.modPower (s : State) (f : Power → Power) : State := { s with power := f s.power }

/-- The state with the command link controller changed. -/
def State.modLink (s : State) (f : Link → Link) : State := { s with link := f s.link }

/-- The state with the radio calendar changed. -/
def State.modCal (s : State) (f : Calendar → Calendar) : State := { s with cal := f s.cal }

/-- The state with the message store changed. -/
def State.modStore (s : State) (f : Store → Store) : State := { s with store := f s.store }

/-- The state with a report added for later. -/
def State.report (s : State) (r : Report) : State := { s with reports := s.reports ++ [r] }

/-- One free value's draw number, and the state with it used up. -/
def State.draw (s : State) : Nat × State := (s.draws, { s with draws := s.draws + 1 })

/-- A sequence value for a moment the manual compares with others (DEDUCED, log 34). -/
def State.moment (s : State) : Nat × State := (s.moments, { s with moments := s.moments + 1 })

/-- The blocks are running: power state RUN, not held in reset and not stopped for a requested reset (R172 to R174). -/
def State.awake (s : State) : Bool :=
  decide (s.power.state = .run ∧ s.power.held = false ∧ s.power.wait ≠ .stopping)

/-- A LEAVE purpose is open for the subscription (R40) (DEDUCED, log 41). -/
def State.leaving (s : State) (x : Sub) : Bool := (s.sub x).detaching.isSome

/-- The running connection of a subscription: the ACTIVE record, when it is the subscription's. -/
def State.connection (s : State) (x : Sub) : Option Context :=
  match s.ctx.active with
  | some c => if c.sub = x then some c else none
  | none => none

/-- A registration is open on the subscription's connection (R39). -/
def State.registering (s : State) (x : Sub) : Bool :=
  match s.connection x with
  | some c => c.purposes.contains .register
  | none => false

/-- A handover is in flight (6.1). -/
def State.inHandover (s : State) : Bool := decide (s.ctx.handover ≠ .none)

/-- A call record of the subscription is in use (5.1). -/
def State.inUse (s : State) (x : Sub) : Bool :=
  decide ((s.call .one).sub = some x ∧ (s.call .one).state ≠ .free) ||
    decide ((s.call .two).sub = some x ∧ (s.call .two).state ≠ .free)

/-- The call of the subscription's connection: its record that is neither FREE nor BLOCKED (5.1). -/
def State.callOf (s : State) (x : Sub) : Option CallId :=
  let is (i : CallId) : Bool :=
    decide ((s.call i).sub = some x ∧ (s.call i).state ≠ .free ∧ (s.call i).state ≠ .blocked)
  if is .one then some .one else if is .two then some .two else none

/-- The subscription's BLOCKED record. -/
def State.blockedOf (s : State) (x : Sub) : Option CallId :=
  let is (i : CallId) : Bool := decide ((s.call i).sub = some x ∧ (s.call i).state = .blocked)
  if is .one then some .one else if is .two then some .two else none

/-- A call is CONNECTED. -/
def State.voiceCall (s : State) : Bool := decide (s.calls.one.state = .connected ∨ s.calls.two.state = .connected)

/-- The link tolerance in force for a subscription's connection (R97). -/
def State.tolerance (s : State) (x : Sub) : Nat :=
  match (s.sub x).camped with
  | some c => c.params.tolerance
  | none => 0

/-- The candidate of a search (R25). -/
def Search.found : Search → Option CampedCell
  | .candidate c _ _ _ => some c
  | _ => Option.none

/-! ## Timers -/

/-- A timer set for d slots (R1). -/
def State.timerFor (s : State) (d : Nat) : Slot := slotAdd s.now d

/-- R108: a running timer held with the slots it has left. -/
def Timer.hold (now : Slot) : Timer → Timer
  | .running e => .held (slotsLeft now e)
  | t => t

/-- A held timer running on. -/
def Timer.resume (now : Slot) : Timer → Timer
  | .held n => .running (slotAdd now n)
  | t => t

/-- The slots left of a timer, absent when it is stopped. -/
def Timer.left (now : Slot) : Timer → Option Nat
  | .running e => some (slotsLeft now e)
  | .held n => some n
  | .stopped => none

/-- A timer has expired. -/
def Timer.expired (now : Slot) : Timer → Bool
  | .running e => reached now e
  | _ => false

/-- A plain timer has expired. -/
def expired (now : Slot) : Option Slot → Bool
  | some e => reached now e
  | none => false

/-! ## Notices (R183) -/

/-- The kinds of notice, in order of priority. -/
inductive NoticeKind where
  | ready
  | radio
  | call
  | sub
  | text
  | store
  | link
  | meas
  deriving DecidableEq, Repr

/-- The priority of a kind: a smaller number goes first. -/
def NoticeKind.rank : NoticeKind → Nat
  | .ready => 0
  | .radio => 1
  | .call => 2
  | .sub => 3
  | .text => 4
  | .store => 5
  | .link => 6
  | .meas => 7

/-- The number a subscription has as a notice key (R177). -/
def subKey : Sub → Nat
  | .A => 1
  | .B => 2

/-- Kind and key of a snapshot. -/
def Snapshot.key : Snapshot → NoticeKind × Nat
  | .ready _ _ _ _ _ _ => (.ready, 0)
  | .radio _ _ _ => (.radio, 0)
  | .call id _ _ _ _ _ _ _ => (.call, callNumber id)
  | .sub x _ _ _ _ _ _ _ _ _ => (.sub, subKey x)
  | .text x _ _ _ _ _ _ _ _ _ _ _ => (.text, subKey x)
  | .store _ _ _ _ _ _ _ _ _ => (.store, 0)
  | .link _ _ _ _ _ => (.link, 0)
  | .meas x _ _ _ => (.meas, subKey x)

/-- R183: a posting into the outbox, making an entry or replacing the snapshot of the one there and adding the flags. -/
def postIn (snap : Snapshot) (flags : BitVec 16) : List Notice → List Notice
  | [] => [{ snapshot := snap, flags := flags }]
  | n :: rest =>
    if n.snapshot.key = snap.key then { snapshot := snap, flags := n.flags ||| flags } :: rest
    else n :: postIn snap flags rest

/-- A block posts a notice. -/
def State.post (s : State) (snap : Snapshot) (flags : BitVec 16) : State :=
  s.modLink fun l => { l with outbox := postIn snap flags l.outbox }

/-- Change flags of the SUB notice (R42). -/
def SubFlag.state : BitVec 16 := 1
def SubFlag.cell : BitVec 16 := 2
def SubFlag.registration : BitVec 16 := 4
def SubFlag.key : BitVec 16 := 8
def SubFlag.textWaiting : BitVec 16 := 16
def SubFlag.notKept : BitVec 16 := 32

/-- Change flags of the CALL notice (R102). -/
def CallFlag.state : BitVec 16 := 1
def CallFlag.progressed : BitVec 16 := 2
def CallFlag.caller : BitVec 16 := 4
def CallFlag.moved : BitVec 16 := 8
def CallFlag.moveFailed : BitVec 16 := 16

/-- Change flags of the TEXT notice (R149). -/
def TextFlag.outcome : BitVec 16 := 1
def TextFlag.received : BitVec 16 := 2
def TextFlag.memory : BitVec 16 := 4
def TextFlag.unwritten : BitVec 16 := 8

/-- Change flags of the STORE notice (R166). -/
def StoreFlag.space : BitVec 16 := 1
def StoreFlag.reclaim : BitVec 16 := 2
def StoreFlag.fault : BitVec 16 := 4
def StoreFlag.settings : BitVec 16 := 8
def StoreFlag.protection : BitVec 16 := 16

/-- Change flags of the MEAS notice (R80). -/
def MeasFlag.level : BitVec 16 := 1
def MeasFlag.best : BitVec 16 := 2

/-- The SUB snapshot of a subscription (R42). -/
def State.subSnapshot (s : State) (x : Sub) : Snapshot :=
  let r := s.sub x
  .sub x r.state
    (if r.state = .camped ∨ r.state = .engaged then r.camped.map fun c => (c.cell, c.area) else none)
    r.area (r.key.getD 0) r.registration r.reason r.textWaiting r.memoryFull r.notKept

/-- The subscription controller posts the SUB notice. -/
def State.postSub (s : State) (x : Sub) (flags : BitVec 16) : State := s.post (s.subSnapshot x) flags

/-- The CALL snapshot of a record that has been taken (R102). -/
def State.callSnapshot (s : State) (i : CallId) : Snapshot :=
  let r := s.call i
  .call i (r.sub.getD .A) (r.direction.getD .out) r.state r.number r.cause r.answered r.moving

/-- The call controller posts the CALL notice. -/
def State.postCall (s : State) (i : CallId) (flags : BitVec 16) : State := s.post (s.callSnapshot i) flags

/-- How many outbox entries of a subscription stand in a state. -/
def State.outCount (s : State) (x : Sub) (p : OutState → Bool) : Nat :=
  s.text.outbox.countP fun e => decide (e.sub = x) && p e.state

/-- The TEXT snapshot of a subscription (R149). -/
def State.textSnapshot (s : State) (x : Sub) : Snapshot :=
  let t := s.textOf x
  .text x (s.outCount x fun st => decide (st = .assembling)) (s.outCount x fun st => decide (st = .ready))
    (s.outCount x fun st => decide (st = .sending)) (s.outCount x fun st => decide (st = .sent ∨ st = .failed))
    t.outcomes t.received t.latest t.incomplete
    (s.text.table.countP fun e => decide (e.sub = x ∧ e.closing = none))
    (s.text.table.countP fun e => decide (e.sub = x ∧ e.unwritten = true)) (s.sub x).memoryFull

/-- The text transfer unit posts the TEXT notice. -/
def State.postText (s : State) (x : Sub) (flags : BitVec 16) : State := s.post (s.textSnapshot x) flags

/-- The radio calendar posts the RADIO notice (R19); its one change flag is STATE. -/
def State.postRadio (s : State) (why : RadioReason) : State :=
  s.post (.radio s.cal.silent why (min s.cal.failed 255)) 1

/-- A count 0..255 raised by 1 (R186). -/
def bump255 (n : Nat) : Nat := min (n + 1) 255

/-- A count 0..65535 raised by 1 (R133). -/
def bump65535 (n : Nat) : Nat := min (n + 1) 65535

/-- The reasons of the LINK notice (R186). -/
inductive LinkReason where
  | gap
  | cut
  | badChar
  | length
  | overrun
  deriving DecidableEq, Repr

/-- The change flag of a reason. -/
def LinkReason.flag : LinkReason → BitVec 16
  | .gap => 1
  | .cut => 2
  | .badChar => 4
  | .length => 8
  | .overrun => 16

/-- The counts with one raised. -/
def LinkCounts.raise (c : LinkCounts) : LinkReason → LinkCounts
  | .gap => { c with gap := bump255 c.gap }
  | .cut => { c with cut := bump255 c.cut }
  | .badChar => { c with badChar := bump255 c.badChar }
  | .length => { c with length := bump255 c.length }
  | .overrun => { c with overrun := bump255 c.overrun }

/-- R186: a loss on the link is counted and posted. -/
def State.linkLoss (s : State) (r : LinkReason) : State :=
  let s := s.modLink fun l => { l with counts := l.counts.raise r }
  s.post (.link s.link.counts.gap s.link.counts.cut s.link.counts.badChar s.link.counts.length s.link.counts.overrun) r.flag

/-! ## Replies (R180, R181) -/

/-- Positions of the reply queue that are not free. -/
def Link.used (l : Link) : Nat := l.reserved.length + l.filled.length

/-- The number of positions (R180). -/
def replyPositions : Nat := 8

/-- A reply fills a free position at once. -/
def State.fill (s : State) (tag code : Byte) (st : Status) (res : Result) : State :=
  s.modLink fun l =>
    { l with filled := l.filled ++ [{ tag := tag, code := code, status := st, stamp := s.now, result := res, sent := 0 }] }

/-- The owner answers a dispatched request: its reserved position becomes filled. An unknown ticket answers nothing. -/
def State.answer (s : State) (ticket : Nat) (st : Status) (res : Result) : State :=
  match s.link.reserved.find? fun r => decide (r.ticket = ticket) with
  | some r => (s.modLink fun l => { l with reserved := l.reserved.eraseP fun q => decide (q.ticket = ticket) }).fill r.tag r.code st res
  | none => s

/-- A reply without a result. -/
def State.refuse (s : State) (ticket : Nat) (st : Status) : State := s.answer ticket st .none

/-- ATTN (R184): a filled reply or a notice waits, in STARTING too (DEDUCED, log 9). -/
def State.attn (s : State) : Bool := !s.link.filled.isEmpty || !s.link.outbox.isEmpty

/-! ## The uplink signalling queue (R105, R12) -/

/-- The most messages the queue holds. -/
def queueRoom : Nat := 4

/-- Offers waiting for room enter the queue, one as each position frees. -/
def CtxUnit.fillRoom (c : CtxUnit) : CtxUnit :=
  let n := queueRoom - c.queue.length
  { c with queue := c.queue ++ c.waiting.take n, waiting := c.waiting.drop n }

/-- A message is offered to the queue. -/
def State.offer (s : State) (m : UpMsg) : State :=
  s.modCtx fun c =>
    let q : Queued := { id := c.nextMsg, msg := m }
    CtxUnit.fillRoom { c with waiting := c.waiting ++ [q], nextMsg := c.nextMsg + 1 }

/-- MEAS_REPORT. -/
def UpMsg.isReport : UpMsg → Bool
  | .measReport _ _ => true
  | _ => false

/-- R105, R78: messages that leave the queue wait again, ahead of the offers that wait already. A report among them is replaced by
the newer one that waits, which takes its place (DEDUCED, log 40). -/
def waitAgain (back waiting : List Queued) : List Queued :=
  match waiting.find? fun q => q.msg.isReport with
  | some r =>
    if back.any fun q => q.msg.isReport then
      (back.map fun q => if q.msg.isReport then { q with msg := r.msg } else q) ++ waiting.filter fun q => !q.msg.isReport
    else back ++ waiting
  | none => back ++ waiting

/-- R105: MOVE_DONE or MOVE_FAIL is placed at the head; with 4 in the queue the newest leaves it and waits. The newest is the
one at the tail, also when a message placed at the head earlier is younger (DEDUCED, log 75). -/
def State.placeHead (s : State) (m : UpMsg) : State :=
  s.modCtx fun c =>
    let q : Queued := { id := c.nextMsg, msg := m }
    { c with
      queue := q :: c.queue.take (queueRoom - 1)
      waiting := waitAgain (c.queue.drop (queueRoom - 1)) c.waiting
      nextMsg := c.nextMsg + 1 }

/-- An ORDERED DED_TX window carries the message with a number (R12). -/
def CtxUnit.carries (c : CtxUnit) (id : Nat) : Bool := c.carrying.any fun p => decide (p.2 = id)

/-- Unsent messages are removed from the queue and from the blocks that hold them; a message that an ORDERED window carries
is treated as already sent (R12). -/
def State.removeMsgs (s : State) (p : UpMsg → Bool) : State :=
  s.modCtx fun c =>
    CtxUnit.fillRoom
      { c with
        queue := c.queue.filter fun q => !p q.msg || c.carries q.id
        waiting := c.waiting.filter fun q => !p q.msg }

/-- A message of this kind is still unsent. -/
def State.unsent (s : State) (p : UpMsg → Bool) : Bool :=
  (s.ctx.queue.any fun q => p q.msg && !s.ctx.carries q.id) || s.ctx.waiting.any fun q => p q.msg

/-- A message of this kind is carried by an ORDERED window. -/
def State.carried (s : State) (p : UpMsg → Bool) : Bool :=
  s.ctx.queue.any fun q => p q.msg && s.ctx.carries q.id

/-- DONE. -/
def UpMsg.isDone : UpMsg → Bool
  | .done => true
  | _ => false

/-- DIAL. -/
def UpMsg.isDial : UpMsg → Bool
  | .dial _ => true
  | _ => false

/-- LEAVE. -/
def UpMsg.isLeave : UpMsg → Bool
  | .leave => true
  | _ => false

/-- ENROL. -/
def UpMsg.isEnrol : UpMsg → Bool
  | .enrol _ _ => true
  | _ => false

/-- STORE_READY. -/
def UpMsg.isStoreReady : UpMsg → Bool
  | .storeReady => true
  | _ => false

/-- A TEXT_PART of the message with this reference. -/
def UpMsg.isPartOf (reference : Nat) : UpMsg → Bool
  | .textPart r _ _ _ _ => decide (r = reference)
  | _ => false

/-- DONE counts as sent, or is carried by an ORDERED window, which R12 treats alike. -/
def State.doneGone (s : State) : Bool := s.ctx.doneSent || s.carried UpMsg.isDone

end Sys2Proof.Machine
end

