-- ==== Sys2Proof/Machine/Calendar.lean ====
section
/-! DEFINITION. The radio calendar: insertion and the settlement of conflicts, withdrawal, ordering, and the end of a window
as far as the calendar itself goes (R43 to R59, R17 to R19). -/

namespace Sys2Proof.Machine

open Sys2Proof

/-- The capacity of the calendar (R49). -/
def calendarRoom : Nat := 32

/-- Rank of a class, 0 for the highest (R44). -/
def Class.rank : Class → Nat
  | .access => 0
  | .pageStarved => 1
  | .dedicated => 2
  | .page => 3
  | .beacon => 4
  | .meas => 5
  | .search => 6

/-- Class c is higher than class d. -/
def Class.higher (c d : Class) : Bool := decide (c.rank < d.rank)

/-- What a block gives when it inserts a window (R43). -/
structure Insertion where
  owner : Owner
  reporter : Reporter
  purpose : WinPurpose
  channel : Nat
  start : Slot
  len : Nat
  slack : Option Nat
  block : Option TxBlock

/-- A subscription's PAGE window is starved: its miss count has reached its page guard (R52). -/
def State.starved (s : State) : Owner → Bool
  | .sub x => decide ((s.sub x).guard ≤ (s.sub x).misses)
  | .part => false

/-- The class of a window of a purpose (R44, R52). -/
def State.classFor (s : State) (p : WinPurpose) (o : Owner) : Class :=
  match p with
  | .accessTx => .access
  | .grantRx => .access
  | .pageRx => if s.starved o then .pageStarved else .page
  | .dedRx => .dedicated
  | .dedTx => .dedicated
  | .beaconRx => .beacon
  | .meas => .meas
  | .search => .search

/-! ## Conflict (R46) -/

/-- Two windows share a slot. -/
def shareSlot (a b : Window) : Bool :=
  decide (slotsTo a.start b.start < a.len ∨ slotsTo b.start a.start < b.len)

/-- One window's first slot is the slot right after the other's last. -/
def backToBack (a b : Window) : Bool :=
  decide (slotsTo a.start b.start = a.len ∨ slotsTo b.start a.start = b.len)

/-- Two windows conflict: a shared slot, or no free slot to retune between channels. -/
def conflict (a b : Window) : Bool := shareSlot a b || (decide (a.channel ≠ b.channel) && backToBack a b)

/-! ## Calendar order (R43) -/

/-- Window a stands before window b: an earlier start, or the older identity at equal starts. -/
def before (a b : Window) : Bool :=
  isLater b.start a.start || (decide (a.start = b.start) && isLater b.id a.id)

/-- A window put at its place in calendar order. -/
def place (w : Window) : List Window → List Window
  | [] => [w]
  | v :: rest => if before w v then w :: v :: rest else v :: place w rest

/-- An ORDERED window. -/
def Window.isOrdered (w : Window) : Bool := decide (w.state = .ordered)

/-- A PLANNED window. -/
def Window.isPlanned (w : Window) : Bool := decide (w.state = .planned)

/-- The highest class among windows. -/
def highestClass : List Window → Option Class
  | [] => none
  | w :: rest =>
    match highestClass rest with
    | some c => if w.cls.higher c then some w.cls else some c
    | none => some w.cls

/-! ## Settlement (R47 to R49) -/

/-- R48: the window at the earliest later start within its slack that conflicts with none of the windows given. -/
def replaceIn (ws : List Window) (w : Window) : Option Window :=
  match w.slack with
  | none => none
  | some k =>
    ((List.range (10 * k + 1)).find? fun m =>
      decide (slotsTo w.requested w.start < m) &&
        ws.all fun v => !conflict { w with start := slotAdd w.requested m } v).map
      fun m => { w with start := slotAdd w.requested m }

/-- A skip: the window as it stood, the cause and the winning class. -/
structure Skip where
  window : Window
  cause : SkipCause
  winner : Option Class

/-- R48: displaced windows re-placed one after another among the windows given. The newcomer takes part in the conflict
test but is not yet entered. -/
def replaceEach (newcomer : Window) : List Window → List Window → List Window × List Skip
  | [], ws => (ws, [])
  | w :: rest, ws =>
    match replaceIn (newcomer :: ws) w with
    | some w' => replaceEach newcomer rest (place w' ws)
    | none =>
      let (ws', skips) := replaceEach newcomer rest ws
      (ws', { window := w, cause := if w.slack.isSome then .noPlace else .displaced, winner := some newcomer.cls } :: skips)

/-- Window v is a better victim than window w: of lower class, then of later start, then of newer identity (R49). -/
def betterVictim (v w : Window) : Bool :=
  w.cls.higher v.cls ||
    (decide (v.cls = w.cls) && (isLater v.start w.start || (decide (v.start = w.start) && isLater v.id w.id)))

/-- R49: the victim among the PLANNED windows. -/
def victimOf : List Window → Option Window
  | [] => none
  | w :: rest =>
    match victimOf rest with
    | some v => if w.isPlanned && betterVictim w v then some w else some v
    | none => if w.isPlanned then some w else none

/-- R49: the newcomer is placed if there is room or a victim of lower class. A victim that was re-placed just before stands where it was
re-placed (DEDUCED, log 100). -/
def enter (w : Window) (ws : List Window) : List Window × List Skip × Bool :=
  if ws.length < calendarRoom then (place w ws, [], true)
  else
    match victimOf ws with
    | some v =>
      if w.cls.higher v.cls then
        (place w (ws.filter fun u => decide (u.id ≠ v.id)), [{ window := v, cause := .evicted, winner := none }], true)
      else (ws, [], false)
    | none => (ws, [], false)

/-- A skip put at its place in the order of former start slots (R51). -/
def placeSkip (k : Skip) : List Skip → List Skip
  | [] => [k]
  | j :: rest => if before k.window j.window then k :: j :: rest else j :: placeSkip k rest

/-- R47 to R49: a newcomer settled against the windows of the calendar. The windows after it, and the skips in the order
in which R51 reports them. A newcomer that was re-placed before it was refused for FULL is reported with the start it was re-placed
at (DEDUCED, log 106). -/
def settleIn (w : Window) (ws : List Window) : List Window × List Skip :=
  let rivals := ws.filter fun v => conflict w v
  let wins := rivals.all fun v => v.isPlanned && w.cls.higher v.cls
  if wins then
    let (ws', skips) := replaceEach w rivals (ws.filter fun v => !conflict w v)
    let (ws'', evicted, placed) := enter w ws'
    (ws'', evicted.foldl (fun acc k => placeSkip k acc) skips ++
      if placed then [] else [{ window := w, cause := .full, winner := none }])
  else
    match replaceIn ws w with
    | some w' =>
      let (ws', evicted, placed) := enter w' ws
      (ws', evicted ++ if placed then [] else [{ window := w', cause := .full, winner := none }])
    | none =>
      (ws, [{ window := w, cause := if w.slack.isSome then .noPlace else .outclassed, winner := highestClass rivals }])

/-! ## Insertion and withdrawal -/

/-- The window an insertion matches (R50) (DEDUCED, log 15). -/
def State.matching (s : State) (i : Insertion) : Option Window :=
  s.cal.windows.find? fun w =>
    decide (w.owner = i.owner ∧ w.reporter = i.reporter ∧ w.purpose = i.purpose ∧ w.channel = i.channel ∧
      w.start = i.start ∧ w.len = i.len ∧ w.withdrawn = false)

/-- The skips of one insertion reported (R51). -/
def State.reportSkips (s : State) (ks : List Skip) : State :=
  ks.foldl (fun s k => s.report (.skipped { k.window with state := .skipped } k.cause k.winner)) s

/-- The start slot is too near, or its ordering point falls within the first 20 slots after a reset (R43, R17). -/
def State.tooLate (s : State) (start : Slot) : Bool :=
  !liesAhead s.now start 3 || (s.cal.quiet && decide ((start - 2#32).toNat < 20))

/-- R43: the window an insertion makes. -/
def State.newWindow (s : State) (i : Insertion) : Window :=
  { id := s.cal.counter, owner := i.owner, reporter := i.reporter, purpose := i.purpose, cls := s.classFor i.purpose i.owner,
    channel := i.channel, start := i.start, len := i.len, requested := i.start, slack := i.slack, block := i.block,
    state := .planned, withdrawn := false }

/-- R43 to R51: an insertion. The answer is the window's identity (DEDUCED, log 11). -/
def State.insert (s : State) (i : Insertion) : WinId × State :=
  let drawn := s.modCal fun c => { c with counter := c.counter + 1 }
  match s.matching i with
  | some w => (w.id, drawn)
  | none =>
    let w := s.newWindow i
    if s.tooLate i.start then
      (w.id, drawn.report (.skipped { w with state := .skipped } .late none))
    else
      let (ws, skips) := settleIn w s.cal.windows
      (w.id, (drawn.modCal fun c => { c with windows := ws }).reportSkips skips)

/-- R55: a withdrawal by identity. -/
def State.withdraw (s : State) (id : WinId) : State :=
  s.modCal fun c =>
    { c with
      windows := (c.windows.filter fun w => !(decide (w.id = id) && w.isPlanned)).map fun w =>
        if w.id = id then { w with withdrawn := true } else w }

/-- R55: every window of a kind withdrawn. -/
def State.withdrawAll (s : State) (p : Window → Bool) : State :=
  s.modCal fun c =>
    { c with
      windows := (c.windows.filter fun w => !(p w && w.isPlanned)).map fun w =>
        if p w then { w with withdrawn := true } else w }

/-- Withdrawal of a window that may be absent. -/
def State.withdrawOpt (s : State) : Option WinId → State
  | some id => s.withdraw id
  | none => s

/-- R52: a PLANNED PAGE window is raised to PAGE_STARVED when the miss count has reached the guard. -/
def State.raiseStarved (s : State) (x : Sub) : State :=
  if s.starved (.sub x) then
    s.modCal fun c =>
      { c with
        windows := c.windows.map fun w =>
          if w.owner = .sub x ∧ w.purpose = .pageRx ∧ w.state = .planned ∧ w.cls = .page then { w with cls := .pageStarved }
          else w }
  else s

/-! ## Transmit windows and the store's erase (R58, R155) -/

/-- A window transmits. -/
def Window.transmits (w : Window) : Bool := decide (w.purpose = .accessTx ∨ w.purpose = .dedTx)

/-- A transmit window is ORDERED. -/
def State.transmitting (s : State) : Bool := s.cal.windows.any fun w => w.isOrdered && w.transmits

/-- A block erase. -/
def StoreOp.isErase : StoreOp → Bool
  | .erase _ _ => true
  | _ => false

/-- R155: a running erase is suspended while a transmit window is ORDERED and resumes when none is. -/
def State.syncErase (s : State) : State :=
  match s.store.running with
  | some r =>
    if r.op.isErase then
      match r.since with
      | some t =>
        if s.transmitting then
          s.modStore fun st => { st with running := some { r with accumulated := r.accumulated + slotsTo t s.now, since := none } }
        else s
      | none => if s.transmitting then s else s.modStore fun st => { st with running := some { r with since := some s.now } }
    else s
  | none => s

/-! ## Ordering and ending (R53, R54, R17 to R19) -/

/-- The ordering point of a window: start slot − 2. -/
def Window.orderingPoint (w : Window) : Slot := w.start - 2#32

/-- The result limit of a window: start slot + length + 2 (R18). -/
def Window.limit (w : Window) : Slot := slotAdd w.start (w.len + 2)

/-- The order a window becomes (R17). -/
def Window.order (w : Window) : Order :=
  match w.purpose with
  | .accessTx => .transmit w.channel w.start (w.block.getD .idle)
  | .dedTx => .transmit w.channel w.start (w.block.getD .idle)
  | .search => .sample w.channel w.start
  | .meas => .sample w.channel w.start
  | _ => if w.len = 10 then .acquire w.channel w.start else .receive w.channel w.start w.len

/-- A window becomes ORDERED with the block it carries, and its order goes out. -/
def State.orderWindow (s : State) (w : Window) (block : Option TxBlock) : State :=
  s.modCal fun c =>
    { c with
      windows := c.windows.map fun v => if v.id = w.id then { v with state := .ordered, block := block } else v
      outstanding := c.outstanding ++ [{ number := c.nextOrder, order := { w with block := block }.order, window := w.id }]
      nextOrder := c.nextOrder + 1 }

/-- A result is of a kind that an order expects (R18). -/
def expects : Order → FrontEndResult → Bool
  | .receive _ _ _, .block _ _ => true
  | .receive _ _ _, .blockBad _ => true
  | .acquire _ _, .timing _ _ _ => true
  | .acquire _ _, .blockBad _ => true
  | .transmit _ _ _, .sent => true
  | .sample _ _, .sample _ => true
  | _, _ => false

/-- An accepted result, with its level clamped (R3) and a block out of form taken as BLOCK_BAD (R4). -/
inductive Accepted where
  | block (b : Block) (level : Nat)
  | bad (level : Nat)
  | timing (offset : Nat) (frame : FrameNo) (level : Nat)
  | sent
  | sample (level : Nat)
  deriving DecidableEq, Repr

/-- R18, R3, R4: the result as it is handed to the owner. -/
def accept : FrontEndResult → Accepted
  | .block b l => if blockInForm b then .block b (clampLevel l) else .bad (clampLevel l)
  | .blockBad l => .bad (clampLevel l)
  | .timing o f l => .timing o.val f (clampLevel l)
  | .sent => .sent
  | .sample l => .sample (clampLevel l)

/-- How a window ended, as its owner is told. -/
inductive Ended where
  | done (r : Accepted)
  | failed
  | skipped (cause : SkipCause) (winner : Option Class)
  deriving DecidableEq, Repr

/-- R19: a window ended DONE. -/
def State.radioDone (s : State) : State :=
  let wasSilent := s.cal.silent
  let s := s.modCal fun c => { c with failed := 0, silent := false }
  if wasSilent then (s.modCal fun c => { c with reason := some .back }).postRadio .back else s

/-- R19: a window ended FAILED. -/
def State.radioFailed (s : State) : State :=
  let s := s.modCal fun c => { c with failed := c.failed + 1 }
  if s.cal.failed = 3 then
    (s.modCal fun c => { c with silent := true, reason := some .silent }).postRadio .silent
  else s

/-- R54: the window and its order leave the calendar. -/
def State.removeWindow (s : State) (id : WinId) : State :=
  (s.modCal fun c =>
    { c with
      windows := c.windows.filter fun w => decide (w.id ≠ id)
      outstanding := c.outstanding.filter fun o => decide (o.window ≠ id) }).syncErase

/-- The first PLANNED window in calendar order whose ordering point is reached (R53). -/
def State.dueWindow (s : State) : Option Window :=
  s.cal.windows.find? fun w => w.isPlanned && reached s.now w.orderingPoint

/-- The first ORDERED window in calendar order whose result limit is reached (R18). -/
def State.limitWindow (s : State) : Option Window :=
  s.cal.windows.find? fun w => w.isOrdered && reached s.now w.limit

/-- The start slot of the earliest PLANNED window (R58). -/
def State.earliestPlanned (s : State) : Option Slot :=
  (s.cal.windows.find? Window.isPlanned).map Window.start

/-- Any window is ORDERED (R58). -/
def State.anyOrdered (s : State) : Bool := s.cal.windows.any Window.isOrdered

end Sys2Proof.Machine
end

