-- ==== Sys2Proof/Machine/Store.lean ====
section
/-! DEFINITION. The message store's own operations: protection, the volatile index, reservations, the operation queue, reclaim,
what operations leave in the memory, and the start-up scan (R151 to R164). -/

namespace Sys2Proof.Machine

open Sys2Proof

/-! ## Protection (R158) -/

/-- Block b is protected by a descriptor. -/
def Descriptor.protects (d : Descriptor) (b : Nat) : Bool :=
  let near := if d.high then decide (16 - d.count ≤ b ∧ b < 16) else decide (b < d.count)
  near != d.invert

/-! ## The index (R152) -/

/-- All slots, in order of block and slot. -/
def allSlots : List SlotId :=
  (List.range 16).flatMap fun b => (List.range 8).map fun i => { block := b, slot := i }

/-- The state of a slot. -/
def Store.stateAt (st : Store) (p : SlotId) : SlotState := ((st.index[p.block]?.getD [])[p.slot]?).getD .retired

/-- The memory of a slot. -/
def Store.cellAt (st : Store) (p : SlotId) : Cell :=
  match st.flash.blocks[p.block]? with
  | some b => b.cells[p.slot]?.getD .erased
  | none => .erased

/-- A block is retired. -/
def Store.isRetired (st : Store) (b : Nat) : Bool := st.retired.contains b

/-- A block is protected. -/
def Store.isProtected (st : Store) (b : Nat) : Bool := st.descriptor.protects b

/-- The copy target of an operation. -/
def StoreOp.target : StoreOp → Option SlotId
  | .keepCopy _ _ t _ => some t
  | .relocCopy _ _ t _ => some t
  | _ => none

/-- The operations queued, running or suspended. -/
def Store.ops (st : Store) : List StoreOp :=
  match st.running with
  | some r => r.op :: st.queue
  | none => st.queue

/-- A slot is the copy target of a copy queued or running. -/
def Store.isTarget (st : Store) (p : SlotId) : Bool := st.ops.any fun o => decide (o.target = some p)

/-- R152: a slot is usable for incoming messages. -/
def Store.usable (st : Store) (p : SlotId) : Bool :=
  decide (st.stateAt p = .free) && !st.isTarget p && !st.isProtected p.block && !st.isRetired p.block &&
    decide (st.reclaim ≠ some p.block)

/-- The usable slots. -/
def Store.usableCount (st : Store) : Nat := allSlots.countP st.usable

/-- How many slots stand in a state. -/
def Store.count (st : Store) (v : SlotState) : Nat := allSlots.countP fun p => decide (st.stateAt p = v)

/-- How many slots of a block stand in a state. -/
def Store.countIn (st : Store) (b : Nat) (v : SlotState) : Nat :=
  (List.range 8).countP fun i => decide (st.stateAt { block := b, slot := i } = v)

/-- A LIVE slot holds a number. -/
def Store.holds (st : Store) (n : Nat) (p : SlotId) : Bool :=
  decide (st.stateAt p = .live) && decide (((st.cellAt p).message.map fun m => m.header.number) = some n)

/-- The LIVE slot that holds a number. -/
def Store.find (st : Store) (n : Nat) : Option SlotId := allSlots.find? (st.holds n)

/-- The message in a slot. -/
def Store.messageAt (st : Store) (p : SlotId) : Option Message := (st.cellAt p).message

/-- R153: a message of the recent list is still held. -/
def Store.stillLive (st : Store) (n : Nat) (x : Sub) (sender : Digits) : Bool :=
  allSlots.any fun p => st.holds n p &&
    decide (((st.messageAt p).map fun m => (m.header.sub, m.header.sender)) = some (x, sender))

/-- The store is idle: nothing running, suspended or queued, and no reclaim (R154). -/
def Store.idle (st : Store) : Bool := st.running.isNone && st.queue.isEmpty && st.reclaim.isNone

/-- The index with a slot in a state. -/
def Store.setState (st : Store) (p : SlotId) (v : SlotState) : Store :=
  { st with index := st.index.modify p.block fun row => row.set p.slot v }

/-- The index with all slots of a block in a state. -/
def Store.setBlock (st : Store) (b : Nat) (v : SlotState) : Store :=
  { st with index := st.index.set b (List.replicate 8 v) }

/-- The memory with a slot changed. -/
def Store.setCell (st : Store) (p : SlotId) (c : Cell) : Store :=
  { st with flash := { st.flash with blocks := st.flash.blocks.modify p.block fun b => { b with cells := b.cells.set p.slot c } } }

/-- The memory with a block changed. -/
def Store.modBlock (st : Store) (b : Nat) (f : FlashBlock → FlashBlock) : Store :=
  { st with flash := { st.flash with blocks := st.flash.blocks.modify b f } }

/-! ## What operations leave in the memory (R151, R157, R164) -/

/-- The memory of a slot whose program ended verified. -/
def Cell.written (m : Message) : Cell := { begun := true, complete := true, deleted := false, message := some m }

/-- The memory of a slot whose program did not: 0 nothing, 1 the BEGUN mark alone, 2 something unreadable, 3 all of it. -/
def Cell.partly (m : Message) (left : Nat) : Cell :=
  if left = 0 then .erased
  else if left = 1 then { begun := true, complete := false, deleted := false, message := none }
  else if left = 2 then { begun := true, complete := true, deleted := false, message := none }
  else .written m

/-- A mark whose program did not end verified is present or absent. -/
def markLeft (left : Nat) : Bool := decide (left = 1 ∨ left = 3)

/-- A block erased: every slot erased and the erase count raised, or restarted at 1 for a damaged block (R163). A RETIRED mark
stays (R151; DEDUCED, log 91). -/
def FlashBlock.erased (b : FlashBlock) : FlashBlock :=
  { b with
    erases := if b.readable then bump65535 b.erases else 1
    readable := true
    cells := List.replicate 8 .erased }

/-- What a failed or cut operation leaves (R157, R164). A cut slot program leaves nothing, the BEGUN mark alone, or a damaged
slot; a cut erase always leaves a damaged block; a cut rewrite always leaves a blank settings area. -/
def Store.leave (st : Store) (op : StoreOp) (left : Nat) (cut : Bool) : Store :=
  match op with
  | .write p m => st.setCell p (.partly m (if cut then left % 3 else left))
  | .keepCopy _ src p _ =>
    match st.messageAt src with
    | some m => st.setCell p (.partly m (if cut then left % 3 else left))
    | none => st
  | .relocCopy _ src p _ =>
    match st.messageAt src with
    | some m => st.setCell p (.partly m (if cut then left % 3 else left))
    | none => st
  | .mark p _ => st.setCell p { st.cellAt p with deleted := (st.cellAt p).deleted || markLeft left }
  | .retireMark b => st.modBlock b fun k => { k with retired := k.retired || markLeft left }
  | .erase b _ =>
    if cut ∨ left = 0 ∨ left = 2 then st.modBlock b fun k => { k with readable := false }
    else if left = 1 then st.modBlock b FlashBlock.erased
    else st
  | .settings d _ => { st with flash := { st.flash with settings := if cut = false ∧ markLeft left then some d else none } }

/-! ## Notices (R166) -/

/-- The STORE snapshot. -/
def State.storeSnapshot (s : State) : Snapshot :=
  .store (s.store.count .free) (s.store.count .reserved) (s.store.count .live) (s.store.count .deleted)
    (s.store.count .retired) s.store.usableCount s.store.retired.length s.store.descriptor s.store.reclaim

/-- The message store posts the STORE notice. -/
def State.postStore (s : State) (flags : BitVec 16) : State := s.post s.storeSnapshot flags

/-- The store state changed by f; SPACE and reclaim are examined once the action is settled. -/
def State.storeNow (s : State) (f : Store → Store) : State := (s.modStore f).report .storeChanged

/-! ## Reservations (R156) -/

/-- The usable slot of lowest block and slot number becomes RESERVED; none when no slot is usable. -/
def State.reserve (s : State) : Option SlotId × State :=
  match allSlots.find? s.store.usable with
  | some p => (some p, s.storeNow fun st => st.setState p .reserved)
  | none => (none, s)

/-- A reservation handed back. Reclaim is examined before the text transfer unit is told (DEDUCED, log 108). -/
def State.handBack (s : State) (p : SlotId) : State := (s.storeNow fun st => st.setState p .free).report .usableRose

/-- An operation joins the queue. -/
def State.queueOp (s : State) (o : StoreOp) : State := s.modStore fun st => { st with queue := st.queue ++ [o] }

/-- An operation goes ahead of every other queued one. -/
def State.queueFirst (s : State) (o : StoreOp) : State := s.modStore fun st => { st with queue := o :: st.queue }

/-! ## Reclaim (R161, R162) -/

/-- R161: a block is a candidate. -/
def Store.candidate (st : Store) (b : Nat) : Bool :=
  !st.isProtected b && !st.isRetired b && decide (0 < st.countIn b .deleted ∧ st.countIn b .reserved = 0) &&
    (List.range 8).all fun i => !st.isTarget { block := b, slot := i }

/-- FREE slots in blocks neither protected nor retired. -/
def Store.openFree (st : Store) : Nat :=
  allSlots.countP fun p => decide (st.stateAt p = .free) && !st.isProtected p.block && !st.isRetired p.block

/-- Usable slots outside a block. -/
def Store.usableOutside (st : Store) (b : Nat) : Nat := allSlots.countP fun p => decide (p.block ≠ b) && st.usable p

/-- The block with most DELETED slots, the lowest number at equal counts. -/
def Store.mostDeleted (st : Store) : List Nat → Option Nat
  | [] => none
  | b :: rest =>
    match st.mostDeleted rest with
    | some c => if st.countIn c .deleted ≤ st.countIn b .deleted then some b else some c
    | none => some b

/-- R161: the block a reclaim would take. -/
def Store.reclaimChoice (st : Store) : Option Nat :=
  let cs := (List.range 16).filter st.candidate
  match st.mostDeleted (cs.filter fun b => decide (st.countIn b .live = 0)) with
  | some b => some b
  | none => st.mostDeleted (cs.filter fun b => decide (st.countIn b .live ≤ st.usableOutside b))

/-- R161: reclaim is active. -/
def State.reclaimActive (s : State) : Bool :=
  decide (s.store.openFree < 2) ||
    ((s.subs.a.memoryFull || s.subs.b.memoryFull) && (List.range 16).any s.store.candidate)

/-- R161: reclaim is examined; one begins when it is active, none is in progress and a block is found. -/
def State.examineReclaim (s : State) : State :=
  if s.power.operating = true ∧ s.power.wait ≠ .stopping ∧ s.store.reclaim = none ∧ s.reclaimActive = true then
    match s.store.reclaimChoice with
    | some b => (s.storeNow fun st => { st with reclaim := some b }).postStore StoreFlag.reclaim
    | none => s
  else s

/-- R166: SPACE is posted when the usable count fell below 2 or rose to 2 or more; not while STARTING, and first judged from the
count at the end of start-up (DESIGN CHOICE, log 107). -/
def State.examineSpace (s : State) : State :=
  let roomy := decide (2 ≤ s.store.usableCount)
  if s.power.operating = true ∧ s.power.wait ≠ .stopping ∧ roomy ≠ s.store.roomy then
    (s.modStore fun st => { st with roomy := roomy }).postStore StoreFlag.space
  else s

/-- A step of a reclaim: a relocation copy or the erase (R154). -/
def StoreOp.isStep : StoreOp → Bool
  | .relocCopy _ _ _ _ => true
  | .erase _ repair => !repair
  | _ => false

/-- A reclaim ends or is abandoned (R162); the next is examined before the text transfer unit is told (DEDUCED, log 108). -/
def State.endReclaim (s : State) : State :=
  ((s.storeNow fun st => { st with reclaim := none, queue := st.queue.filter fun o => !o.isStep }).postStore
    StoreFlag.reclaim).report .usableRose

/-- The queue changed so that a copy target may be released unused: the rise of the usable count is told (R156), reclaim being
examined before (DEDUCED, log 108). -/
def State.requeue (s : State) (f : List StoreOp → List StoreOp) : State :=
  let t := s.storeNow fun st => { st with queue := f st.queue }
  if s.store.usableCount < t.store.usableCount then t.report .usableRose else t

/-- A DELETED mark for the slot is queued or running. -/
def Store.markPending (st : Store) (p : SlotId) : Bool :=
  st.ops.any fun o => match o with
    | .mark q _ => decide (q = p)
    | _ => false

/-- A KEEP copy of a slot is queued or running. -/
def Store.keeping (st : Store) (p : SlotId) : Bool :=
  st.ops.any fun o => match o with
    | .keepCopy _ src _ _ => decide (src = p)
    | _ => false

/-- The LIVE slots of a block whose delete is not pending, lowest first; one whose KEEP is pending leaves the block by that
(R162). -/
def Store.toMove (st : Store) (b : Nat) : List SlotId :=
  ((List.range 8).map fun i => ({ block := b, slot := i } : SlotId)).filter fun p =>
    decide (st.stateAt p = .live) && !st.markPending p && !st.keeping p

/-- R162: the next step of the reclaim of a block, when one can be taken. -/
def Store.reclaimStep (st : Store) (b : Nat) : Option ReclaimStep :=
  if st.toMove b ≠ [] then some .relocate
  else if st.countIn b .live = 0 ∧ ((List.range 8).all fun i => !st.markPending { block := b, slot := i }) = true then some .erase
  else none

/-- A step of the reclaim, or the mark that belongs to one, is queued or running. -/
def Store.stepping (st : Store) : Bool :=
  st.ops.any fun o => o.isStep || match o with
    | .mark _ .relocation => true
    | _ => false

/-- R162, R154: the next step of the reclaim in progress is queued when the one before it is over (DEDUCED, log 81); a relocation
step makes its target a copy target, and without a usable slot abandons the reclaim. -/
def State.planReclaim (s : State) : State :=
  match s.store.reclaim with
  | some b =>
    if s.store.stepping then s
    else
      match s.store.reclaimStep b with
      | some .relocate =>
        match s.store.toMove b, allSlots.find? s.store.usable with
        | p :: _, some t =>
          (s.queueOp (.relocCopy (((s.store.messageAt p).map fun m => m.header.number).getD 0) p t false)).report .storeChanged
        | _, _ => s.endReclaim
      | some .erase => s.queueOp (.erase b false)
      | none => s
  | none => s

/-! ## Starting operations (R154, R153) -/

/-- The duration of an operation in slots; a mark program takes less than one (R154). -/
def StoreOp.duration : StoreOp → Nat
  | .write _ _ => 6
  | .keepCopy _ _ _ _ => 6
  | .relocCopy _ _ _ _ => 6
  | .mark _ _ => 0
  | .retireMark _ => 0
  | .erase _ _ => 90
  | .settings _ _ => 16

/-- A message number brought back into 1..65535 (R153). -/
def wrapNumber (n : Nat) : Nat := if 65535 < n then n - 65535 else n

/-- R153: the number a write takes, passing over numbers that LIVE slots hold. -/
def Store.takeNumber (st : Store) : Nat :=
  let tries := (List.range 129).map fun k => wrapNumber (st.nextNumber + k)
  (tries.find? fun n => !allSlots.any (st.holds n)).getD st.nextNumber

/-- The network time held for a subscription from its latest accepted BEACON: its camped cell's, or its search candidate's (R25), 0
when it holds neither (R156). -/
def State.networkTime (s : State) (x : Sub) : BitVec 32 :=
  match (s.sub x).camped, (s.sub x).search.found with
  | some c, _ => c.params.time
  | none, some c => c.params.time
  | none, none => 0

/-- An operation starts. A write takes its message number and network time (R156). -/
def State.beginOp (s : State) (o : StoreOp) : State :=
  match o with
  | .write p m =>
    let n := s.store.takeNumber
    let m' := { m with header := { m.header with number := n, time := s.networkTime m.header.sub } }
    s.modStore fun st =>
      { st with running := some { op := .write p m', accumulated := 0, since := some s.now }, nextNumber := wrapNumber (n + 1) }
  | o => s.modStore fun st => { st with running := some { op := o, accumulated := 0, since := some s.now } }

/-- The store is up and the memory free, and no transmit window is ORDERED (R154, R155). -/
def State.mayStart (s : State) : Bool :=
  decide (s.power.state = .run ∧ s.power.held = false) && s.store.running.isNone && !s.transmitting

/-- R154: the operation that starts next: the oldest queued one that is no reclaim step, or a reclaim step when no other waits. -/
def Store.nextOp (st : Store) : Option StoreOp := (st.queue.find? fun o => !o.isStep).or st.queue.head?

/-- R154: the next operation leaves the queue and starts. -/
def State.startNext (s : State) : State :=
  match s.store.nextOp with
  | some o => (s.modStore fun st => { st with queue := st.queue.erase o }).beginOp o
  | none => s

/-- The unsuspended time an operation has run. -/
def Running.elapsed (r : Running) (now : Slot) : Nat :=
  match r.since with
  | some t => r.accumulated + slotsTo t now
  | none => r.accumulated

/-- The running operation has run for its duration. -/
def State.opDue (s : State) : Bool :=
  match s.store.running with
  | some r => r.since.isSome && decide (r.op.duration ≤ r.elapsed s.now)
  | none => false

/-! ## The start-up scan (R163) -/

/-- The state a slot's marks give it. -/
def Cell.scanned (c : Cell) : SlotState :=
  match c.begun, c.complete, c.deleted, c.message with
  | false, false, false, _ => .free
  | true, true, false, some _ => .live
  | _, _, _, _ => .deleted

/-- The index row of a block. A damaged block that is not protected stands DELETED until its repair erase ends
(DEDUCED, log 53). A RETIRED mark in a header that cannot be read is not seen (DEDUCED, log 91). -/
def FlashBlock.scanned (b : FlashBlock) (isProtected : Bool) : List SlotState :=
  if b.readable then if b.retired then List.replicate 8 .retired else b.cells.map Cell.scanned
  else if isProtected then List.replicate 8 .retired else List.replicate 8 .deleted

/-- The repairs a damaged block needs. -/
def FlashBlock.repairs (b : FlashBlock) (n : Nat) (isProtected : Bool) : List StoreOp :=
  if b.readable then [] else if isProtected then [.retireMark n] else [.erase n true]

/-- Of two LIVE slots with one number, the first given is the one that gives way: the one outside a protected block when
exactly one lies in one, otherwise the one with the higher (block, slot). -/
def Store.givesWay (st : Store) (p q : SlotId) : Bool :=
  if st.isProtected p.block = st.isProtected q.block then decide (q.block < p.block ∨ (q.block = p.block ∧ q.slot < p.slot))
  else st.isProtected q.block

/-- The LIVE slots that give way to another of the same number. -/
def Store.doubles (st : Store) : List SlotId :=
  allSlots.filter fun p =>
    match st.messageAt p with
    | some m => decide (st.stateAt p = .live) &&
        allSlots.any fun q => decide (q ≠ p) && st.holds m.header.number q && st.givesWay p q
    | none => false

/-- The highest number a LIVE slot holds, 0 when none is LIVE. -/
def Store.topNumber (st : Store) : Nat :=
  allSlots.foldl (fun n p =>
    if st.stateAt p = .live then max n (((st.messageAt p).map fun m => m.header.number).getD 0) else n) 0

/-- R163: the volatile state rebuilt from the memory, with the repairs it needs queued. -/
def Store.scan (f : Flash) : Store :=
  let d := f.settings.getD .default
  let numbered := f.blocks.zipIdx
  let base : Store :=
    { Store.beforeScan f with
      descriptor := d
      index := numbered.map fun (b, n) => b.scanned (d.protects n)
      retired := (numbered.filter fun (b, n) => (b.readable && b.retired) || (!b.readable && d.protects n)).map Prod.snd }
  { base with
    queue := (numbered.flatMap fun (b, n) => b.repairs n (d.protects n)) ++ base.doubles.map fun p => .mark p .repair
    nextNumber := wrapNumber (base.topNumber + 1) }

/-- R164: what the memory holds after a reset that cuts the running operation. -/
def Store.cutFlash (st : Store) (left : Nat) : Flash :=
  match st.running with
  | some r => (st.leave r.op left true).flash
  | none => st.flash

end Sys2Proof.Machine
end

