-- ==== Sys2Proof/Machine/Voice.lean ====
section
/-! DEFINITION. The voice path: the port's start and stop, both rings, playout and concealment, trim, hold and resume, and the
status octet (R119 to R132). -/

namespace Sys2Proof.Machine

open Sys2Proof

/-- The depth of each ring (R122). -/
def ringRoom : Nat := 16

/-- Octets of silence (R124). -/
def silence : List Byte := List.replicate 20 0

/-- R120: a call entered CONNECTED. -/
def Voice.start (v : Voice) : Voice :=
  if v.running then v
  else
    { v with
      running := true, down := [], up := [], playing := false, resumed := false, hold := false, store := none, repeats := 0,
      trim := 0, counts := .zero, frame := none, lastFrame := none }

/-- R120, R123: the CONNECTED call left that state. Playout leaves PLAYING. What R120 names neither as kept nor as cleared (the
repeat store and count, the trim count, the priming cause) is kept (DEDUCED, log 77). -/
def Voice.stop (v : Voice) : Voice :=
  if v.running then
    { v with running := false, down := [], up := [], playing := false, hold := false, frame := none, lastFrame := none }
  else v

/-! ## The lines of the port (R120, R129, R130) -/

/-- What the part puts on an output line that stands still: driven low, driven high, or high impedance. -/
inductive Level where
  | low
  | high
  | floating
  deriving DecidableEq, Repr

/-- R120: VCLK while the port is STOPPED; absent in the role FOLLOW, where it is an input. -/
def VoiceSettings.stoppedClock (v : VoiceSettings) : Option Level :=
  match v.clock with
  | .drive => some .low
  | .follow => none

/-- R120: VFS while the port is STOPPED, at its inactive level; absent in the role FOLLOW. -/
def VoiceSettings.stoppedFrame (v : VoiceSettings) : Option Level :=
  match v.frame with
  | .drive => some (if v.activeHigh then .low else .high)
  | .follow => none

/-- R129: the idle line state of VDX. -/
def VoiceSettings.idleLine (v : VoiceSettings) : Level := if v.idleLow then .low else .floating

/-- What stands on VDX. -/
inductive DataLine where
  | idle (level : Level)
  | octets (os : List Byte)
  deriving DecidableEq, Repr

/-- R120, R130: VDX carries the octets of the frame in progress, and stands at the idle line state outside a frame and while the
port is STOPPED. -/
def Voice.dataLine (v : Voice) : DataLine :=
  match v.frame with
  | some os => if v.running then .octets os else .idle v.settings.idleLine
  | none => .idle v.settings.idleLine

/-- The counters with an entry of a mark counted (R133). -/
def PortCounts.added (c : PortCounts) : Mark → PortCounts
  | .good => { c with good := bump65535 c.good }
  | .damaged => { c with damaged := bump65535 c.damaged }
  | .lost => { c with lost := bump65535 c.lost }
  | .signal => { c with signal := bump65535 c.signal }
  | .stolen => { c with stolen := bump65535 c.stolen }

/-- R121, R122: one entry added at the tail of the downlink ring; a full ring first discards its oldest. -/
def Voice.add (v : Voice) (e : VoiceEntry) : Voice :=
  if v.running then
    let counts := v.counts.added e.mark
    if ringRoom ≤ v.down.length then
      { v with down := v.down.drop 1 ++ [e], counts := { counts with downOverflow := bump65535 counts.downOverflow } }
    else { v with down := v.down ++ [e], counts := counts }
  else v

/-- R121: the entry a DED_RX outcome makes. A decoded block that is neither VOICE nor SIG makes a SIGNAL entry (DEDUCED,
log 76). -/
def entryFor : Ended → VoiceEntry
  | .done (.block (.voice _ octets) _) => { mark := .good, octets := octets }
  | .done (.block _ _) => { mark := .signal, octets := [] }
  | .done (.bad _) => { mark := .damaged, octets := silence }
  | .done _ => { mark := .lost, octets := [] }
  | .failed => { mark := .lost, octets := [] }
  | .skipped _ (some .pageStarved) => { mark := .stolen, octets := [] }
  | .skipped _ _ => { mark := .lost, octets := [] }

/-- R126: entering hold. -/
def Voice.enterHold (v : Voice) : Voice := { v with hold := true }

/-- The newest n of a list. -/
def newest {α : Type} (n : Nat) (l : List α) : List α := l.drop (l.length - n)

/-- R126: resuming with trim. -/
def Voice.resume (v : Voice) : Voice :=
  if v.hold then
    { v with hold := false, down := newest 2 v.down, up := newest 2 v.up, playing := false, resumed := true, trim := 0 }
  else v

/-- R125: the trim watermark, applied at the start of each port frame. -/
def Voice.trimmed (v : Voice) : Voice :=
  if 8 < v.down.length then
    if 64 ≤ v.trim + 1 then
      { v with down := v.down.drop 1, trim := 0, counts := { v.counts with trims := bump65535 v.counts.trims } }
    else { v with trim := v.trim + 1 }
  else { v with trim := 0 }

/-- Output marks (R131). -/
inductive OutMark where
  | good
  | damaged
  | fill
  | held
  deriving DecidableEq, Repr

/-- The code of an output mark (R131). -/
def OutMark.code : OutMark → Nat
  | .good => 0
  | .damaged => 1
  | .fill => 2
  | .held => 3

/-- The code of a source: the entry's mark, or NONE (R131). -/
def sourceCode : Option Mark → Nat
  | some .good => 0
  | some .damaged => 1
  | some .lost => 2
  | some .signal => 3
  | some .stolen => 4
  | none => 5

/-- R131: the status octet. -/
def statusOctet (m : OutMark) (repeats : Nat) (source : Option Mark) : Byte :=
  BitVec.ofNat 8 (32 * m.code + 8 * repeats + sourceCode source)

/-- The counters with a frame counted by its output mark (R133). -/
def PortCounts.output (c : PortCounts) (m : OutMark) (silent : Bool) : PortCounts :=
  let c := match m with
    | .good => { c with outGood := bump65535 c.outGood }
    | .damaged => { c with outDamaged := bump65535 c.outDamaged }
    | .fill => { c with outFill := bump65535 c.outFill }
    | .held => { c with outHeld := bump65535 c.outHeld }
  if silent then { c with silence := bump65535 c.silence } else c

/-- R124: a frame without data. -/
def Voice.noData (v : Voice) (source : Option Mark) : Voice :=
  let mark : OutMark := if v.hold || (!v.playing && v.resumed) then .held else .fill
  match v.store with
  | some octets =>
    if v.repeats < 3 then
      { v with
        repeats := v.repeats + 1
        counts := v.counts.output mark false
        frame := some (statusOctet mark (v.repeats + 1) source :: octets) }
    else { v with counts := v.counts.output mark true, frame := some (statusOctet mark 0 source :: silence) }
  | none => { v with counts := v.counts.output mark true, frame := some (statusOctet mark 0 source :: silence) }

/-- A frame of data: the entry played as it is (R123). -/
def Voice.data (v : Voice) (m : OutMark) (e : VoiceEntry) : Voice :=
  { v with
    store := some e.octets
    repeats := 0
    counts := v.counts.output m false
    frame := some (statusOctet m 0 (some e.mark) :: e.octets) }

/-- R123: the frame's output taken from the ring by a PLAYING path. -/
def Voice.play (v : Voice) : Voice :=
  match v.down with
  | [] => v.noData none
  | e :: rest =>
    let v := { v with down := rest }
    match e.mark with
    | .good => v.data .good e
    | .damaged => v.data .damaged e
    | m => v.noData (some m)

/-- R123: the output of one port frame. -/
def Voice.output (v : Voice) : Voice :=
  let v := v.trimmed
  if v.playing then v.play
  else if 2 ≤ v.down.length then { v with playing := true }.play
  else v.noData none

/-- The part both drives the clock and times the frame sync: no frame can be cut short (R132). -/
def VoiceSettings.bothDriven (v : VoiceSettings) : Bool := decide (v.clock = .drive ∧ v.frame = .drive)

/-- R132: a frame still in progress is cut short by the next, unless its bit times have passed for certain. -/
def Voice.cutShort (v : Voice) : Voice :=
  if v.frame.isSome then
    { v with shortFrames := if v.settings.bothDriven then v.shortFrames else bump65535 v.shortFrames, frame := none }
  else v

/-- R127: a block added to the uplink ring; a full ring first loses its oldest. -/
def Voice.addUp (v : Voice) (block : List Byte) : Voice :=
  if ringRoom ≤ v.up.length then
    { v with up := v.up.drop 1 ++ [block], counts := { v.counts with upOverflow := bump65535 v.counts.upOverflow } }
  else { v with up := v.up ++ [block] }

/-- R128: the oldest uplink block gives way. The discard counter rises only when there was a block (DEDUCED, log 46). -/
def Voice.discardUp (v : Voice) : Voice :=
  match v.up with
  | [] => v
  | _ :: rest => { v with up := rest, counts := { v.counts with upDiscard := bump65535 v.counts.upDiscard } }

/-- R130: a port frame may begin. Where the part times the frame sync, one begins for each slot value that is a multiple of
10, at that slot value when the part also drives the clock (DEDUCED, log 57). -/
def State.portFrameDue (s : State) : Bool :=
  let v := s.voice
  v.running && s.awake &&
    match v.settings.frame with
    | .follow => true
    | .drive =>
      match v.settings.clock with
      | .drive => decide (s.now.toNat % 10 = 0 ∧ v.lastFrame ≠ some s.now)
      | .follow =>
        match v.lastFrame with
        | none => true
        | some t => decide (t.toNat / 10 ≠ s.now.toNat / 10)

end Sys2Proof.Machine
end

