-- ==== Sys2Proof/Machine/Frames.lean ====
section
/-! DEFINITION. The frames the part sends: notices and replies as octets, and the segments of a long reply (R177, R181, R183 to
R185). -/

namespace Sys2Proof.Machine

open Sys2Proof

/-! ## Enumerations (R185): the values in the order their tables list them -/

/-- A subscription. -/
def putSub : Sub → List Byte
  | .A => [0]
  | .B => [1]

/-- States of a subscription. -/
def putSubState : SubState → List Byte
  | .empty => [0]
  | .detached => [1]
  | .searching => [2]
  | .camped => [3]
  | .engaged => [4]
  | .noService => [5]

/-- Registration results. -/
def putRegResult : RegResult → List Byte
  | .ok => [0]
  | .rejected => [1]
  | .notAllowed => [2]
  | .noAccess => [3]
  | .noReply => [4]

/-- No-service reasons. -/
def putReason : NoServiceReason → List Byte
  | .noCell => [0]
  | .rejected => [1]
  | .notAllowed => [2]
  | .noAccess => [3]
  | .noReply => [4]

/-- Directions of a call. -/
def putDirection : Direction → List Byte
  | .out => [0]
  | .incoming => [1]

/-- States of a call. -/
def putCallState : CallState → List Byte
  | .free => [0]
  | .dialling => [1]
  | .requesting => [2]
  | .offering => [3]
  | .ringingOut => [4]
  | .incoming => [5]
  | .blocked => [6]
  | .answering => [7]
  | .connected => [8]
  | .clearing => [9]

/-- Causes of a call's end. -/
def putCause : CallCause → List Byte
  | .normal => [0]
  | .byHost => [1]
  | .busyFar => [2]
  | .noAnswer => [3]
  | .notAnswered => [4]
  | .noAccess => [5]
  | .linkLost => [6]
  | .rejected => [7]
  | .moveLost => [8]

/-- Causes of a failed text. -/
def putTextCause : TextCause → List Byte
  | .noAck => [0]
  | .rejected => [1]
  | .noRoute => [2]
  | .memoryFull => [3]
  | .badPart => [4]
  | .noAccess => [5]
  | .linkLost => [6]
  | .detached => [7]

/-- A text's outcome: SENT, FAILED or ABANDONED, then the cause as an optional field (log 35). -/
def putOutcome : TextOutcome → List Byte
  | .sent => [0, 0]
  | .failed c => 1 :: 1 :: putTextCause c
  | .abandoned => [2, 0]

/-- Reset kinds. -/
def putKind : ResetKind → List Byte
  | .powerOn => [0]
  | .line => [1]
  | .request => [2]

/-- Power states. -/
def putPower : PowerState → List Byte
  | .run => [0]
  | .doze => [1]
  | .dormant => [2]

/-- Purposes of an engagement. -/
def putPurpose : Purpose → List Byte
  | .call => [0]
  | .text => [1]
  | .register => [2]
  | .storeReady => [3]
  | .leave => [4]

/-- States of an outbox entry. -/
def putOutState : OutState → List Byte
  | .assembling => [0]
  | .ready => [1]
  | .sending => [2]
  | .sent => [3]
  | .failed => [4]

/-- Modes of measurement. -/
def putMode : Mode → List Byte
  | .none => [0]
  | .idle => [1]
  | .dedicated => [2]
  | .paused => [3]

/-- How a reassembly entry was closed. -/
def putClosing : Closing → List Byte
  | .complete => [0]
  | .incomplete => [1]

/-- Roles of the voice port. -/
def putRole : PortRole → List Byte
  | .drive => [0]
  | .follow => [1]

/-- Clock rates. -/
def putRate : ClockRate → List Byte
  | .khz256 => [0]
  | .khz512 => [1]
  | .khz1024 => [2]

/-- The statuses of a reply (R181). -/
def statusCode : Status → Byte
  | .done => 0
  | .malformed => 1
  | .badValue => 2
  | .wrongState => 3
  | .noRoom => 4
  | .protected_ => 5
  | .unknownItem => 6
  | .busy => 7
  | .starting => 8

/-! ## Compound fields -/

/-- A set of indexes 1..8. -/
def putSet (is : List Nat) : List Byte := [is.foldl (fun (b : Byte) i => b ||| (1 <<< (i - 1))) 0]

/-- A set of subscriptions. -/
def putSubs (t : Two Bool) : List Byte := [(if t.a then 1 else 0) ||| (if t.b then 2 else 0)]

/-- A cell: channel and cell code. -/
def putCell (c : CellId) : List Byte := put2 c.channel ++ put2 c.code

/-- A slot value. -/
def putSlot (s : Slot) : List Byte := put4 s.toNat

/-- A list: its count, then its items. -/
def putList {α : Type} (f : α → List Byte) (l : List α) : List Byte := put1 l.length ++ l.flatMap f

/-- A protection descriptor. -/
def putDescriptor (d : Descriptor) : List Byte := putFlag d.high ++ put1 d.count ++ putFlag d.invert

/-! ## Notices (R183) -/

/-- The code of a kind (11.5). -/
def NoticeKind.code : NoticeKind → Byte
  | .ready => 0x80
  | .radio => 0x81
  | .call => 0x82
  | .sub => 0x83
  | .text => 0x84
  | .store => 0x85
  | .link => 0x86
  | .meas => 0x87

/-- One candidate of a MEAS snapshot. -/
def putCandidate (c : Nat × CellId × Nat × Int) : List Byte :=
  put1 c.1 ++ putCell c.2.1 ++ put1 c.2.2.1 ++ putInt2 c.2.2.2

/-- The fields of a snapshot, in the order of its table. Counts of store slots take 1 octet (DESIGN CHOICE, log 50). -/
def putSnapshot : Snapshot → List Byte
  | .ready k f r l d x => putKind k ++ put1 f ++ put1 r ++ put1 l ++ put1 d ++ put1 x
  | .radio silent why n =>
    putFlag silent ++ (match why with
      | .silent => [0]
      | .back => [1]) ++ put1 n
  | .call i x d st n c a m =>
    put1 (callNumber i) ++ putSub x ++ putDirection d ++ putCallState st ++ putOpt putDigits n ++ putOpt putCause c ++
      putFlag a ++ putFlag m
  | .sub x st camped area key reg why tw mf lost =>
    putSub x ++ putSubState st ++ putOpt (fun c => putCell c.1 ++ put2 c.2) camped ++ putOpt put2 area ++ put2 key.toNat ++
      putOpt putRegResult reg ++ putOpt putReason why ++ putFlag tw ++ putFlag mf ++ put1 lost
  | .text x a r sd en outs rec latest inc op un mf =>
    putSub x ++ put1 a ++ put1 r ++ put1 sd ++ put1 en ++ putList (fun o => o.1 :: putOutcome o.2) outs ++ put1 rec ++
      putOpt put2 latest ++ put1 inc ++ put1 op ++ put1 un ++ putFlag mf
  | .store f r l d x u rb desc rc =>
    put1 f ++ put1 r ++ put1 l ++ put1 d ++ put1 x ++ put1 u ++ put1 rb ++ putDescriptor desc ++ putOpt put1 rc
  | .link g c b l o => put1 g ++ put1 c ++ put1 b ++ put1 l ++ put1 o
  | .meas x ded l cs => putSub x ++ putMode (if ded then .dedicated else .idle) ++ putOpt put1 l ++ putList putCandidate cs

/-- A frame of a class, a tag and a code, with its fields (R177). -/
def frame (cls tag code : Byte) (fields : List Byte) : List Byte :=
  [0xC3, BitVec.ofNat 8 (fields.length + 3), cls, tag, code] ++ fields

/-- The frame of a notice: the slot stamp, the change flags, the snapshot (R183). -/
def noticeFrame (n : Notice) (now : Slot) : List Byte :=
  frame 0x03 (BitVec.ofNat 8 n.snapshot.key.2) n.snapshot.key.1.code
    (putSlot now ++ put2 n.flags.toNat ++ putSnapshot n.snapshot)

/-! ## Results (R181), as the pieces between which a reply may be split -/

/-- Beacon parameters. -/
def putParams (p : Params) : List Byte :=
  putFlag p.barred ++ put1 p.listen ++ put1 p.depth ++ put1 p.hysteresis ++ put1 p.trigger ++ put1 p.floor ++
    put1 p.tolerance ++ put4 p.time.toNat

/-- A camped cell or a candidate. -/
def putCamped (c : CampedCell) : List Byte :=
  putCell c.cell ++ put2 c.area ++ putSlot c.anchor.s0 ++ put2 c.anchor.f0.toNat ++ putParams c.params

/-- R181: pieces put one after another; the last of the first and the first of the second are not parted. -/
def glue : List (List Byte) → List (List Byte) → List (List Byte)
  | [], b => b
  | [p], [] => [p]
  | [p], q :: b => (p ++ q) :: b
  | p :: a, b => p :: glue a b

/-- R181, R185: a list as pieces, one for each item; the count stands with the first item. -/
def putItems {α : Type} (f : α → List Byte) (l : List α) : List (List Byte) := glue [put1 l.length] (l.map f)

/-- SUB_QUERY (R42): an EMPTY record shows its slot and state only, and the state stands second in every reply (DESIGN CHOICE,
log 50). -/
def putSubView (v : SubView) : List (List Byte) :=
  let r := v.record
  let head := putSub v.sub ++ putSubState r.state
  if r.state = .empty then [head]
  else
    [[head ++ put4 (r.identity.getD 0).toNat ++ put2 (r.key.getD 0).toNat ++ putOpt put2 r.area],
     putItems (fun c => put2 c) r.channels,
     [putOpt putCamped r.camped ++ put1 r.misses ++ putInt1 r.downlink ++ put1 r.strikes ++ put1 r.guard ++ putFlag r.notices ++
       putOpt putRegResult r.registration ++ putOpt putReason r.reason ++ putFlag r.textWaiting ++ putFlag r.memoryFull ++
       putFlag r.areaChanged ++ putOpt put1 r.target ++ putOpt putCamped r.search.found],
     match v.queued with
     | some ps => glue [[1]] (putItems putPurpose ps)
     | none => [[0]]].foldr glue []

/-- An entry of the neighbour table (R79). Offset and trigger count are written for A and then for B, 0 for one that is no owner, and
F and the reported level are one optional field (DESIGN CHOICE, log 50). -/
def putEntry (e : Entry) : List Byte :=
  put1 e.index ++ putCell e.cell ++ putSubs e.owner ++ putSubs e.serving ++ putInt1 e.offset.a ++ put1 e.trigger.a ++
    putInt1 e.offset.b ++ put1 e.trigger.b ++ put1 e.depth ++
    putOpt (fun f => put2 f ++ put1 ((f + 8) / 16)) e.level ++ put1 e.rounds ++ putFlag e.bound.isSome

/-- A subscription's measurement state (R79). -/
def putMeasView (m : MeasView) : List Byte :=
  putMode m.mode ++ put1 m.ended ++ put1 m.opened ++
    putOpt (fun t => put1 t ++ match m.stage with
      | .reading _ _ _ _ => [1]
      | _ => [0]) m.target ++
    putOpt put1 m.sinceReport ++ putFlag m.reportWaits

/-- One call record (R101). The kind of the call timer is the state that started it. -/
def putCallView (v : CallView) : List Byte :=
  let r := v.record
  put1 (callNumber v.id) ++ putOpt putSub r.sub ++ putOpt putDirection r.direction ++ putCallState r.state ++
    putOpt putDigits r.number ++ putOpt putCause r.cause ++ putFlag r.answered ++ putFlag r.arrived ++ putFlag r.moving ++
    putOpt (fun n => putCallState r.state ++ put4 n) v.left ++
    putOpt (fun c => putCell c.cell ++ put1 c.rx ++ put1 c.tx ++ put1 c.counter ++ put1 c.tolerance) v.connection

/-- VOICE_QUERY (R133). -/
def putVoice (v : Voice) : List Byte :=
  putRole v.settings.clock ++ putRole v.settings.frame ++ putRate v.settings.rate ++ putFlag (!v.settings.activeHigh) ++
    putFlag (!v.settings.idleLow) ++ putFlag v.running ++ putFlag v.playing ++ putFlag v.resumed ++ putFlag v.hold ++
    put1 v.down.length ++ put1 v.up.length ++ put1 v.repeats ++ put1 v.trim ++
    put2 v.counts.good ++ put2 v.counts.damaged ++ put2 v.counts.lost ++ put2 v.counts.signal ++ put2 v.counts.stolen ++
    put2 v.counts.outGood ++ put2 v.counts.outDamaged ++ put2 v.counts.outFill ++ put2 v.counts.outHeld ++
    put2 v.counts.silence ++ put2 v.counts.downOverflow ++ put2 v.counts.trims ++ put2 v.counts.upOverflow ++
    put2 v.counts.upDiscard ++ put2 v.shortFrames

/-- An outbox entry (R150). -/
def putOutView (v : OutView) : List Byte :=
  let e := v.entry
  putSub e.sub ++ e.reference :: (putDigits e.destination ++ putOutState e.state ++ putOpt put1 e.next ++ putOpt put1 e.count ++
    put1 e.parts.length ++ put1 e.attempts ++ putOpt (fun k => put1 k ++ put1 e.sends) e.part ++ putOpt put4 v.left ++
    putOpt putOutcome e.outcome)

/-- A reassembly entry (R150). -/
def putReasView (v : ReasView) : List Byte :=
  let e := v.entry
  putSub e.sub ++ putDigits e.sender ++ put1 e.reference ++ put1 e.count ++ putSet (e.parts.map Prod.fst) ++
    putOpt putClosing e.closing ++ putFlag e.unwritten ++ putOpt (fun p => put1 p.block ++ put1 p.slot) e.slot ++
    putOpt put4 v.left

/-- A record of the recent list (R150). -/
def putRecent (r : Recent) : List Byte :=
  putSub r.sub ++ putDigits r.sender ++ put1 r.reference ++ putSet r.parts ++ put2 r.number

/-- What the text transfer unit shows of a subscription (R150). -/
def putTextView (t : TextView) : List Byte := putFlag t.incoming ++ putOpt put4 t.idleLeft ++ putFlag t.readySent

/-- A listed message (R165). -/
def putListed (m : Listed) : List Byte :=
  put2 m.header.number ++ putSub m.header.sub ++ putDigits m.header.sender ++ put4 m.header.time.toNat ++ put1 m.header.count ++
    putSet m.header.present ++ putFlag m.header.complete ++ put2 m.length ++ putFlag m.protected_

/-- A block in STORE_QUERY (R166). Counts of store slots take 1 octet (DESIGN CHOICE, log 50). -/
def putBlockView (b : BlockView) : List Byte :=
  put2 b.erases ++ putFlag b.retired ++ putFlag b.protected_ ++ put1 b.free ++ put1 b.reserved ++ put1 b.live ++
    put1 b.deleted ++ put1 b.retiredSlots

/-- The kind of a store operation, in the order of the table of R154. -/
def putOp : StoreOp → List Byte
  | .write _ _ => [0]
  | .keepCopy _ _ _ _ => [0]
  | .relocCopy _ _ _ _ => [0]
  | .mark _ _ => [1]
  | .retireMark _ => [1]
  | .erase _ _ => [2]
  | .settings _ _ => [3]

/-- STORE_QUERY (R166). The 16 blocks have no count octet, counts of store slots take 1 octet, and the time of a running
operation is always written (DESIGN CHOICE, log 50). -/
def putStoreView (v : StoreView) : List (List Byte) :=
  [[put1 v.free ++ put1 v.reserved ++ put1 v.live ++ put1 v.deleted ++ put1 v.retired ++ put1 v.usable],
   v.blocks.map putBlockView,
   [putDescriptor v.descriptor ++ putFlag v.fault ++
    putOpt (fun p => put1 p.1 ++ match p.2 with
      | .relocate => [0]
      | .erase => [1]) v.reclaim ++
    putOpt (fun p => putOp p.1 ++ put4 p.2) v.running ++ put1 v.queued ++ put2 v.nextNumber]].foldr glue []

/-- The result of a reply, in the pieces between which it may be split: the items of its lists, whatever stands before or after a
list going with the item next to it (R181). The doze permission is a flag, 1 for permitted, and the call records have a count octet
(DESIGN CHOICE, log 50). -/
def putResult : Result → List (List Byte)
  | .none => []
  | .identity rev op k =>
    [put2 0x4B42 ++ [rev] ++ putFlag op ++ putKind k ++ put2 256 ++ put1 4 ++ put1 8]
  | .power st d p => [putPower st ++ putFlag d ++ putFlag p]
  | .subscription v => putSubView v
  | .measurement es a b => glue (putItems putEntry es) [putMeasView a ++ putMeasView b]
  | .callId i => [put1 (callNumber i)]
  | .calls vs => putItems putCallView vs
  | .voice v => [putVoice v]
  | .outbox out n p table recent a b =>
    [putItems putOutView out, [put1 n ++ put1 p], putItems putReasView table, putItems putRecent recent,
     [putTextView a ++ putTextView b]].foldr glue []
  | .listing ms more => glue (putItems putListed ms) [putFlag more]
  | .octets b => [putBody b]
  | .storage v => putStoreView v

/-- Octets of result one frame can hold: its length octet counts at most 254 octets, 9 of them before the result. -/
def segmentRoom : Nat := 245

/-- R181: the pieces gathered into segments, each filled as far as whole pieces go (log 36). -/
def gather (cur : List Byte) : List (List Byte) → List (List Byte)
  | [] => [cur]
  | p :: rest => if cur.length + p.length ≤ segmentRoom then gather (cur ++ p) rest else cur :: gather p rest

/-- The segments of a reply's result. -/
def Reply.segments (r : Reply) : List (List Byte) :=
  gather [] (match r.status with
    | .done => putResult r.result
    | _ => [])

/-- R181: the frame of one segment of a reply. -/
def Reply.segmentFrame (r : Reply) (k : Nat) : List Byte :=
  let more : Byte := if k + 1 < r.segments.length then 0x80 else 0
  frame 0x02 r.tag r.code
    ([statusCode r.status, more ||| BitVec.ofNat 8 k] ++ putSlot r.stamp ++ (r.segments[k]?.getD []))

/-! ## Choosing and ending a frame (R182) -/

/-- Notice m goes before notice n: higher priority of kind, then lower key. -/
def Notice.goesBefore (m n : Notice) : Bool :=
  let a := m.snapshot.key
  let b := n.snapshot.key
  decide (a.1.rank < b.1.rank ∨ (a.1.rank = b.1.rank ∧ a.2 < b.2))

/-- The entry of the outbox that is sent next. -/
def firstNotice : List Notice → Option Notice
  | [] => none
  | n :: rest =>
    match firstNotice rest with
    | some m => if n.goesBefore m then some n else some m
    | none => some n

end Sys2Proof.Machine
end

