-- ==== Sys2Proof/Machine/CallRecords.lean ====
section
/-! DEFINITION. Call records: taking, changing state, freeing (R81, R82, 5.1). -/

namespace Sys2Proof.Machine

open Sys2Proof

/-- The timer a call state starts (5.1). -/
def CallState.timer : CallState → Option Nat
  | .offering => some 60000
  | .ringingOut => some 120000
  | .incoming => some 60000
  | .blocked => some 60000
  | .answering => some 20000
  | .clearing => some 4000
  | .free => none
  | .dialling => none
  | .requesting => none
  | .connected => none

/-- R82: a record is available. -/
def State.available (s : State) (i : CallId) : Bool :=
  decide ((s.call i).state = .free) &&
    s.link.outbox.all fun n => decide (n.snapshot.key ≠ (NoticeKind.call, callNumber i))

/-- R82: the available record of lower call id. -/
def State.freeRecord (s : State) : Option CallId :=
  if s.available .one then some .one else if s.available .two then some .two else none

/-- A record is changed; no notice. -/
def State.modCall (s : State) (i : CallId) (f : CallRec → CallRec) : State := s.setCall i (f (s.call i))

/-- A record enters a state, with that state's timer and a CALL notice. A CONNECTED call that leaves the state stops the voice
port (R120). -/
def State.enterCall (s : State) (i : CallId) (st : CallState) (flags : BitVec 16) : State :=
  let was := (s.call i).state
  let s := s.modCall i fun r => { r with state := st, timer := st.timer.map s.timerFor }
  let s := if was = .connected ∧ st ≠ .connected then s.modVoice Voice.stop else s
  s.postCall i (CallFlag.state ||| flags)

/-- R102: a change without a flag of its own renews the snapshot of an entry that is pending. -/
def State.renewCall (s : State) (i : CallId) : State :=
  if s.link.outbox.any fun n => decide (n.snapshot.key = (NoticeKind.call, callNumber i)) then s.postCall i 0 else s

/-- R82: a record is taken. -/
def State.takeRecord (s : State) (i : CallId) (x : Sub) (d : Direction) (number : Option Digits) (st : CallState) : State :=
  let s := s.setCall i
    { sub := some x, direction := some d, state := .free, number := number, cause := none, answered := false, arrived := false,
      moving := false, ringWaits := false, timer := none }
  s.enterCall i st 0

/-- A record is freed with a cause. -/
def State.freeCall (s : State) (i : CallId) (c : CallCause) : State :=
  (s.modCall i fun r => { r with cause := some c, moving := false, ringWaits := false }).enterCall i .free 0

/-- A record enters CLEARING with a cause. -/
def State.clearCall (s : State) (i : CallId) (c : CallCause) : State :=
  (s.modCall i fun r => { r with cause := some c, ringWaits := false }).enterCall i .clearing 0

/-- Both call ids. -/
def callIds : List CallId := [.one, .two]

/-- The records of a subscription for which p holds are freed with a cause. -/
def State.freeCalls (s : State) (x : Sub) (p : CallRec → Bool) (c : CallCause) : State :=
  callIds.foldl (fun s i =>
    if (s.call i).sub = some x ∧ (s.call i).state ≠ .free ∧ p (s.call i) = true then s.freeCall i c else s) s

end Sys2Proof.Machine
end

