-- ==== Sys2Proof/Machine/Table.lean ====
section
/-! DEFINITION. The neighbour table: its entries, their addition and deletion, the beacon lists applied to it, and the changes
of a subscription's measurement mode (R60 to R66, R76, R112). -/

namespace Sys2Proof.Machine

open Sys2Proof

/-- The most entries the table holds (R60). -/
def tableRoom : Nat := 24

/-- The other subscription's guaranteed share (R63). -/
def tableShare : Nat := 12

/-! ## Entries -/

/-- A subscription is in the entry's interest set (4.1). -/
def Entry.interests (e : Entry) (x : Sub) : Bool := e.owner.get x || e.serving.get x

/-- The entry's interest set is empty. -/
def Entry.idle (e : Entry) : Bool := !e.interests .A && !e.interests .B

/-- The entry is owned only by a subscription (4.1). -/
def Entry.onlyOf (e : Entry) (x : Sub) : Bool :=
  e.owner.get x && !e.owner.get x.other && !e.serving.a && !e.serving.b

/-- The entry with an index. -/
def State.entry (s : State) (i : Nat) : Option Entry := s.meas.entries.find? fun e => decide (e.index = i)

/-- The entry of a cell. -/
def State.entryOf (s : State) (c : CellId) : Option Entry := s.meas.entries.find? fun e => decide (e.cell = c)

/-- The serving entry of a subscription. -/
def State.servingEntry (s : State) (x : Sub) : Option Entry := s.meas.entries.find? fun e => e.serving.get x

/-- Every entry changed. -/
def State.mapEntries (s : State) (f : Entry → Entry) : State :=
  { s with meas := { s.meas with entries := s.meas.entries.map f } }

/-- One entry changed. -/
def State.modEntry (s : State) (i : Nat) (f : Entry → Entry) : State :=
  s.mapEntries fun e => if e.index = i then f e else e

/-- The filter depth held for a subscription with its camped cell. -/
def State.depthOf (s : State) (x : Sub) : Option Nat := (s.sub x).camped.map fun c => c.params.depth

/-- R61: the smallest filter depth held for the subscriptions of the interest set. -/
def State.depthFor (s : State) (e : Entry) : Nat :=
  let d (x : Sub) : Option Nat := if e.interests x then s.depthOf x else none
  match d .A, d .B with
  | some a, some b => min a b
  | some a, none => a
  | none, some b => b
  | none, none => 0

/-- R61: the effective filter depths computed anew. -/
def State.recompute (s : State) : State := s.mapEntries fun e => { e with depth := s.depthFor e }

/-! ## Leaving rounds and ending reselection reads -/

/-- A subscription's attempts on an entry leave its rounds; a round left with no open attempt is looked at (R64, R67). -/
def State.dropTries (s : State) (x : Sub) (i : Nat) : State :=
  if (s.measOf x).rounds.any fun r => r.attempts.any fun t => decide (t.entry = i) then
    (s.modMeas x fun m =>
      { m with rounds := m.rounds.map fun r => { r with attempts := r.attempts.filter fun t => decide (t.entry ≠ i) } }).report
      (.rounds x)
  else s

/-- R76: a reselection read ends without an outcome. -/
def State.endResel (s : State) (x : Sub) : State :=
  let s := match (s.measOf x).resel with
    | .none => s
    | .acquiring w _ => s.withdraw w
    | .reading w _ _ _ => s.withdraw w
  (s.modMeas x fun m => { m with resel := .none }).modSub x fun r => { r with target := none }

/-- A reselection read aimed at an entry ends. -/
def State.endReselAt (s : State) (x : Sub) (i : Nat) : State := if (s.sub x).target = some i then s.endResel x else s

/-- R64: an entry is deleted. A bound window that a second entry's insertion has joined (R50) serves that entry on, and is not
withdrawn (DEDUCED, log 80). -/
def State.deleteEntry (s : State) (e : Entry) : State :=
  let s := if s.meas.entries.any fun f => decide (f.index ≠ e.index ∧ f.bound = e.bound) then s else s.withdrawOpt e.bound
  let s := { s with meas := { s.meas with entries := s.meas.entries.filter fun f => decide (f.index ≠ e.index) } }
  let s := (s.dropTries .A e.index).dropTries .B e.index
  (s.endReselAt .A e.index).endReselAt .B e.index

/-- Entries whose interest set is empty are deleted, but for one cell's (R62 step 3, R64). -/
def State.deleteIdle (s : State) (keep : Option CellId) : State :=
  (s.meas.entries.filter fun e => e.idle && decide (some e.cell ≠ keep)).foldl State.deleteEntry s

/-- A subscription leaves an entry's owner set (R62 step 2). -/
def State.leaveOwner (s : State) (x : Sub) (i : Nat) : State :=
  let s := s.modEntry i fun e =>
    { e with owner := e.owner.set x false, offset := e.offset.set x 0, trigger := e.trigger.set x 0 }
  (s.dropTries x i).endReselAt x i

/-! ## Additions (R60, R63) -/

/-- The entry of lowest F, an absent F lowest, the highest index at equal F. -/
def lowestEntry : List Entry → Option Entry
  | [] => none
  | e :: rest =>
    match lowestEntry rest with
    | none => some e
    | some v =>
      let key (u : Entry) : Int := match u.level with
        | some f => (f : Int)
        | none => -1
      if key e < key v ∨ (key e = key v ∧ v.index < e.index) then some e else some v

/-- How many entries a subscription owns. -/
def State.owned (s : State) (x : Sub) : Nat := s.meas.entries.countP fun e => e.owner.get x

/-- R63: the victim of a neighbour addition for x in a full table. -/
def State.victimFor (s : State) (x : Sub) : Option Entry :=
  if tableShare < s.owned x.other then lowestEntry (s.meas.entries.filter fun e => e.onlyOf x.other) else none

/-- R63: the victim of a serving addition for x in a full table. -/
def State.servingVictim (s : State) (x : Sub) : Option Entry :=
  match s.victimFor x with
  | some e => some e
  | none =>
    match lowestEntry (s.meas.entries.filter fun e => e.onlyOf x) with
    | some e => some e
    | none => lowestEntry (s.meas.entries.filter fun e => !e.serving.a && !e.serving.b)

/-- An entry put at its place in index order. -/
def placeEntry (e : Entry) : List Entry → List Entry
  | [] => [e]
  | f :: rest => if e.index < f.index then e :: f :: rest else f :: placeEntry e rest

/-- The lowest index no entry holds. -/
def State.freeIndex (s : State) : Nat :=
  ((List.range tableRoom).find? fun i => s.meas.entries.all fun e => decide (e.index ≠ i)).getD 0

/-- R60: a new entry at an index. -/
def State.makeEntry (s : State) (i : Nat) (c : CellId) (owner serving : Two Bool) (offset : Two Int) : State :=
  let e : Entry :=
    { index := i, cell := c, owner := owner, serving := serving, offset := offset, depth := 0, level := none, rounds := 0,
      trigger := .both 0, bound := none }
  { s with meas := { s.meas with entries := placeEntry { e with depth := s.depthFor e } s.meas.entries } }

/-- Every trigger count of a subscription set to 0. -/
def State.zeroTriggers (s : State) (x : Sub) : State := s.mapEntries fun e => { e with trigger := e.trigger.set x 0 }

/-- R62: a change of T lowers the counts above it; R61: depths follow the parameters held. -/
def State.paramsChanged (s : State) (x : Sub) : State :=
  let s := match (s.sub x).camped with
    | some c => s.mapEntries fun e => { e with trigger := e.trigger.set x (min (e.trigger.get x) c.params.trigger) }
    | none => s
  s.recompute

/-- R62, last part: the count of additions not kept goes to the subscription record. -/
def State.noteLost (s : State) (x : Sub) (lost : Nat) : State :=
  let tell := decide (0 < lost ∨ 0 < (s.sub x).notKept)
  let s := s.modSub x fun r => { r with notKept := lost }
  if tell then s.postSub x SubFlag.notKept else s

/-! ## Modes (R64, R66) -/

/-- The other subscription has an open attempt bound to a window. -/
def State.alsoBound (s : State) (x : Sub) (w : WinId) : Bool :=
  (s.measOf x.other).rounds.any fun r => r.attempts.any fun t => decide (t.window = some w ∧ t.ended = none)

/-- A window is PLANNED in the calendar. -/
def State.isPlanned (s : State) (w : WinId) : Bool := s.cal.windows.any fun v => decide (v.id = w) && v.isPlanned

/-- A PLANNED MEAS window is withdrawn, and its entry has no bound window any more. -/
def State.unbind (s : State) (w : WinId) : State :=
  if s.isPlanned w then
    (s.withdraw w).mapEntries fun e => if e.bound = some w then { e with bound := none } else e
  else s

/-- R78: a waiting report is discarded. -/
def State.dropReports (s : State) : State :=
  s.modCtx fun c => { c with waiting := c.waiting.filter fun q => !q.msg.isReport }

/-- The windows of a subscription's open attempts. -/
def MeasSub.openWindows (m : MeasSub) : List WinId :=
  m.rounds.flatMap fun r => r.attempts.filterMap fun t => if t.ended = none then t.window else none

/-- R66: the MEAS windows of a subscription: those it owns, and those its open attempts are bound to. -/
def State.measWindows (s : State) (x : Sub) : List WinId :=
  (s.cal.windows.filter fun w => decide (w.owner = .sub x ∧ w.purpose = .meas)).map Window.id ++ (s.measOf x).openWindows

/-- R66: a change of mode discards the rounds, withdraws the PLANNED MEAS windows no attempt of the other subscription is bound
to, and discards the report state (R77, R78). -/
def State.setMode (s : State) (x : Sub) (mode : Mode) : State :=
  let s := ((s.measWindows x).filter fun w => !s.alsoBound x w).foldl State.unbind s
  let s := s.modMeas x fun m =>
    { m with mode := mode, rounds := [], sinceReport := none, evaluations := 0, dedWindows := [] }
  if (s.connection x).isSome then s.dropReports else s

/-- R64: a subscription camps no longer. -/
def State.campsNoMore (s : State) (x : Sub) : State :=
  let s := s.endResel x
  let s := s.setMode x .none
  let s := s.mapEntries fun e =>
    { e with owner := e.owner.set x false, serving := e.serving.set x false, offset := e.offset.set x 0,
             trigger := e.trigger.set x 0 }
  (s.deleteIdle none).recompute

end Sys2Proof.Machine
end

