-- ==== Sys2Proof/Machine/Engage.lean ====
section
/-! DEFINITION. The subscription controller: search, camping, paging plans, camp loss, and the engagement queue with its access
attempts (R20 to R37, R9), with the purposes of a connection (R16, R96). -/

namespace Sys2Proof.Machine

open Sys2Proof

/-! ## Windows of a subscription -/

/-- A window of the subscription controller for a subscription, of one of some purposes. -/
def Window.isOf (w : Window) (x : Sub) (ps : List WinPurpose) : Bool :=
  decide (w.owner = .sub x ∧ w.reporter = .subscription) && ps.contains w.purpose

/-- A BEACON_RX window of the subscription controller: 10 slots for an acquisition, 2 for a read (R44). -/
def State.insertBeacon (s : State) (x : Sub) (channel : Nat) (start : Slot) (len : Nat) : WinId × State :=
  s.insert { owner := .sub x, reporter := .subscription, purpose := .beaconRx, channel := channel, start := start, len := len,
             slack := none, block := none }

/-! ## Search (R24 to R26) -/

/-- R24: a search begins; one SEARCH window for each allowed channel, 2 slots apart. -/
def State.beginSearch (s : State) (x : Sub) : State :=
  let (s, ws) := (s.sub x).channels.zipIdx.foldl
    (fun (p : State × List (WinId × Nat)) (ck : Nat × Nat) =>
      let (id, s') := p.1.insert
        { owner := .sub x, reporter := .subscription, purpose := .search, channel := ck.1,
          start := slotAdd p.1.now (3 + 2 * ck.2), len := 1, slack := some 8, block := none }
      (s', p.2 ++ [(id, ck.1)]))
    (s, [])
  s.modSub x fun r => { r with search := .sampling ws [] }

/-- The windows of a search are withdrawn and the search state holds nothing. -/
def State.stopSearch (s : State) (x : Sub) : State :=
  (s.withdrawAll fun w => w.isOf x [.search, .beaconRx]).modSub x fun r => { r with search := .none }

/-- The no-service retry interval (R26). -/
def retrySlots : Nat := 60000

/-- A subscription enters NO_SERVICE with a reason, and the retry timer is set (R26). -/
def State.enterNoService (s : State) (x : Sub) (why : NoServiceReason) (flags : BitVec 16) : State :=
  (s.modSub x fun r =>
    { r with state := .noService, reason := some why, search := .none, retry := some (s.timerFor retrySlots) }).postSub x
    (SubFlag.state ||| flags)

/-- R26: an exhausted scan. -/
def State.exhausted (s : State) (x : Sub) : State := s.enterNoService x .noCell 0

/-- R25: the channel at a position of the scan list is tried. -/
def State.tryChannel (s : State) (x : Sub) (scan : List (Nat × Nat)) (position : Nat) : State :=
  match scan[position]? with
  | none => s.exhausted x
  | some (channel, _) =>
    let (id, s) := s.insertBeacon x channel (slotAdd s.now 3) 10
    s.modSub x fun r => { r with search := .acquiring scan position id false }

/-- A scan list entry put in order: higher level first, the lower channel number at equal levels (R24). -/
def placeScan (p : Nat × Nat) : List (Nat × Nat) → List (Nat × Nat)
  | [] => [p]
  | q :: rest => if q.2 < p.2 ∨ (q.2 = p.2 ∧ p.1 < q.1) then p :: q :: rest else q :: placeScan p rest

/-- R24: every SEARCH window has ended. -/
def State.scanEnd (s : State) (x : Sub) (scan : List (Nat × Nat)) : State :=
  s.tryChannel x (scan.foldl (fun l p => placeScan p l) []) 0

/-! ## Paging and refresh plans (R27 to R29) -/

/-- 64·L, the distance of the occasions in frames (R29). -/
def occasionStep (c : CampedCell) : Nat := 64 * 2 ^ c.params.listen

/-- A frame is an occasion of a key on a cell (R29). -/
def isOccasion (c : CampedCell) (key : BitVec 16) (f : FrameNo) : Bool :=
  decide (f.toNat % occasionStep c = key.toNat % occasionStep c)

/-- The PAGE window of an occasion frame at a slot is inserted. -/
def State.insertPage (s : State) (x : Sub) (c : CampedCell) (f : FrameNo) (start : Slot) : State :=
  let (id, s) := s.insert
    { owner := .sub x, reporter := .subscription, purpose := .pageRx, channel := c.cell.channel, start := start, len := 2,
      slack := none, block := none }
  s.modSub x fun r => { r with page := some (id, f) }

/-- R29: the first PAGE window after camping or after a change of L. -/
def State.planPage (s : State) (x : Sub) : State :=
  match (s.sub x).camped with
  | some c =>
    let (f, start) := nextFrame c.anchor s.now 3 0 (occasionStep c) ((s.sub x).key.getD 0).toNat
    s.insertPage x c f start
  | none => s

/-- R29: the PAGE window after the one of frame f. -/
def State.planPageAfter (s : State) (x : Sub) (f : FrameNo) : State :=
  match (s.sub x).camped with
  | some c =>
    let f' := f + BitVec.ofNat 16 (occasionStep c)
    if isOccasion c ((s.sub x).key.getD 0) f' then s.insertPage x c f' (frameSlot c.anchor f' 0 s.now) else s.planPage x
  | none => s

/-- R28, R29: the PAGE window of an occasion frame has ended already, for the one that stands, or is to come, is of a later frame. -/
def SubRec.pagePast (r : SubRec) (f : FrameNo) : Bool :=
  match r.page with
  | some (_, p) => decide (1 ≤ (p - f).toNat ∧ (p - f).toNat < 32768)
  | none => false

/-- R28: the frame 0 a refresh is planned in: the one given, unless its read was a PAGE window that has been SKIPPED before the
refresh was planned; that read is planned again in the next cycle (DEDUCED, log 83). -/
def SubRec.refreshFrame (r : SubRec) (c : CampedCell) (f : FrameNo) : FrameNo :=
  (((List.range 32).map fun n => f + BitVec.ofNat 16 (64 * n)).find? fun g =>
    !(isOccasion c (r.key.getD 0) g && r.pagePast g)).getD f

/-- R28: the serving BEACON refresh planned in a frame 0; the PAGE window reads it when the frame is an occasion. -/
def State.planRefresh (s : State) (x : Sub) (frame : FrameNo) : State :=
  match (s.sub x).camped with
  | some c =>
    let f := (s.sub x).refreshFrame c frame
    if isOccasion c ((s.sub x).key.getD 0) f then s.modSub x fun r => { r with refresh := some { frame := f, window := none } }
    else
      let (id, s) := s.insertBeacon x c.cell.channel (frameSlot c.anchor f 0 s.now) 2
      s.modSub x fun r => { r with refresh := some { frame := f, window := some id } }
  | none => s

/-- The frames from one refresh to the next: 8 cycles (R27, R28). -/
def refreshStep : FrameNo := 512

/-- R36: the refresh 8 cycles after the last accepted BEACON, or in the next frame 0 when that has passed (log 12). -/
def State.replanRefresh (s : State) (x : Sub) : State :=
  match (s.sub x).camped with
  | some c =>
    let f := c.lastBeacon + refreshStep
    let soonest := (nextFrame c.anchor s.now 3 0 1 0).1
    if (f - soonest).toNat < 32768 then s.planRefresh x f else s.planRefresh x (nextCycle c.anchor s.now).1
  | none => s

/-- The PAGE and serving BEACON windows are withdrawn (R29, R32, R35). -/
def State.dropPaging (s : State) (x : Sub) : State :=
  (s.withdrawAll fun w => w.isOf x [.pageRx, .beaconRx]).modSub x fun r => { r with page := none, refresh := none }

/-! ## The purposes of a running connection (R16, R96, R99) -/

/-- A running connection's purposes changed. -/
def State.modPurposes (s : State) (x : Sub) (f : List Purpose → List Purpose) : State :=
  match s.connection x with
  | some c => s.modCtx fun u => { u with active := some { c with purposes := f c.purposes } }
  | none => s

/-- A purpose added once. -/
def addOnce (p : Purpose) (ps : List Purpose) : List Purpose := if ps.contains p then ps else ps ++ [p]

/-- Purposes added once each. -/
def addAll (new ps : List Purpose) : List Purpose := new.foldl (fun acc p => addOnce p acc) ps

/-- A purpose taken out. -/
def without (p : Purpose) (ps : List Purpose) : List Purpose := ps.filter fun q => decide (q ≠ p)

/-- R16, R41: LEAVE is queued when the subscription is detaching and no call record of it remains in use; DONE is queued when no purpose
remains. -/
def State.settleConn (s : State) (x : Sub) : State :=
  match s.connection x with
  | some c =>
    if c.purposes.contains .leave then
      if s.inUse x = false ∧ s.unsent UpMsg.isLeave = false ∧ s.carried UpMsg.isLeave = false then s.offer .leave else s
    else if c.purposes = [] ∧ s.doneGone = false ∧ s.unsent UpMsg.isDone = false then s.offer .done
    else s
  | none => s

/-- R39: ENROL is queued. -/
def State.offerEnrol (s : State) (x : Sub) : State :=
  s.offer (.enrol ((s.sub x).identity.getD 0) (s.sub x).area)

/-- A purpose leaves a running connection. -/
def State.leaveConn (s : State) (x : Sub) (p : Purpose) : State := (s.modPurposes x (without p)).settleConn x

/-! ## Leaving ENGAGED and granting (R35, R36) -/

/-- The subscription no longer holds the dedicated radio (R34). -/
def State.disengage (s : State) (x : Sub) : State := { s with engaged := s.engaged.filter fun e => decide (e.sub ≠ x) }

/-- R36, last row: the subscription is CAMPED again on the same cell. -/
def State.backToCamped (s : State) (x : Sub) : State :=
  let s := s.disengage x
  let s := (s.modSub x fun r => { r with state := .camped }).postSub x SubFlag.state
  (s.planPage x).replanRefresh x

/-- An attempt's PLANNED windows are withdrawn (R9). -/
def State.withdrawAttempt (s : State) (x : Sub) : State := s.withdrawAll fun w => w.isOf x [.accessTx, .grantRx]

/-- The burst purpose of a granted request (R35). -/
def burstFor (pageReply : Bool) : List Purpose → AccessPurpose
  | ps =>
    if pageReply then .pageReply
    else match ps with
      | .call :: _ => .callOut
      | .text :: _ => .textOut
      | .register :: _ => .register
      | .storeReady :: _ => .storeReady
      | .leave :: _ => .leave
      | [] => .callOut

/-- The stage of the engaged subscription replaced, when it is this one. -/
def State.setStage (s : State) (x : Sub) (st : Stage) : State :=
  { s with engaged := s.engaged.map fun e => if e.sub = x then { e with stage := st } else e }

/-- R9: a burst of an attempt is planned in a frame, at its slot 8. -/
def State.insertBurst (s : State) (x : Sub) (a : Attempt) (f : FrameNo) (start : Slot) : State :=
  match (s.sub x).camped with
  | some c =>
    let (id, s) := s.insert
      { owner := .sub x, reporter := .subscription, purpose := .accessTx, channel := c.cell.channel, start := start, len := 1,
        slack := none, block := some (.burst a.burst a.reference) }
    s.setStage x (.attempt { a with placed := a.placed + 1, tx := some (id, f) })
  | none => s

/-- R35: the request the queue would grant: a page reply before an own request, then the one made earlier. -/
def firstRequest : List EngRequest → Option EngRequest
  | [] => none
  | q :: rest =>
    match firstRequest rest with
    | none => some q
    | some r =>
      if (q.pageReply = true ∧ r.pageReply = false) ∨ (q.pageReply = r.pageReply ∧ q.moment < r.moment) then some q else some r

/-- R38: text-waiting is cleared, with its notice. -/
def State.clearTextWaiting (s : State) (x : Sub) : State :=
  if (s.sub x).textWaiting then
    (s.modSub x fun r => { r with textWaiting := false }).postSub x SubFlag.textWaiting
  else s

/-- R35: a searching subscription's candidate becomes its camped cell. -/
def State.adoptCandidate (s : State) (x : Sub) : State :=
  match (s.sub x).search with
  | .candidate c _ _ _ => (s.stopSearch x).modSub x fun r => { r with camped := some c }
  | _ => s

/-- R85: a DIALLING record whose CALL purpose is granted enters REQUESTING. -/
def State.dialGranted (s : State) (x : Sub) (ps : List Purpose) : State :=
  if ps.contains .call then
    match s.callOf x with
    | some i => if (s.call i).state = .dialling then s.enterCall i .requesting 0 else s
    | none => s
  else s

/-- R35: the subscription of a granted request becomes ENGAGED and its access attempt opens. -/
def State.grant (s : State) (q : EngRequest) : State :=
  let x := q.sub
  let flags := SubFlag.state ||| (if (s.sub x).state = .searching then SubFlag.cell else 0)
  let s := s.adoptCandidate x
  let s := s.dropPaging x
  let s := (s.endResel x).setMode x .none
  let s := (s.modSub x fun r => { r with state := .engaged }).postSub x flags
  let s := if q.pageReply = true ∧ q.purposes.contains .text = true then s.clearTextWaiting x else s
  let s := s.dialGranted x q.purposes
  let (n, s) := s.draw
  let a : Attempt :=
    { purposes := q.purposes, pageReply := q.pageReply, burst := burstFor q.pageReply q.purposes,
      reference := Config.reference n, placed := 0, tx := none, watches := [] }
  let s := { s with engaged := some { sub := x, stage := .attempt a } }
  match (s.sub x).camped with
  | some c =>
    let (f, start) := nextFrame c.anchor s.now 3 8 1 0
    s.insertBurst x a f start
  | none => s

/-- R35: the queue grants the dedicated radio whenever it is free and a request waits. -/
def State.grantIfFree (s : State) : State :=
  match s.engaged, firstRequest s.engQueue with
  | none, some q => { s with engQueue := s.engQueue.filter fun r => decide (r.sub ≠ q.sub) }.grant q
  | _, _ => s

/-! ## Asking for engagement (R34) -/

/-- What becomes of a purpose that is asked for. -/
inductive Asked where
  | refused
  /-- in the engagement queue, or granted at once -/
  | queued
  /-- joined a running access attempt -/
  | attempt
  /-- joined a running connection -/
  | connection
  /-- DONE has been sent: the purpose waits for the connection to end (R16) -/
  | later
  deriving DecidableEq, Repr

/-- Purposes join the subscription's request in the queue, or make one. -/
def State.joinQueue (s : State) (x : Sub) (ps : List Purpose) (page : Bool) : State :=
  if s.engQueue.any fun q => decide (q.sub = x) then
    { s with
      engQueue := s.engQueue.map fun q =>
        if q.sub = x then { q with purposes := addAll ps q.purposes, pageReply := q.pageReply || page } else q }
  else
    let (n, s) := s.moment
    { s with engQueue := s.engQueue ++ [{ sub := x, purposes := addAll ps [], pageReply := page, moment := n }] }

/-- A subscription holds a search candidate. -/
def SubRec.hasCandidate (r : SubRec) : Bool :=
  match r.search with
  | .candidate _ _ _ _ => true
  | _ => false

/-- R34: purposes asked for a subscription. -/
def State.ask (s : State) (x : Sub) (ps : List Purpose) (page : Bool) : Asked × State :=
  if s.leaving x ∧ (ps.any fun p => decide (p ≠ .leave)) = true then (.refused, s)
  else
    let r := s.sub x
    match r.state with
    | .camped => (.queued, (s.joinQueue x ps page).grantIfFree)
    | .searching =>
      if r.hasCandidate ∧ ps = [.register] then (.queued, (s.joinQueue x ps page).grantIfFree) else (.refused, s)
    | .engaged =>
      match s.engaged with
      | some { sub := y, stage := st } =>
        if y = x then
          match st with
          | .attempt a => (.attempt, s.setStage x (.attempt { a with purposes := addAll ps a.purposes }))
          | .connected =>
            if s.doneGone then (.later, s)
            else (.connection, (s.modPurposes x (addAll ps)).removeMsgs UpMsg.isDone)
          | .confirming _ _ => (.queued, s.joinQueue x ps page)
        else (.refused, s)
      | none => (.refused, s)
    | .empty => (.refused, s)
    | .detached => (.refused, s)
    | .noService => (.refused, s)

/-- The subscription's request leaves the queue. -/
def State.dropRequest (s : State) (x : Sub) : State :=
  { s with engQueue := s.engQueue.filter fun q => decide (q.sub ≠ x) }

/-- R95: a purpose leaves the queue; a request without purposes is withdrawn. A request that was a page reply stays one, also when
the page-reply purpose is the one that leaves (DEDUCED, log 73). -/
def State.leaveQueue (s : State) (x : Sub) (p : Purpose) : State :=
  { s with
    engQueue := (s.engQueue.map fun q => if q.sub = x then { q with purposes := without p q.purposes } else q).filter
      fun q => decide (q.purposes ≠ []) }

/-- R95: a purpose leaves the queue, the attempt or the connection that holds it. An attempt left without purposes is
abandoned, and the queue grants again. -/
def State.purposeLeaves (s : State) (x : Sub) (p : Purpose) : State :=
  let s := s.leaveQueue x p
  match s.engaged with
  | some { sub := y, stage := st } =>
    if y = x then
      match st with
      | .attempt a =>
        let ps := without p a.purposes
        if ps = [] then ((s.withdrawAttempt x).backToCamped x).grantIfFree
        else s.setStage x (.attempt { a with purposes := ps })
      | .connected => s.leaveConn x p
      | .confirming _ _ => s
    else s
  | none => s

/-- R96, R99: a record of the subscription became FREE. On a running connection the CALL purpose leaves when no record of the
subscription, BLOCKED ones included, remains in use (DEDUCED, log 25), and a registration deferred by a handover is added, unless
one is open on the connection already (DEDUCED, log 87). -/
def State.callGone (s : State) (x : Sub) : State :=
  match s.connection x with
  | some c =>
    if s.inUse x then s
    else
      let deferred := (s.sub x).areaChanged && !s.leaving x && c.purposes.contains .call && !c.purposes.contains .register
      let s := s.modPurposes x (without .call)
      if deferred then
        ((s.modPurposes x (addOnce .register)).removeMsgs UpMsg.isDone).offerEnrol x
      else s.settleConn x
  | none => if (s.callOf x).isSome then s else s.purposeLeaves x .call

/-- A record is freed and its CALL purpose ends. A BLOCKED record holds a CALL purpose only on a running connection (log 25). -/
def State.freeAndLeave (s : State) (i : CallId) (c : CallCause) : State :=
  let r := s.call i
  let s := s.freeCall i c
  match r.sub with
  | some x => if r.state = .blocked ∧ (s.connection x).isNone = true then s else s.callGone x
  | none => s

/-! ## Camp and its loss (R27, R32, R37) -/

/-- The subscription's request in the queue holds the CALL purpose (R34). -/
def State.callQueued (s : State) (x : Sub) : Bool :=
  s.engQueue.any fun q => decide (q.sub = x) && q.purposes.contains .call

/-- The records whose owners learn that the subscription lost service (R32, R95, R96): a DIALLING one, and an INCOMING one whose
CALL waits in the queue. -/
def CallRec.waits (r : CallRec) (queued : Bool) : Bool := decide (r.state = .dialling ∨ (r.state = .incoming ∧ queued = true))

/-- R32 step 3, R37: the subscription's request leaves the queue and its owners end their purposes. -/
def State.lostService (s : State) (x : Sub) : State :=
  (s.dropRequest x).freeCalls x (fun r => r.waits (s.callQueued x)) .linkLost

/-- The subscription goes to SEARCHING and a new search begins; it camps nowhere any more (R32, R37, R64). -/
def State.toSearching (s : State) (x : Sub) : State :=
  let s := s.dropPaging x
  let s := s.campsNoMore x
  let s := (s.modSub x fun r =>
    { r with state := .searching, camped := none, target := none, reason := none }).postSub x (SubFlag.state ||| SubFlag.cell)
  s.beginSearch x

/-- R32: camp loss of a CAMPED subscription. -/
def State.campLoss (s : State) (x : Sub) : State :=
  if (s.sub x).state ≠ .camped then s
  else
    let s := s.dropPaging x
    let s := s.campsNoMore x
    let s := s.lostService x
    let s := s.freeCalls x (fun r => decide (r.state = .blocked)) .linkLost
    s.toSearching x

/-- R27, R148: STORE_READY is raised when memory-full-signalled is set, a slot is usable and none was sent. -/
def State.wantsStoreReady (s : State) (x : Sub) : Bool :=
  (s.sub x).memoryFull && !(s.textOf x).readySent && decide (0 < s.store.usableCount)

/-- A READY outbox entry of the subscription exists. -/
def State.hasReady (s : State) (x : Sub) : Bool :=
  s.text.outbox.any fun e => decide (e.sub = x ∧ e.state = .ready)

/-- R27, R137, R148: TEXT is raised when a READY entry waits, and STORE_READY when it is wanted: at each camping, and at the end of
a connection by RELEASE or local release (of STORE_READY, and of TEXT refused before the connection, DEDUCED, log 67). -/
def State.raiseReady (s : State) (x : Sub) : State :=
  let s := if s.hasReady x then (s.ask x [.text] false).2 else s
  if s.wantsStoreReady x then (s.ask x [.storeReady] false).2 else s

/-- R96: a DIALLING record that waits for engagement, its CALL not in the queue, asks for it anew; one whose CALL joins a running
access attempt enters REQUESTING (R84). -/
def State.raiseCall (s : State) (x : Sub) : State :=
  match s.callOf x with
  | some i =>
    if (s.call i).state = CallState.dialling ∧ s.callQueued x = false then
      let (a, s) := s.ask x [.call] false
      if a = .attempt then s.enterCall i .requesting 0 else s
    else s
  | none => s

/-- R27, last part, and R96: the purposes that were waiting for service are raised. -/
def State.raiseWaiting (s : State) (x : Sub) : State := (s.raiseCall x).raiseReady x

/-- The area of a cell is not the registered area, or none is registered. -/
def SubRec.outside (r : SubRec) (area : Nat) : Bool := decide (r.area ≠ some area)

end Sys2Proof.Machine
end

