-- ==== Sys2Proof/Machine/Evaluate.lean ====
section
/-! DEFINITION. The levels and ranks of the neighbour table and the evaluation of a subscription at the end of a round, with the
idle trigger, the measurement report and the MEAS notice (R65, R71 to R74, R77, R78, R80, R31). -/

namespace Sys2Proof.Machine

open Sys2Proof

/-! ## Filter, levels and ranks (R71, R72) -/

/-- R71: the step of the filter, D / 2^k to the nearest whole number, halves away from zero. -/
def filterStep (d : Int) (k : Nat) : Int :=
  let size : Int := ((2 * d.natAbs + 2 ^ k) / (2 * 2 ^ k) : Nat)
  if d < 0 then -size else size

/-- R71: the filtered level after a sample. -/
def filtered (level : Option Nat) (k sample : Nat) : Nat :=
  match level with
  | none => 16 * sample
  | some f => ((f : Int) + filterStep (16 * (sample : Int) - f) k).toNat

/-- R72: the reported level of a filtered level. -/
def reportedLevel (f : Nat) : Nat := (f + 8) / 16

/-- R72: the reported level of an entry. -/
def Entry.reported (e : Entry) : Option Nat := e.level.map reportedLevel

/-- R72: the rank of a neighbour entry for a subscription, in sixteenths of a code. -/
def Entry.rankFor (e : Entry) (x : Sub) : Option Int := e.level.map fun f => (f : Int) + 16 * e.offset.get x

/-- The hysteresis held for a subscription. -/
def State.hysteresis (s : State) (x : Sub) : Nat :=
  match (s.sub x).camped with
  | some c => c.params.hysteresis
  | none => 0

/-- The time-to-trigger held for a subscription. -/
def State.timeToTrigger (s : State) (x : Sub) : Nat :=
  match (s.sub x).camped with
  | some c => c.params.trigger
  | none => 0

/-- R72: the serving rank of a subscription. -/
def State.servingRank (s : State) (x : Sub) : Option Int :=
  match s.servingEntry x with
  | some e => e.level.map fun f => (f : Int) + 16 * (s.hysteresis x : Int)
  | none => none

/-- The serving reported level of a subscription. -/
def State.servingLevel (s : State) (x : Sub) : Option Nat :=
  match s.servingEntry x with
  | some e => e.reported
  | none => none

/-- An entry with its rank put in place, the highest rank first, the lower index first at equal rank. -/
def placeRanked (p : Entry × Int) : List (Entry × Int) → List (Entry × Int)
  | [] => [p]
  | q :: rest => if q.2 < p.2 ∨ (q.2 = p.2 ∧ p.1.index < q.1.index) then p :: q :: rest else q :: placeRanked p rest

/-- Entries with F present, in order of rank for a subscription. -/
def ranked (x : Sub) (es : List Entry) : List (Entry × Int) :=
  (es.filterMap fun e => (e.rankFor x).map fun r => (e, r)).foldl (fun l p => placeRanked p l) []

/-! ## Evaluation (R73) -/

/-- An attempt ended with a sample. -/
def SampleTry.got (t : SampleTry) : Bool := decide (t.ended = some true)

/-- R73 step 1: the trigger count of one entry after a round. -/
def Entry.counted (e : Entry) (x : Sub) (r : Round) (serving : Int) (limit : Nat) : Entry :=
  if e.owner.get x && r.attempts.any (fun t => decide (t.entry = e.index) && t.got) then
    match e.rankFor x with
    | some k =>
      if serving < k then { e with trigger := e.trigger.set x (min (e.trigger.get x + 1) limit) }
      else { e with trigger := e.trigger.set x 0 }
    | none => e
  else e

/-- R65: the staleness of one entry after a round in which it had an attempt. -/
def Entry.aged (e : Entry) (got : Bool) : Entry :=
  if got then { e with rounds := 0 }
  else if 8 ≤ e.rounds + 1 then { e with rounds := 8, level := none, trigger := .both 0 }
  else { e with rounds := e.rounds + 1 }

/-- R65: the entry after a round of a subscription, by its attempt or the serving attempt. -/
def Entry.stale (e : Entry) (x : Sub) (r : Round) : Entry :=
  if e.serving.get x then e.aged (decide (r.serving = some true))
  else
    match r.attempts.find? fun t => decide (t.entry = e.index) with
    | some t => e.aged t.got
    | none => e

/-- An entry is triggered for a subscription (R73). -/
def State.triggered (s : State) (x : Sub) (e : Entry) : Bool :=
  e.owner.get x && !e.serving.get x && decide (0 < s.timeToTrigger x ∧ e.trigger.get x = s.timeToTrigger x)

/-- R74: the reselection read begins on the triggered entry of highest rank. -/
def State.idleTrigger (s : State) (x : Sub) : State :=
  if (s.sub x).target.isSome then s
  else
    match ranked x (s.meas.entries.filter (s.triggered x)) with
    | (e, _) :: _ =>
      let s := s.modSub x fun r => { r with target := some e.index }
      let (w, s) := s.insert
        { owner := .sub x, reporter := .measurement, purpose := .beaconRx, channel := e.cell.channel, start := slotAdd s.now 3,
          len := 10, slack := none, block := none }
      s.modMeas x fun m => { m with resel := .acquiring w false }
    | [] => s

/-- R78: a report is offered; a waiting one is replaced (DEDUCED, log 40). -/
def State.offerReport (s : State) (m : UpMsg) : State :=
  if s.ctx.waiting.any fun q => q.msg.isReport then
    s.modCtx fun c => { c with waiting := c.waiting.map fun q => if q.msg.isReport then { q with msg := m } else q }
  else s.offer m

/-- R77, R78: the report rule after an evaluation; `fresh` tells that an entry became triggered in it. Without a serving reported
level no report can be formed (log 21). -/
def State.reportRule (s : State) (x : Sub) (fresh : Bool) : State :=
  let es := ranked x (s.meas.entries.filter (s.triggered x))
  let m := s.measOf x
  let passed := min (m.evaluations + 1) 8
  let counted := s.modMeas x fun m => { m with sinceReport := m.sinceReport.map fun n => min (n + 1) 8, evaluations := passed }
  if es = [] then counted.modMeas x fun m => { m with sinceReport := none }
  else if fresh ∨ 8 ≤ passed then
    match s.servingLevel x with
    | some l =>
      (counted.modMeas x fun m => { m with sinceReport := some 0, evaluations := 0 }).offerReport
        (.measReport l ((es.take 3).map fun p => { cell := p.1.cell, level := (p.1.reported).getD 0 }))
    | none => counted
  else counted

/-- R80: the candidates of the MEAS notice. -/
def State.noticeCandidates (s : State) (x : Sub) : List (Nat × CellId × Nat × Int) :=
  ((ranked x (s.meas.entries.filter fun e => e.owner.get x && !e.serving.get x)).take 3).map fun p =>
    (p.1.index, p.1.cell, (p.1.reported).getD 0, p.2)

/-- Two levels differ by 4 codes or more, or one is absent and the other not (R80). -/
def levelsDiffer : Option Nat → Option Nat → Bool
  | none, none => false
  | some a, some b => decide (a + 4 ≤ b ∨ b + 4 ≤ a)
  | _, _ => true

/-- R80: the MEAS notice is examined. After an evaluation whose floor strike has lost the camp the mode is NONE, which the
snapshot cannot hold, and nothing is posted (DEDUCED, log 71). -/
def State.examineMeas (s : State) (x : Sub) : State :=
  let mode := (s.measOf x).mode
  if (s.sub x).notices = true ∧ (mode = .idle ∨ mode = .dedicated) then
    let level := s.servingLevel x
    let cands := s.noticeCandidates x
    let best := cands.head?.map Prod.fst
    let snap : Snapshot := .meas x (decide (mode = .dedicated)) level cands
    match (s.measOf x).reference with
    | none => s.post snap MeasFlag.best
    | some (l, b) =>
      let flags := (if levelsDiffer l level then MeasFlag.level else 0) ||| (if b ≠ best then MeasFlag.best else 0)
      if flags = 0 then s else s.post snap flags
  else s

/-- R31: the serving reported level handed over for the floor strike count. -/
def State.floorStrike (s : State) (x : Sub) : State :=
  match s.servingLevel x, (s.sub x).camped with
  | some l, some c =>
    if l < c.params.floor then
      let s := s.modSub x fun r => { r with strikes := min (r.strikes + 1) 3 }
      if 3 ≤ (s.sub x).strikes then s.campLoss x else s
    else s.modSub x fun r => { r with strikes := 0 }
  | _, _ => s

/-- R73: the evaluation of a subscription at the end of a round. -/
def State.evaluate (s : State) (x : Sub) (r : Round) : State :=
  let before := s
  let s := match s.servingRank x with
    | some k => s.mapEntries fun e => e.counted x r k (s.timeToTrigger x)
    | none => s
  let s := s.mapEntries fun e => e.stale x r
  let fresh := s.meas.entries.any fun e => s.triggered x e &&
    match before.entry e.index with
    | some e' => !before.triggered x e'
    | none => false
  let s := match (s.measOf x).mode with
    | .idle => s.floorStrike x
    | _ => s
  let s := match (s.measOf x).mode with
    | .idle => if (s.sub x).state = SubState.camped then s.idleTrigger x else s
    | .dedicated => s.reportRule x fresh
    | _ => s
  s.examineMeas x

/-- Every attempt of the list has ended. -/
def Round.listEnded (r : Round) : Bool := r.attempts.all fun t => t.ended.isSome

/-- R67, R69, R70, R64: a round has ended. A dedicated round that began with an empty list ends with a DED_RX window instead, also
when a sample of the other subscription has ended its serving attempt. One whose list was emptied ends as soon as its serving
attempt has ended too, and with a DED_RX window at the latest. -/
def Round.over (mode : Mode) (r : Round) : Bool :=
  match mode with
  | .idle => r.serving.isSome && r.listEnded
  | .dedicated => !r.bare && (!r.attempts.isEmpty || r.serving.isSome) && r.listEnded
  | _ => false

/-- A list without its first member that has a property. -/
def dropFirst (p : Round → Bool) : List Round → List Round
  | [] => []
  | r :: rest => if p r then rest else r :: dropFirst p rest

/-- Rounds that are over are evaluated one after another, at most as many as a number. -/
def State.evaluateOver (s : State) (x : Sub) : Nat → State
  | 0 => s
  | n + 1 =>
    let m := s.measOf x
    match m.rounds.find? (Round.over m.mode) with
    | some r =>
      ((s.modMeas x fun m => { m with rounds := dropFirst (Round.over m.mode) m.rounds }).evaluate x
        { r with serving := some (r.serving.getD false) }).evaluateOver x n
    | none => s

/-- R67, R64, R73: every round of a subscription that is over is evaluated. -/
def State.endRounds (s : State) (x : Sub) : State := s.evaluateOver x (s.measOf x).rounds.length

end Sys2Proof.Machine
end

