-- ==== Sys2Proof/Machine/Lists.lean ====
section
/-! DEFINITION. Additions to the neighbour table, the beacon lists applied to it, the move of the serving role at a handover, and
camping (R27, R60, R62 to R64, R112). -/

namespace Sys2Proof.Machine

open Sys2Proof

/-! ## Additions (R60, R63) -/

/-- R64: the victim of an addition is deleted, and the rounds that its deletion leaves without an open attempt are evaluated at once,
before the addition takes the index (DEDUCED, log 94). -/
def State.evict (s : State) (v : Entry) : State := ((s.deleteEntry v).endRounds .A).endRounds .B

/-- An addition of a new entry; none when it is not kept. -/
def State.addEntry (s : State) (victim : Option Entry) (c : CellId) (owner serving : Two Bool) (offset : Two Int) :
    Option State :=
  if s.meas.entries.length < tableRoom then some (s.makeEntry s.freeIndex c owner serving offset)
  else
    match victim with
    | some v => some ((s.evict v).makeEntry v.index c owner serving offset)
    | none => none

/-- R62 step 4: a subscription joins the serving-for set of a cell's entry, which is added if need be. -/
def State.joinServing (s : State) (x : Sub) (c : CellId) : State :=
  match s.entryOf c with
  | some e => s.modEntry e.index fun e => { e with serving := e.serving.set x true }
  | none =>
    (s.addEntry (s.servingVictim x) c (.both false) ((Two.both false).set x true) (.both 0)).getD s

/-- R62 step 5: a listed pair that has an entry. -/
def State.joinOwner (s : State) (x : Sub) (n : Neighbour) : State :=
  match s.entryOf n.cell with
  | some e => s.modEntry e.index fun e =>
      { e with
        owner := e.owner.set x true
        offset := e.offset.set x n.offset
        trigger := if e.owner.get x then e.trigger else e.trigger.set x 0 }
  | none => s

/-- R62 step 6: a listed pair that has no entry, with the count of additions not kept. -/
def State.addListed (s : State) (x : Sub) (n : Neighbour) (lost : Nat) : State × Nat :=
  match s.entryOf n.cell with
  | some _ => (s, lost)
  | none =>
    match s.addEntry (s.victimFor x) n.cell ((Two.both false).set x true) (.both false) ((Two.both 0).set x n.offset) with
    | some s' => (s', lost)
    | none => (s, lost + 1)

/-! ## Beacon lists (R62) and the serving role (R112) -/

/-- R62 steps 1 to 3: the subscription leaves what the list and the serving cell do not name, and its round, when that leaves it
without an open attempt, is evaluated at once (R64; DEDUCED, log 94). -/
def State.leaveUnlisted (s : State) (x : Sub) (serving : CellId) (list : List Neighbour) : State :=
  -- step 1
  let s := s.mapEntries fun e => if e.cell = serving then e else { e with serving := e.serving.set x false }
  -- step 2
  let gone := s.meas.entries.filter fun e => e.owner.get x && !list.any fun n => decide (n.cell = e.cell)
  let s := gone.foldl (fun s e => s.leaveOwner x e.index) s
  -- step 3
  (s.deleteIdle (some serving)).endRounds x

/-- R62 steps 4 to 6, and what the rule says behind them, in its order: the trigger counts are lowered to T after step 6 (DEDUCED,
log 94). -/
def State.joinListed (s : State) (x : Sub) (previous : Option CellId) (serving : CellId) (list : List Neighbour) : State :=
  -- step 4
  let s := s.joinServing x serving
  -- step 5
  let s := list.foldl (fun s n => s.joinOwner x n) s
  -- step 6
  let (s, lost) := list.foldl (fun (p : State × Nat) n => p.1.addListed x n p.2) (s, 0)
  let s := (s.paramsChanged x).noteLost x lost
  if previous = some serving then s else s.zeroTriggers x

/-- R62: a serving cell and a cleaned neighbour list applied for a subscription. A subscription whose evaluation in step 3 has lost its
camp (R73 step 3) takes no further step (DEDUCED, log 94). -/
def State.applyList (s : State) (x : Sub) (serving : CellId) (list : List Neighbour) : State :=
  let previous := (s.servingEntry x).map Entry.cell
  let s := s.leaveUnlisted x serving list
  if (s.sub x).camped.isNone then s else s.joinListed x previous serving list

/-- R112: the serving role moves to the target of a handover. -/
def State.moveServing (s : State) (x : Sub) (c : CellId) : State :=
  let s := s.mapEntries fun e => if e.cell = c then e else { e with serving := e.serving.set x false }
  let s := s.deleteIdle (some c)
  ((s.joinServing x c).zeroTriggers x).recompute

/-! ## Camping (R27) -/

/-- R27: the subscription camps on a cell. A camping of a subscription already CAMPED discards its round and keeps its mode (R66);
its PLANNED PAGE, serving BEACON and MEAS windows of the old cell are withdrawn (DEDUCED, log 101). -/
def State.camp (s : State) (x : Sub) (c : CampedCell) (neighbours : List Neighbour) : State :=
  let was := (s.sub x).state
  let s := s.dropPaging x
  let s := if was = .camped then s.setMode x (s.measOf x).mode else s
  let s := s.modSub x fun r =>
    { r with camped := some c, misses := 0, downlink := 10, strikes := 0, target := none, search := .none }
  let s := s.modMeas x fun m => { m with resel := .none }
  let s := s.applyList x c.cell neighbours
  let s := s.modSub x fun r => { r with state := .camped }
  let s := (s.planPage x).planRefresh x (c.lastBeacon + refreshStep)
  let s := s.postSub x (if was = .camped then SubFlag.cell else SubFlag.cell ||| SubFlag.state)
  let s := if (s.sub x).outside c.area then (s.ask x [.register] false).2 else s
  s.raiseWaiting x

end Sys2Proof.Machine
end

