-- ==== Sys2Proof/Machine/Measure.lean ====
section
/-! DEFINITION. The measurement unit: samples and the level filter, rounds and their planning, evaluation, idle reselection,
measurement reports and the MEAS notice (R65 to R80). -/

namespace Sys2Proof.Machine

open Sys2Proof

/-! ## Samples (R67, R70, R71) -/

/-- R67, R70: every open attempt on an entry ends with a sample; with the entry serving for the round's subscription, the open serving
attempt does. -/
def Round.sampled (i : Nat) (serves : Bool) (r : Round) : Round :=
  { r with
    attempts := r.attempts.map fun t => if t.entry = i ∧ t.ended = none then { t with ended := some true } else t
    serving := if serves then some (r.serving.getD true) else r.serving }

/-- An open attempt on an entry, the serving attempts counted where the entry is serving. -/
def MeasSub.opensOn (m : MeasSub) (i : Nat) (serves : Bool) : Bool :=
  m.rounds.any fun r => (serves && r.serving.isNone) || r.attempts.any fun t => decide (t.entry = i ∧ t.ended = none)

/-- The windows to which the open attempts on an entry are bound. -/
def MeasSub.windowsOn (m : MeasSub) (i : Nat) : List WinId :=
  m.rounds.flatMap fun r => r.attempts.filterMap fun t => if t.entry = i ∧ t.ended = none then t.window else none

/-- An open attempt of either subscription is bound to a window. -/
def State.awaited (s : State) (w : WinId) : Bool :=
  (s.measOf .A).openWindows.contains w || (s.measOf .B).openWindows.contains w

/-- R67: a sample of an entry ends a subscription's open attempts on it, and its rounds are looked at. -/
def State.endTries (s : State) (x : Sub) (i : Nat) (serves : Bool) : State :=
  if (s.measOf x).opensOn i serves then
    (s.modMeas x fun m => { m with rounds := m.rounds.map (Round.sampled i serves) }).report (.rounds x)
  else s

/-- R71, R67: a sample enters an entry's filter and ends the open attempts on it, the serving attempts included. A window still
PLANNED to which one of these was bound is withdrawn when no other open attempt is bound to it. A DED_RX level is given with its
subscription, of whose serving attempts it ends one at most, as R70 says (`State.measDedEnded`; DEDUCED, log 85). -/
def State.sampleEntered (s : State) (i sample : Nat) (dedicated : Option Sub) : State :=
  match s.entry i with
  | some e =>
    let serves (x : Sub) : Bool := e.serving.get x && decide (dedicated ≠ some x)
    let ws := (s.measOf .A).windowsOn i ++ (s.measOf .B).windowsOn i
    let s := s.modEntry i fun e => { e with level := some (filtered e.level e.depth sample), rounds := 0 }
    let s := (s.endTries .A i (serves .A)).endTries .B i (serves .B)
    (ws.filter fun w => !s.awaited w).foldl State.unbind s
  | none => s

/-! ## The end of a MEAS window (R70) -/

/-- R70: the open attempts bound to a window end without a sample. -/
def Round.missed (w : WinId) (r : Round) : Round :=
  { r with
    attempts := r.attempts.map fun t => if t.window = some w ∧ t.ended = none then { t with ended := some false } else t }

/-- R70: the same in every round of a subscription. -/
def MeasSub.missed (w : WinId) (m : MeasSub) : MeasSub := { m with rounds := m.rounds.map (Round.missed w) }

/-- R70: what the end of a MEAS window does to the entries and the attempts bound to it. Its sample enters the filter of every entry
bound to it: two are when the insertion of one joined the window of the other (R50). -/
def State.measWindowOver (s : State) (w : WinId) (e : Ended) : State :=
  let bound := s.meas.entries.filter fun f => decide (f.bound = some w)
  let s := s.mapEntries fun f => if f.bound = some w then { f with bound := none } else f
  let s := match e with
    | .done (.sample l) => bound.foldl (fun (s : State) (f : Entry) => s.sampleEntered f.index l none) s
    | _ => (s.modMeas .A (MeasSub.missed w)).modMeas .B (MeasSub.missed w)
  let gone (m : MeasSub) : MeasSub := { m with dedWindows := m.dedWindows.filter fun v => decide (v ≠ w) }
  (s.modMeas .A gone).modMeas .B gone

/-- R70: a MEAS window ended; the rounds it leaves over are looked at. -/
def State.measWindowEnded (s : State) (w : Window) (e : Ended) : State :=
  ((s.measWindowOver w.id e).report (.rounds .A)).report (.rounds .B)

/-- A report tells that a window was SKIPPED. -/
def Report.skips (w : WinId) : Report → Bool
  | .skipped v _ _ => decide (v.id = w)
  | _ => false

/-- R69: a dedicated MEAS window that was SKIPPED at its insertion ends at once, and a round that ends with it is evaluated, before
the planner goes on. -/
def State.endIfSkipped (s : State) (x : Sub) (w : WinId) : State :=
  match s.reports.find? (Report.skips w) with
  | some (.skipped _ c k) =>
    ((({ s with reports := s.reports.filter fun r => !r.skips w }.measWindowOver w (.skipped c k)).endRounds x).report
      (.rounds x.other))
  | _ => s

/-! ## Planning (R67 to R69) -/

/-- R67: the entries of the round list, as the table stands. -/
def State.roundList (s : State) (x : Sub) : List Entry := s.meas.entries.filter fun e => e.owner.get x && !e.serving.get x

/-- R67: a round begins with the round list. -/
def State.newRound (s : State) (x : Sub) (serving : Option Bool) : Round :=
  { attempts := (s.roundList x).map fun e => { entry := e.index, passed := false, window := none, ended := none }
    serving := serving
    bare := (s.roundList x).isEmpty }

/-- The newest round of a list changed. -/
def modLast (f : Round → Round) : List Round → List Round
  | [] => []
  | [r] => [f r]
  | r :: rest => r :: modLast f rest

/-- An attempt of the newest round is passed by the planner, bound to a window or not. -/
def State.passTry (s : State) (x : Sub) (i : Nat) (w : Option WinId) : State :=
  s.modMeas x fun m =>
    { m with
      rounds := modLast (fun r =>
        { r with attempts := r.attempts.map fun t => if t.entry = i then { t with passed := true, window := w } else t }) m.rounds }

/-- The attempts of the newest round the planner has not reached. -/
def MeasSub.ahead (m : MeasSub) : List SampleTry :=
  match m.rounds.getLast? with
  | some r => r.attempts.filter fun t => !t.passed
  | none => []

/-- The owner of a MEAS window for an entry (R67). -/
def Entry.windowOwner (e : Entry) (x : Sub) : Owner := if e.interests .A && e.interests .B then .part else .sub x

/-- R67: the planner reaches an attempt. The answer is the window inserted, if one was. -/
def State.reachTry (s : State) (x : Sub) (t : SampleTry) (start : Slot) (slack : Nat) : Option WinId × State :=
  match s.entry t.entry with
  | none => (none, s.passTry x t.entry none)
  | some e =>
    if t.ended.isSome then (none, s.passTry x t.entry none)
    else
      match e.bound with
      | some w => (none, s.passTry x t.entry (some w))
      | none =>
        let (w, s) := s.insert
          { owner := e.windowOwner x, reporter := .measurement, purpose := .meas, channel := e.cell.channel, start := start,
            len := 1, slack := some slack, block := none }
        let s := s.modEntry t.entry fun e => { e with bound := some w }
        (some w, s.passTry x t.entry (some w))

/-- R68: the batch behind a PAGE window that started at a slot; k windows are inserted already. -/
def State.planBatch (s : State) (x : Sub) (page : Slot) : List SampleTry → Nat → State
  | [], _ => s
  | t :: rest, k =>
    if 4 ≤ k then s
    else
      match s.reachTry x t (slotAdd page (8 + 2 * k)) 4 with
      | (some _, s) => s.planBatch x page rest (k + 1)
      | (none, s) => s.planBatch x page rest k

/-- Two slot numbers of a frame lie at least 2 apart, counted round the frame (R69). -/
def apart (i j : Nat) : Bool := decide (2 ≤ (i + 10 - j) % 10 ∧ 2 ≤ (j + 10 - i) % 10)

/-- R69: the measurement slot of a connection. -/
def measSlot (rx tx : Nat) : Nat := ((List.range 10).find? fun j => apart j rx && apart j tx).getD 0

/-- An attempt's entry has no MEAS window bound to it. -/
def State.unbound (s : State) (t : SampleTry) : Bool :=
  match s.entry t.entry with
  | some e => e.bound.isNone
  | none => false

/-- R69: the first frame of a connection whose measurement slot lies at least 3 slots ahead. -/
def State.firstMeasFrame (s : State) (c : Context) : Slot :=
  let j := measSlot c.rx c.tx
  (nextFrame { s0 := c.s0, f0 := 0 } s.now 3 j 1 0).2 - BitVec.ofNat 32 j

/-- R69: the frame of the next dedicated MEAS window: the one after the latest planned. When the planner stood still meanwhile and
that frame's measurement slot is too near or past, it is the first frame ahead (DEDUCED, log 38). -/
def State.measFrame (s : State) (x : Sub) (c : Context) : Slot :=
  let m := s.measOf x
  if m.dedHeld && !liesAhead s.now (slotAdd m.dedNext (measSlot c.rx c.tx)) 3 then s.firstMeasFrame c else m.dedNext

/-- The planner stands still: no entry can be given a window now. -/
def State.holdDedicated (s : State) (x : Sub) : State := s.modMeas x fun m => { m with dedHeld := true }

/-- R69: dedicated MEAS windows are inserted until the calendar holds two. The next insertion after an exhausted list begins the
next round, whatever rounds are in progress; with every entry of its list bound to a window already, none can be inserted, and
the round waits for that insertion (DEDUCED, log 38). -/
def State.planDedicated (s : State) (x : Sub) : Nat → State
  | 0 => s
  | n + 1 =>
    match s.connection x with
    | none => s
    | some c =>
      let live := (s.measOf x).dedWindows.filter fun w => s.cal.windows.any fun v => decide (v.id = w) && !v.withdrawn
      let s := s.modMeas x fun m => { m with dedWindows := live }
      if 2 ≤ live.length then s
      else
        match (s.measOf x).ahead with
        | t :: _ =>
          let next := s.measFrame x c
          match s.reachTry x t (slotAdd next (measSlot c.rx c.tx)) 0 with
          | (some w, s) =>
            ((s.modMeas x fun m =>
              { m with dedWindows := m.dedWindows ++ [w], dedNext := slotAdd next 10, dedHeld := false }).endIfSkipped x
              w).planDedicated x n
          | (none, s) => s.planDedicated x n
        | [] =>
          let r := s.newRound x none
          let s' := s.modMeas x fun m => { m with rounds := m.rounds ++ [r] }
          if r.attempts.any s.unbound then s'.planDedicated x n
          else if (s.measOf x).rounds = [] then if r.attempts = [] then s'.holdDedicated x else s'.planDedicated x n
          else s.holdDedicated x

/-- Enough turns for the planner: every attempt of three full rounds, and the rounds' beginnings. When every window it inserts is
SKIPPED at once, R69 has it insert without end; it stops after these turns and goes on when rounds are looked at again (DEDUCED,
log 38). -/
def planTurns : Nat := 96

/-- R66, R69: the connection has begun, or a handover has ended: mode DEDICATED, and a round begins. -/
def State.measDedicated (s : State) (x : Sub) : State :=
  let s := s.setMode x .dedicated
  match s.connection x with
  | some c =>
    let first := s.firstMeasFrame c
    (s.modMeas x fun m => { m with dedNext := first, dedHeld := false }).planDedicated x planTurns
  | none => s

/-- R67: rounds that have ended are evaluated, and a connection's planner goes on. -/
def State.checkRounds (s : State) (x : Sub) : State :=
  let s := s.endRounds x
  if (s.measOf x).mode = .dedicated then s.planDedicated x planTurns else s

/-! ## Events (R68, R70) -/

/-- R68: a PAGE window of the subscription ended, with its start slot and the level of a DONE result. -/
def State.measPageEnded (s : State) (x : Sub) (start : Slot) (level : Option Nat) : State :=
  let s := if (s.measOf x).mode = .idle then s else s.setMode x .idle
  let s := if (s.measOf x).rounds = [] then
      let s := s.modMeas x fun m => { m with rounds := [s.newRound x (some level.isSome)] }
      match level, s.servingEntry x with
      | some l, some e => s.sampleEntered e.index l none
      | _, _ => s
    else s
  let s := s.planBatch x start (s.measOf x).ahead 0
  s.checkRounds x

/-- R70, R69: a DED_RX window of the subscription's connection ended, with the level of a DONE result. The level ends the serving
attempt of the oldest round when it is open: it is the first since the evaluation before. A round with an empty list ends with
the window; its serving attempt, when no sample has ended it, ends by the window's outcome. -/
def State.measDedEnded (s : State) (x : Sub) (level : Option Nat) : State :=
  if (s.measOf x).mode = .dedicated then
    let s := match level, s.servingEntry x with
      | some l, some e => s.sampleEntered e.index l (some x)
      | _, _ => s
    let s := match level with
      | some _ => s.modMeas x fun m =>
          { m with rounds := m.rounds.modifyHead fun r => { r with serving := some (r.serving.getD true) } }
      | none => s
    match (s.measOf x).rounds with
    | r :: rest =>
      if r.attempts = [] then
        ((s.modMeas x fun m => { m with rounds := rest }).evaluate x { r with serving := some (r.serving.getD false) }).planDedicated
          x planTurns
      else s
    | [] => s.planDedicated x planTurns
  else s

/-- R75: a reselection read failed. -/
def State.reselFailed (s : State) (x : Sub) : State :=
  let s := match (s.sub x).target with
    | some i => s.modEntry i fun e => { e with trigger := e.trigger.set x 0 }
    | none => s
  (s.modSub x fun r => { r with target := none }).modMeas x fun m => { m with resel := .none }

/-- A window of a reselection read inserted. -/
def State.insertResel (s : State) (x : Sub) (channel : Nat) (start : Slot) (len : Nat) : WinId × State :=
  s.insert { owner := .sub x, reporter := .measurement, purpose := .beaconRx, channel := channel, start := start, len := len,
             slack := none, block := none }

/-- R74, R75: a window of a reselection read ended. -/
def State.reselEnded (s : State) (x : Sub) (w : Window) (e : Ended) : State :=
  match (s.sub x).state, (s.measOf x).resel with
  | .camped, .acquiring id again =>
    if id ≠ w.id then s
    else
      match e with
      | .done (.timing o f _) =>
        let a : Anchor := { s0 := slotAdd w.start o, f0 := f }
        let (f', start) := nextCycle a s.now
        let (v, s) := s.insertResel x w.channel start 2
        s.modMeas x fun m => { m with resel := .reading v a f' false }
      | .skipped _ _ =>
        if again then s.reselFailed x
        else
          let t := slotAdd w.start 10
          let (v, s) := s.insertResel x w.channel (if liesAhead s.now t 3 then t else slotAdd s.now 3) 10
          s.modMeas x fun m => { m with resel := .acquiring v true }
      | _ => s.reselFailed x
  | .camped, .reading id a f again =>
    if id ≠ w.id then s
    else
      -- a decoded block that is no BEACON is taken as BLOCK_BAD (log 69)
      match e with
      | .done (.block (.beacon b) _) =>
        let cell : CellId := { channel := w.channel, code := b.code }
        match (s.sub x).target with
        | some i =>
          if ((s.entry i).map Entry.cell) = some cell ∧ b.barred = false then
            s.camp x (beaconCell b w.channel w.start) (cleanNeighbours cell b.neighbours)
          else s.reselFailed x
        | none => s.reselFailed x
      | .skipped _ _ =>
        if again then s.reselFailed x
        else
          let (v, s) := s.insertResel x w.channel (slotAdd w.start 640) 2
          s.modMeas x fun m => { m with resel := .reading v a (f + 64) true }
      | _ => s.reselFailed x
  | _, _ => s

end Sys2Proof.Machine
end

