-- ==== Sys2Proof/Machine/Text.lean ====
section
/-! DEFINITION. The text transfer unit: the outbox and its sending, outcomes, the reassembly table, the recent list and
STORE_READY (R134 to R149). -/

namespace Sys2Proof.Machine

open Sys2Proof

/-! ## The outbox -/

/-- Bounds of the outbox and of an outcome list (8.1, R140). -/
def outEntries : Nat := 8
def outParts : Nat := 32
def outcomeRoom : Nat := 8

/-- The assembly time, the part wait, the idle wait and the age time (R135, R139, R143, R146). -/
def assemblySlots : Nat := 20000
def partWaitSlots : Nat := 40
def idleWaitSlots : Nat := 400
def ageSlots : Nat := 120000

/-- All parts held in the outbox. -/
def State.partsHeld (s : State) : Nat := (s.text.outbox.map fun e => e.parts.length).sum

/-- The entry of a subscription and reference. -/
def State.outEntry (s : State) (x : Sub) (ref : Byte) : Option OutEntry :=
  s.text.outbox.find? fun e => decide (e.sub = x ∧ e.reference = ref)

/-- The entry of a subscription that is SENDING. -/
def State.sendingEntry (s : State) (x : Sub) : Option OutEntry :=
  s.text.outbox.find? fun e => decide (e.sub = x ∧ e.state = .sending)

/-- Entries of the outbox changed. -/
def State.modOut (s : State) (p : OutEntry → Bool) (f : OutEntry → OutEntry) : State :=
  { s with text := { s.text with outbox := s.text.outbox.map fun e => if p e then f e else e } }

/-- The entry meant by a subscription and reference. -/
def OutEntry.is (e : OutEntry) (x : Sub) (ref : Byte) : Bool := decide (e.sub = x ∧ e.reference = ref)

/-- An entry that has ended and waits for room in the outcome list. -/
def OutEntry.isEnded (e : OutEntry) : Bool := decide (e.state = .sent ∨ e.state = .failed)

/-- An entry put at its place by a sequence value. -/
def placeBy (key : OutEntry → Nat) (e : OutEntry) : List OutEntry → List OutEntry
  | [] => [e]
  | f :: rest => if key e < key f then e :: f :: rest else f :: placeBy key e rest

/-- Entries in the order of a sequence value. -/
def sortBy (key : OutEntry → Nat) (es : List OutEntry) : List OutEntry := es.foldl (fun l e => placeBy key e l) []

/-- R140: ended entries of a subscription add their outcomes while the list has room, and leave the outbox. -/
def State.flushOutcomes (s : State) (x : Sub) : State :=
  let room := outcomeRoom - (s.textOf x).outcomes.length
  let go := (sortBy OutEntry.ended (s.text.outbox.filter fun e => decide (e.sub = x) && e.isEnded)).take room
  if go = [] then s
  else
    let s := s.modText x fun t =>
      { t with outcomes := t.outcomes ++ go.filterMap fun e => e.outcome.map fun o => (e.reference, o) }
    let s := { s with text := { s.text with outbox := s.text.outbox.filter fun e => !go.contains e } }
    s.postText x TextFlag.outcome

/-- An entry reaches SENT or FAILED with an outcome. -/
def State.endEntry (s : State) (x : Sub) (ref : Byte) (o : TextOutcome) : State :=
  let (n, s) := s.moment
  let s := s.modOut (fun e => e.is x ref) fun e =>
    { e with
      state := if o = .sent then .sent else .failed
      outcome := some o, ended := n, assembly := none, wait := .stopped, part := none, next := none }
  s.flushOutcomes x

/-! ## Sending (R137, R139) -/

/-- R139: the part being sent is offered. -/
def State.offerPart (s : State) (e : OutEntry) : State :=
  match e.part with
  | some k => s.offer (.textPart e.reference.toNat k (e.count.getD 0) e.destination (e.parts[k - 1]?.getD []))
  | none => s

/-- R137: the oldest READY entry becomes SENDING, when TEXT is on the connection, no registration is open and none is SENDING. -/
def State.startSending (s : State) (x : Sub) : State :=
  match s.connection x with
  | some c =>
    if c.purposes.contains .text ∧ s.registering x = false ∧ s.sendingEntry x = none then
      match sortBy OutEntry.order (s.text.outbox.filter fun e => decide (e.sub = x ∧ e.state = .ready)) with
      | e :: _ =>
        let e' := { e with state := .sending, part := some 1, sends := 1 }
        ((s.modOut (fun f => f.is x e.reference) fun _ => e').modCtx fun u => { u with textBegun := true }).offerPart e'
      | [] => s
    else s
  | none => s

/-- R137: TEXT leaves the connection when nothing of it remains. -/
def State.textMayLeave (s : State) (x : Sub) : State :=
  match s.connection x with
  | some c =>
    if c.purposes.contains .text ∧ (s.textOf x).incoming = false ∧ s.hasReady x = false ∧ s.sendingEntry x = none then
      s.leaveConn x .text
    else s
  | none => s

/-- R137: the TEXT purpose is raised for a subscription. -/
def State.raiseText (s : State) (x : Sub) : State :=
  let (a, s) := s.ask x [.text] false
  if a = .connection then s.startSending x else s

/-- The SENDING entry ended: the next begins, or TEXT leaves. -/
def State.afterSending (s : State) (x : Sub) : State := (s.startSending x).textMayLeave x

/-- R138: an access attempt opened for a request that held TEXT failed. Entries that reach 3 attempts end in the order of their
creation (DEDUCED, log 78). -/
def State.textAccessFailed (s : State) (x : Sub) : State :=
  let ready := s.text.outbox.filter fun e => decide (e.sub = x ∧ e.state = .ready)
  ready.foldl (fun s e =>
    if 3 ≤ e.attempts + 1 then
      (s.modOut (fun f => f.is x e.reference) fun f => { f with attempts := f.attempts + 1 }).endEntry x e.reference
        (.failed .noAccess)
    else s.modOut (fun f => f.is x e.reference) fun f => { f with attempts := f.attempts + 1 }) s

/-- R138, R143, R144: the subscription's connection ended. -/
def State.textConnEnded (s : State) (x : Sub) : State :=
  let s := match s.sendingEntry x with
    | some e =>
      let s := s.modOut (fun f => f.is x e.reference) fun f =>
        { f with state := .ready, attempts := f.attempts + 1, wait := .stopped, part := none, sends := 0 }
      if 3 ≤ e.attempts + 1 then s.endEntry x e.reference (.failed .linkLost) else s
    | none => s
  let s := s.modText x fun t => { t with incoming := false, idle := .stopped }
  { s with text := { s.text with recent := s.text.recent.filter fun r => decide (r.sub ≠ x) } }

/-! ## Incoming (R143 to R148) -/

/-- The bound of the reassembly table and of the recent list (R144). -/
def tableEntries : Nat := 4

/-- R143: the incoming reason begins, or its idle wait is set again. -/
def State.holdIncoming (s : State) (x : Sub) : State :=
  s.modText x fun t => { t with incoming := true, idle := .running (s.timerFor idleWaitSlots) }

/-- R143: the same on a connection that TEXT joins, at a TEXT_PART and when STORE_READY counts as sent (DEDUCED, log 99), unless DONE
was sent (R16) or a LEAVE purpose is open (R34; DEDUCED, log 41).
With TEXT on the connection a READY entry begins to be sent (R137). -/
def State.beginIncoming (s : State) (x : Sub) : State :=
  let s := s.holdIncoming x
  match s.connection x with
  | some _ =>
    if s.doneGone || s.leaving x then s
    else ((s.modPurposes x (addOnce .text)).removeMsgs UpMsg.isDone).startSending x
  | none => s

/-- Two reassembly entries' names (R144). -/
def Reassembly.is (e : Reassembly) (x : Sub) (sender : Digits) (ref : Nat) : Bool :=
  decide (e.sub = x ∧ e.sender = sender ∧ e.reference = ref)

/-- An open entry (R144). -/
def Reassembly.opened (e : Reassembly) : Bool := decide (e.closing = none)

/-- Entries of the reassembly table changed. -/
def State.modTable (s : State) (p : Reassembly → Bool) (f : Reassembly → Reassembly) : State :=
  { s with text := { s.text with table := s.text.table.map fun e => if p e then f e else e } }

/-- A part put at its place in index order. -/
def placePart (p : Nat × List Byte) : List (Nat × List Byte) → List (Nat × List Byte)
  | [] => [p]
  | q :: rest => if p.1 < q.1 then p :: q :: rest else q :: placePart p rest

/-- R147: the message a closed entry asks the store to write. The number and the time are the store's. -/
def Reassembly.message (e : Reassembly) : Message :=
  { header :=
      { number := 0, sub := e.sub, sender := e.sender, time := 0, count := e.count, present := e.parts.map Prod.fst,
        complete := decide (e.closing = some .complete) }
    body := e.parts.flatMap Prod.snd }

/-- The write of a closed entry is asked. -/
def State.askWrite (s : State) (e : Reassembly) : State :=
  match e.slot with
  | some p => s.queueOp (.write p e.message)
  | none => s

/-- R147: an open entry is closed and becomes a write. -/
def State.closeEntry (s : State) (e : Reassembly) (how : Closing) : State :=
  let e' := { e with closing := some how, age := none }
  (s.modTable (fun f => f.is e.sub e.sender e.reference) fun f => { f with closing := some how, age := none }).askWrite e'

/-- R146: memory-full-signalled is set. -/
def State.setMemoryFull (s : State) (x : Sub) : State :=
  let was := (s.sub x).memoryFull
  let s := (s.modSub x fun r => { r with memoryFull := true }).modText x fun t => { t with readySent := false }
  if was then s else (s.postText x TextFlag.memory).report .storeChanged

/-- R148: the RELEASE after STORE_READY clears memory-full-signalled. -/
def State.clearMemoryFull (s : State) (x : Sub) : State :=
  ((s.modSub x fun r => { r with memoryFull := false }).postText x TextFlag.memory).report .storeChanged

/-- R146: the first part of a new message. -/
def State.firstPart (s : State) (x : Sub) (ref index count : Nat) (sender : Digits) (body : List Byte) : State :=
  match s.reserve with
  | (none, s) => (s.setMemoryFull x).offer (.textRefuse ref true)
  | (some p, s) =>
    if tableEntries ≤ s.text.table.length then
      let s := s.handBack p
      match s.text.table.find? Reassembly.opened with
      | some e => s.closeEntry e .incomplete
      | none => s
    else
      let e : Reassembly :=
        { sub := x, sender := sender, reference := ref, count := count, parts := [(index, body)], closing := none,
          unwritten := false, slot := some p, age := some (s.timerFor ageSlots) }
      let s := { s with text := { s.text with table := s.text.table ++ [e] } }
      let s := s.offer (.textAck ref index)
      if count = 1 then s.closeEntry e .complete else s

/-- R145: a part that matches an entry of the table. -/
def State.matchedPart (s : State) (e : Reassembly) (ref index count : Nat) (body : List Byte) : State :=
  let held := e.parts.any fun q => decide (q.1 = index)
  if e.opened then
    if e.count ≠ count then s.offer (.textRefuse ref false)
    else if held then s.offer (.textAck ref index)
    else
      let e' := { e with parts := placePart (index, body) e.parts }
      let s := s.modTable (fun f => f.is e.sub e.sender e.reference) fun f => { f with parts := placePart (index, body) f.parts }
      let s := s.offer (.textAck ref index)
      if e'.parts.length = e'.count then s.closeEntry e' .complete else s
  else if held then s.offer (.textAck ref index)
  else s.offer (.textRefuse ref false)

/-- R145, R143: a TEXT_PART received on the subscription's connection. -/
def State.textPartReceived (s : State) (x : Sub) (ref index count : Nat) (sender : Digits) (body : List Byte) : State :=
  let s := (s.clearTextWaiting x).beginIncoming x
  if count < index then s.offer (.textRefuse ref false)
  else
    match s.text.table.find? fun e => e.is x sender ref with
    | some e => s.matchedPart e ref index count body
    | none =>
      match s.text.recent.find? fun r => decide (r.sub = x ∧ r.sender = sender ∧ r.reference = ref) with
      | some r =>
        if s.store.stillLive r.number x sender ∧ r.parts.contains index then s.offer (.textAck ref index)
        else s.offer (.textRefuse ref false)
      | none => s.firstPart x ref index count sender body

/-- R147, R144: a write ended well. Its record joins the recent list, complete or not, and whether or not a connection of the
subscription runs (DEDUCED, log 47). -/
def State.writeDone (s : State) (p : SlotId) (number : Nat) : State :=
  match s.text.table.find? fun e => decide (e.slot = some p) with
  | some e =>
    let r : Recent :=
      { sub := e.sub, sender := e.sender, reference := e.reference, parts := e.parts.map Prod.fst, number := number }
    let s := { s with
      text := { s.text with
        table := s.text.table.filter fun f => decide (f.slot ≠ some p)
        recent := newest tableEntries (s.text.recent ++ [r]) } }
    let s := s.modText e.sub fun t =>
      { t with
        received := bump255 t.received
        latest := some number
        incomplete := if e.closing = some Closing.incomplete then bump255 t.incomplete else t.incomplete }
    s.postText e.sub TextFlag.received
  | none => s

/-- R148: a write failed; a new slot came with the report, or none. -/
def State.writeFailed (s : State) (p : SlotId) (fresh : Option SlotId) : State :=
  match s.text.table.find? fun e => decide (e.slot = some p) with
  | some e =>
    let e' := { e with slot := fresh, unwritten := fresh.isNone }
    let s := s.modTable (fun f => decide (f.slot = some p)) fun f => { f with slot := fresh, unwritten := fresh.isNone }
    match fresh with
    | some _ => s.askWrite e'
    | none => s.postText e.sub TextFlag.unwritten
  | none => s

/-- STORE_READY is offered once. -/
def State.offerStoreReady (s : State) (x : Sub) : State :=
  match s.connection x with
  | some c =>
    if c.purposes.contains .storeReady ∧ s.registering x = false ∧ s.unsent UpMsg.isStoreReady = false ∧
        s.carried UpMsg.isStoreReady = false then s.offer .storeReady
    else s
  | none => s

/-- R148: STORE_READY is raised for a subscription. -/
def State.raiseStoreReady (s : State) (x : Sub) : State :=
  let (a, s) := s.ask x [.storeReady] false
  if a = .connection then s.offerStoreReady x else s

/-- R148 step 1: an UNWRITTEN entry is given a slot if there is one. -/
def State.giveSlot (s : State) (e : Reassembly) : State :=
  if e.unwritten then
    match s.reserve with
    | (some p, s) =>
      let e' := { e with slot := some p, unwritten := false }
      (s.modTable (fun f => f.is e.sub e.sender e.reference) fun f => { f with slot := some p, unwritten := false }).askWrite e'
    | (none, s) => s
  else s

/-- R148: the number of usable slots rose. STORE_READY is raised for A before B (DEDUCED, log 34). -/
def State.usableRose (s : State) : State :=
  let s := s.text.table.foldl State.giveSlot s
  let s := if s.wantsStoreReady .A then s.raiseStoreReady .A else s
  if s.wantsStoreReady .B then s.raiseStoreReady .B else s

/-- R142: the subscription became DETACHED (DEDUCED, log 42). -/
def State.textDetached (s : State) (x : Sub) : State :=
  let mine := s.text.outbox.filter fun e => decide (e.sub = x) && !e.isEnded
  let first := sortBy OutEntry.order (mine.filter fun e => decide (e.state ≠ .assembling))
  let s := (first ++ mine.filter fun e => decide (e.state = .assembling)).foldl
    (fun s e => s.endEntry x e.reference (.failed .detached)) s
  let s := match s.connection x with
    | some _ => s.modCtx fun c =>
        { c with waiting := c.waiting.filter fun q => match q.msg with
          | .textPart _ _ _ _ _ => false
          | _ => true }
    | none => s
  let s := (s.text.table.filter fun e => decide (e.sub = x) && e.opened).foldl (fun s e => s.closeEntry e .incomplete) s
  { s with text := { s.text with recent := s.text.recent.filter fun r => decide (r.sub ≠ x) } }

end Sys2Proof.Machine
end

