-- ==== Sys2Proof/Machine/Connection.lean ====
section
/-! DEFINITION. Access attempts and the dedicated connection: watches and bursts, the connection's beginning and its windows, the
messages sent and received on it, calls on it, registration, and every way it ends (R9, R11, R12, R16, R36 to R41, R84 to R104,
R139). -/

namespace Sys2Proof.Machine

open Sys2Proof

/-! ## Ends of a connection (R16, R37, R40, R98, R103) -/

/-- A window of the dedicated context unit for a subscription. -/
def Window.ofContext (w : Window) (x : Sub) : Bool := decide (w.owner = .sub x ∧ w.reporter = .context)

/-- R39: an open registration ends without outcome, and area-changed-in-call is cleared (DEDUCED, log 27, log 28). -/
def State.regDropped (s : State) (x : Sub) : State :=
  let open_ := s.registering x
  let s := s.modSub x fun r => { r with regGuard := none, areaChanged := false }
  if open_ then s.postSub x SubFlag.registration else s

/-- R16, R103: the connection's windows are withdrawn, its purposes end, and both of its records become unused. -/
def State.dropConnection (s : State) (x : Sub) : State :=
  let s := s.withdrawAll fun w => w.ofContext x
  let s := (s.regDropped x).textConnEnded x
  let s := s.setMode x .none
  let s := s.modText x fun t => { t with readySent := false }
  if (s.connection x).isSome then s.modCtx fun c => { CtxUnit.reset with nextMsg := c.nextMsg } else s

/-- The records of a subscription for which p holds are freed with a cause; a CLEARING record keeps its own. -/
def State.endCalls (s : State) (x : Sub) (p : CallRec → Bool) (c : CallCause) : State :=
  callIds.foldl (fun s i =>
    let r := s.call i
    if r.sub = some x ∧ r.state ≠ .free ∧ p r = true then
      s.freeCall i (if r.state = .clearing then r.cause.getD c else c)
    else s) s

/-- R40: the subscription, which is not ENGAGED or no longer so, becomes DETACHED, and the SUB_DETACH is answered. -/
def State.becomeDetached (s : State) (x : Sub) : State :=
  -- MEAS windows go with the mode (R66), but for those that an open attempt of the other subscription is bound to
  let s := s.withdrawAll fun w => decide (w.owner = .sub x ∧ w.purpose ≠ .meas)
  let s := s.campsNoMore x
  let s := s.dropRequest x
  let waiting := (s.sub x).textWaiting
  let ticket := (s.sub x).detaching
  let s := s.modSub x fun r =>
    { r with
      state := .detached, camped := none, target := none, search := .none, page := none, refresh := none, retry := none,
      regGuard := none, textWaiting := false, areaChanged := false, reason := none, detaching := none }
  let s := s.textDetached x
  let s := match ticket with
    | some t => s.refuse t .done
    | none => s
  s.postSub x (SubFlag.state ||| SubFlag.cell ||| if waiting then SubFlag.textWaiting else 0)

/-- R37, last part: the subscription leaves ENGAGED for SEARCHING; the purposes waiting in its request end. -/
def State.engagedToSearch (s : State) (x : Sub) : State :=
  (((s.disengage x).lostService x).toSearching x).grantIfFree

/-- R37 case 2, R36: the subscription leaves ENGAGED for NO_SERVICE. -/
def State.engagedToNoService (s : State) (x : Sub) (why : NoServiceReason) : State :=
  let s := (s.disengage x).lostService x
  let s := s.campsNoMore x
  let s := s.modSub x fun r => { r with camped := none, target := none }
  (s.enterNoService x why SubFlag.cell).grantIfFree

/-- R37: the confirming read is planned in a frame 0 at a slot. -/
def State.planConfirm (s : State) (x : Sub) (f : FrameNo) (start : Slot) : State :=
  match (s.sub x).camped with
  | some c =>
    let (id, s) := s.insertBeacon x c.cell.channel start 2
    s.setStage x (.confirming id f)
  | none => s

/-- R37 case 3: the ACTIVE record's cell and anchor are copied into the camped cell, and the cell is read at its next frame 0.
What waits for a connection's end is raised and joins the request (R34, R137, R138, R148; DEDUCED, log 67); a DIALLING record's CALL
waits for the camping (R96). A frame 0 fewer than 3 slots ahead is left out for the one of the cycle after (DEDUCED, log 24). -/
def State.confirmCamp (s : State) (x : Sub) (c : Context) : State :=
  let s := s.modSub x fun r =>
    { r with
      camped := r.camped.map fun k => { k with cell := c.cell, anchor := { s0 := c.s0, f0 := c.f0.getD k.anchor.f0 } } }
  match (s.sub x).camped with
  | some k =>
    let (f, start) := nextCycle k.anchor s.now
    (s.planConfirm x f start).raiseReady x
  | none => s.engagedToSearch x

/-- R16, R37, R96, R148: the connection ends by RELEASE, or by the local release after DONE (DEDUCED, log 26). An INCOMING record is
freed NORMAL, also one answered from BLOCKED after DONE was sent (DEDUCED, log 86). -/
def State.releaseConnection (s : State) (x : Sub) (byNetwork : Bool) : State :=
  match s.connection x with
  | none => s
  | some c =>
    let s := s.endCalls x (fun r => decide (r.state ≠ .dialling ∧ r.state ≠ .blocked)) .normal
    let s := if byNetwork && (s.textOf x).readySent then s.clearMemoryFull x else s
    let failed := s.ctx.regFailed
    let s := s.dropConnection x
    if s.leaving x then ((s.disengage x).becomeDetached x).grantIfFree
    else
      match failed with
      | some why => s.engagedToNoService x why
      | none => s.confirmCamp x c

/-- R98, R115, R116: the connection is lost, or abandoned with its handover; calls end with a cause. -/
def State.loseConnection (s : State) (x : Sub) (c : CallCause) : State :=
  let s := s.endCalls x (fun _ => true) c
  let s := s.dropConnection x
  if s.leaving x then ((s.disengage x).becomeDetached x).grantIfFree else s.engagedToSearch x

/-- R98: link loss. -/
def State.linkLost (s : State) (x : Sub) : State := s.loseConnection x .linkLost

/-! ## The windows of a connection (R104) -/

/-- A DED window of a context inserted. -/
def State.insertDed (s : State) (c : Context) (p : WinPurpose) (start : Slot) : WinId × State :=
  s.insert { owner := .sub c.sub, reporter := .context, purpose := p, channel := c.cell.channel, start := start, len := 1,
             slack := none, block := none }

/-- The windows of the frame after the latest planned are inserted. -/
def State.planFrame (s : State) : State :=
  match s.ctx.active with
  | some c =>
    let base := s.ctx.nextFrame
    let (r, s) := s.insertDed c .dedRx (slotAdd base c.rx)
    let (t, s) := s.insertDed c .dedTx (slotAdd base c.tx)
    s.modCtx fun u =>
      { u with frames := u.frames ++ [{ start := base, rx := some r, tx := some t }], nextFrame := slotAdd base 10 }
  | none => s

/-- The calendar keeps the windows of the next two frames, outside a handover. -/
def State.topFrames (s : State) : State :=
  if s.inHandover then s
  else
    match s.ctx.frames with
    | [] => s.planFrame.planFrame
    | [_] => s.planFrame
    | _ => s

/-- A window of a frame has ended; a frame with none left leaves the list. -/
def endedIn (id : WinId) (fs : List DedFrame) : List DedFrame :=
  (fs.map fun f =>
    { f with rx := if f.rx = some id then none else f.rx, tx := if f.tx = some id then none else f.tx }).filter
    fun f => f.rx.isSome || f.tx.isSome

/-- The frame a DED window belongs to. -/
def State.frameOf (s : State) (id : WinId) : Option DedFrame :=
  s.ctx.frames.find? fun f => decide (f.rx = some id ∨ f.tx = some id)

/-- One window of a frame inserted again at a new slot, when it was withdrawn for the move. -/
def State.reinsert (s : State) (c : Context) (p : WinPurpose) (start : Slot) (moved : Bool) (old : Option WinId) :
    Option WinId × State :=
  if moved then
    let (id, s) := s.insertDed c p start
    (some id, s)
  else (old, s)

/-- R104, R11: a JOIN moves the slots from the frame after the one given; the windows planned for later frames are inserted
again (DEDUCED, log 48). -/
def State.moveSlots (s : State) (at_ : Slot) (rx tx : Nat) : State :=
  match s.ctx.active with
  | none => s
  | some c =>
    if c.rx = rx ∧ c.tx = tx then s
    else
      let c' := { c with rx := rx, tx := tx }
      let was := s
      let moves (f : DedFrame) (w : Option WinId) : Bool := isLater f.start at_ && (w.map was.isPlanned).getD false
      let s := s.modCtx fun u => { u with active := some c' }
      let s := s.ctx.frames.foldl
        (fun s f =>
          let s := if moves f f.rx then s.withdrawOpt f.rx else s
          if moves f f.tx then s.withdrawOpt f.tx else s) s
      let (s, fs) := s.ctx.frames.foldl
        (fun (p : State × List DedFrame) f =>
          let (r, s1) := p.1.reinsert c' .dedRx (slotAdd f.start rx) (moves f f.rx) f.rx
          let (t, s2) := s1.reinsert c' .dedTx (slotAdd f.start tx) (moves f f.tx) f.tx
          (s2, p.2 ++ [{ f with rx := r, tx := t }])) (s, [])
      s.modCtx fun u => { u with frames := fs }

/-- R11, R104, R128: the block a DED_TX window carries, set at its ordering point. A message stays in the queue until the window
that carries it ends (R12). -/
def State.setTxBlock (s : State) (w : WinId) : TxBlock × State :=
  match s.ctx.queue with
  | q :: _ =>
    let s := s.modCtx fun c => { c with carrying := c.carrying ++ [(w, q.id)] }
    (.sig q.msg, if s.voiceCall then s.modVoice Voice.discardUp else s)
  | [] =>
    if s.voiceCall then
      match s.voice.up with
      | b :: rest => (.voice b, s.modVoice fun v => { v with up := rest })
      | [] => (.idle, s)
    else (.idle, s)

/-! ## Beginning of exchanges (R36, R85, R95, R137, R148) -/

/-- DIAL is offered and the record enters OFFERING (R84, R85). -/
def State.offerDial (s : State) (i : CallId) : State :=
  (s.offer (.dial ((s.call i).number.getD []))).enterCall i .offering 0

/-- R87: RING is offered, the timer started anew, and TAKE offered behind it when the call is answered. -/
def State.ringNow (s : State) (i : CallId) : State :=
  let s := s.offer .ring
  let s := s.modCall i fun r => { r with ringWaits := false, timer := some (s.timerFor 60000) }
  if (s.call i).answered then (s.offer .take).enterCall i .answering 0 else s

/-- The exchanges of a connection's purposes begin. -/
def State.beginExchanges (s : State) (x : Sub) : State :=
  let s := match s.callOf x with
    | some i =>
      match (s.call i).state with
      | .requesting => s.offerDial i
      | .dialling => s.offerDial i
      | .incoming => if (s.call i).ringWaits then s.ringNow i else s
      | _ => s
    | none => s
  (((s.startSending x).textMayLeave x).offerStoreReady x).settleConn x

/-- R36, R104: an access attempt succeeded; the connection begins in the frame that starts at a slot. The incoming reason begins by
the purposes the attempt holds then (R143; DEDUCED, log 104). -/
def State.connectionBegins (s : State) (x : Sub) (a : Attempt) (g : Grant) (start : Slot) : State :=
  match (s.sub x).camped with
  | none => s
  | some c =>
    let s := s.withdrawAttempt x
    let s := s.modCtx fun u =>
      { CtxUnit.reset with
        active := some
          { sub := x, cell := c.cell, area := c.area, areaConfirmed := true, s0 := c.anchor.s0, f0 := some c.anchor.f0,
            rx := g.rx, tx := g.tx, purposes := a.purposes, counter := some c.params.tolerance, role := .active }
        nextMsg := u.nextMsg
        nextFrame := start }
    let s := s.setStage x .connected
    let s := s.topFrames.measDedicated x
    let s := if a.pageReply && a.purposes.contains .text then s.holdIncoming x else s
    if a.purposes.contains .register then
      let s := s.offerEnrol x
      match s.callOf x with
      | some i => if (s.call i).state = .requesting then s.enterCall i .dialling 0 else s
      | none => s
    else s.beginExchanges x

/-! ## Access attempts (R9, R36) -/

/-- R36, R95: an access attempt failed; every owner ends its purposes. An attempt that was to register posts STATE and CELL and no
REGISTRATION: no registration had begun (DEDUCED, log 84). -/
def State.accessFails (s : State) (x : Sub) (a : Attempt) : State :=
  let s := s.disengage x
  let s := if a.purposes.contains .call then
      s.freeCalls x (fun r => decide (r.state = .requesting ∨ (r.state = .incoming ∧ r.arrived = false))) .noAccess
    else s
  let s := if a.purposes.contains .text then s.textAccessFailed x else s
  if a.purposes.contains .leave then (s.becomeDetached x).grantIfFree
  else if a.purposes.contains .register then
    (s.modSub x fun r => { r with registration := some .noAccess }).engagedToNoService x .noAccess
  else
    let s := (s.backToCamped x).grantIfFree
    if s.hasReady x then s.raiseText x else s

/-- The attempt fails once its third burst has been placed and no watch is open (R9). -/
def State.attemptOn (s : State) (x : Sub) (a : Attempt) : State :=
  let s := s.setStage x (.attempt a)
  if a.tx = none ∧ a.watches = [] ∧ 3 ≤ a.placed then s.accessFails x a else s

/-- R9: the frames watched for a burst of frame f. -/
def watchFrames (f : FrameNo) : List FrameNo :=
  (([1, 2, 3, 4, 5].map fun k => f + BitVec.ofNat 16 k).filter fun g => decide (g.toNat % 64 ≠ 0)).take 4

/-- R9: the burst is ORDERED, so it will count as sent; its frames are watched (DEDUCED, log 13). A frame whose window for an earlier
burst was SKIPPED is given one anew (DEDUCED, log 93). -/
def State.watchBurst (s : State) (x : Sub) (id : WinId) : State :=
  match s.engaged, (s.sub x).camped with
  | some { sub := y, stage := .attempt a }, some c =>
    match a.tx with
    | some (v, f) =>
      if y = x ∧ v = id then
        let (s, ws) := (watchFrames f).foldl
          (fun (p : State × List (WinId × FrameNo)) g =>
            let (w, s) := p.1.insert
              { owner := .sub x, reporter := .subscription, purpose := .grantRx, channel := c.cell.channel,
                start := frameSlot c.anchor g 0 p.1.now, len := 2, slack := none, block := none }
            (s, if p.2.any fun q => decide (q.1 = w) then p.2 else p.2 ++ [(w, g)])) (s, a.watches)
        s.setStage x (.attempt { a with watches := ws })
      else s
    | none => s
  | _, _ => s

/-- R9: the next burst goes 1..4 frames after frame f, the spacing drawn at random. -/
def State.nextBurst (s : State) (x : Sub) (a : Attempt) (f : FrameNo) : State :=
  if 3 ≤ a.placed then s.attemptOn x { a with tx := none }
  else
    match (s.sub x).camped with
    | some c =>
      let (n, s) := s.draw
      let g := f + BitVec.ofNat 16 (1 + (Config.spacing n).val)
      s.insertBurst x { a with tx := none } g (frameSlot c.anchor g 8 s.now)
    | none => s

/-- R2: a decoded block refreshes the camped cell's anchor (DEDUCED, log 19). -/
def State.refreshAnchor (s : State) (x : Sub) (start : Slot) (f : FrameNo) : State :=
  s.modSub x fun r => { r with camped := r.camped.map fun c => { c with anchor := { s0 := start, f0 := f } } }

/-- R9: a window of an access attempt ended. -/
def State.attemptEnded (s : State) (x : Sub) (w : Window) (e : Ended) : State :=
  match s.engaged with
  | some { sub := y, stage := .attempt a } =>
    if y ≠ x then s
    else if (a.tx.map Prod.fst) = some w.id then s.nextBurst x a ((a.tx.map Prod.snd).getD 0)
    else if a.watches.any fun q => decide (q.1 = w.id) then
      let a' := { a with watches := a.watches.filter fun q => decide (q.1 ≠ w.id) }
      match e with
      | .done (.block b _) =>
        let s := s.refreshAnchor x w.start (blockFrame b)
        match b with
        | .control _ _ gs =>
          match grantFor a.reference gs with
          | some g => s.connectionBegins x a' g (slotAdd w.start 10)
          | none => s.attemptOn x a'
        | _ => s.attemptOn x a'
      | _ => s.attemptOn x a'
    else s
  | _ => s

/-! ## Registration (R39) -/

/-- R39: the registration ended with ENROL_OK. A registration that failed on the connection before keeps its say in R37 (DEDUCED,
log 103). -/
def State.registered (s : State) (x : Sub) (key : BitVec 16) : State :=
  match s.connection x with
  | none => s
  | some c =>
    let changed := decide ((s.sub x).key ≠ some key)
    let s := s.modSub x fun r =>
      { r with area := some c.area, key := some key, registration := some .ok, regGuard := none, areaChanged := false }
    let s := s.postSub x (SubFlag.registration ||| if changed then SubFlag.key else 0)
    (s.modPurposes x (without .register)).beginExchanges x

/-- The result of a refused or unanswered registration. -/
def NoServiceReason.result : NoServiceReason → RegResult
  | .rejected => .rejected
  | .notAllowed => .notAllowed
  | .noAccess => .noAccess
  | .noReply => .noReply
  | .noCell => .noReply

/-- R39, R95, R137: the registration was refused or not answered (DEDUCED, log 29). TEXT ends unless an entry has become SENDING on
the connection; when one has, TEXT stays as after the end of an entry: the next READY one becomes SENDING. -/
def State.regRefused (s : State) (x : Sub) (why : NoServiceReason) : State :=
  let s := s.modSub x fun r => { r with registration := some why.result, regGuard := none, areaChanged := false }
  let s := s.postSub x SubFlag.registration
  let s := (s.modCtx fun c => { c with regFailed := some why }).modPurposes x (without .register)
  let s := match s.callOf x with
    | some i =>
      let r := s.call i
      if r.state = CallState.dialling ∨ (r.state = CallState.incoming ∧ r.arrived = false) then
        (s.freeCall i .rejected).modPurposes x (without .call)
      else if r.state = CallState.incoming ∧ r.ringWaits = true then (s.offer (.drop .byHost)).clearCall i .rejected
      else s
    | none => s
  let s := (s.removeMsgs UpMsg.isStoreReady).modPurposes x (without .storeReady)
  let s :=
    if s.ctx.textBegun then s.afterSending x
    else (s.modText x fun t => { t with incoming := false, idle := .stopped }).modPurposes x (without .text)
  s.settleConn x

/-! ## Messages sent (R12) -/

/-- What a message's counting as sent brings about. When STORE_READY counts as sent, TEXT joins the connection (DEDUCED, log 99). -/
def State.sentHook (s : State) (x : Sub) (m : UpMsg) : State :=
  match m with
  | .enrol _ _ =>
    if s.registering x then s.modSub x fun r => { r with regGuard := some (s.timerFor 20000) } else s
  | .textPart ref k _ _ _ =>
    s.modOut (fun e => decide (e.sub = x ∧ e.state = .sending ∧ e.reference.toNat = ref ∧ e.part = some k)) fun e =>
      { e with wait := .running (s.timerFor partWaitSlots) }
  | .storeReady =>
    let s := s.modPurposes x (without .storeReady)
    ((s.modText x fun t => { t with readySent := true }).beginIncoming x).settleConn x
  | .leave => s.leaveConn x .leave
  | .done => s.modCtx fun c => { c with doneSent := true, release := .running (s.timerFor 4000) }
  | _ => s

/-- R12: a DED_TX window carries its message no longer. -/
def State.uncarry (s : State) (w : WinId) : State :=
  s.modCtx fun c => { c with carrying := c.carrying.filter fun p => decide (p.1 ≠ w) }

/-- R12: the message a DED_TX window carried leaves the queue; one that another window's end has taken off already is passed
over. -/
def State.messageSent (s : State) (x : Sub) (w : WinId) : State :=
  let sent := s.ctx.queue.find? fun q => s.ctx.carrying.any fun p => decide (p = (w, q.id))
  let s := s.uncarry w
  match sent with
  | none => s
  | some q =>
    (s.modCtx fun c => CtxUnit.fillRoom { c with queue := c.queue.filter fun r => decide (r.id ≠ q.id) }).sentHook x q.msg

/-- R12, R128: a DED_TX window ended. -/
def State.dedTxEnded (s : State) (x : Sub) (w : Window) (e : Ended) : State :=
  if (s.frameOf w.id).isNone then s
  else
    let s := s.modCtx fun c => { c with frames := endedIn w.id c.frames }
    let s := match e, w.block with
      | .done _, some (.sig _) => s.messageSent x w.id
      | .failed, some (.sig _) => s.uncarry w.id
      | .skipped _ _, _ => if s.voiceCall then s.modVoice Voice.discardUp else s
      | _, _ => s
    if (s.connection x).isSome then s.topFrames else s

/-! ## Calls on the connection (R86 to R100) -/

/-- The cause the host sees for the network's DROP. -/
def dropCause : DropCause → CallCause
  | .normal => .normal
  | .busyFar => .busyFar
  | .noAnswer => .noAnswer
  | .rejected => .rejected

/-- R92: a local clear of a call with a cause. -/
def State.localClear (s : State) (i : CallId) (c : CallCause) : State :=
  let r := s.call i
  match r.state with
  | .free => s
  | .clearing => s
  | .blocked => s.freeAndLeave i c
  | .dialling => s.freeAndLeave i c
  | .requesting => s.freeAndLeave i c
  | .incoming => if r.arrived then (s.offer (.drop .byHost)).clearCall i c else s.freeAndLeave i c
  | .offering =>
    if s.unsent UpMsg.isDial then (s.removeMsgs UpMsg.isDial).freeAndLeave i c
    else (s.offer (.drop .byHost)).clearCall i c
  | .ringingOut => (s.offer (.drop .byHost)).clearCall i c
  | .answering => (s.offer (.drop .byHost)).clearCall i c
  | .connected => (s.offer (.drop .byHost)).clearCall i c

/-- Every call of a subscription is locally cleared. -/
def State.clearAll (s : State) (x : Sub) (c : CallCause) : State :=
  callIds.foldl (fun s i => if (s.call i).sub = some x then s.localClear i c else s) s

/-- R94: the call's connection is in a handover. -/
def State.callInHandover (s : State) (i : CallId) : Bool :=
  s.inHandover && match (s.call i).sub with
    | some x => (s.connection x).isSome && decide ((s.call i).state ≠ .blocked)
    | none => false

/-- R86, R87, R89, R91, R93, R94: a call timer expired (DEDUCED, log 33). -/
def State.callTimerExpired (s : State) (i : CallId) : State :=
  let s := s.modCall i fun r => { r with timer := none }
  let r := s.call i
  let moving := s.callInHandover i
  match r.state with
  | .offering => if moving then s.freeAndLeave i .moveLost else (s.offer (.drop .noAnswer)).clearCall i .noAnswer
  | .ringingOut => if moving then s.freeAndLeave i .moveLost else (s.offer (.drop .noAnswer)).clearCall i .noAnswer
  | .answering => if moving then s.freeAndLeave i .moveLost else (s.offer (.drop .normal)).clearCall i .noAnswer
  | .incoming =>
    if r.arrived then
      if moving then s.freeAndLeave i .moveLost
      else (s.offer (.drop .noAnswer)).clearCall i (if r.answered then .noAnswer else .notAnswered)
    else s.freeAndLeave i (if r.answered then .noAnswer else .notAnswered)
  | .blocked => s.freeAndLeave i .notAnswered
  | .clearing => s.freeAndLeave i (r.cause.getD .noAnswer)
  | .free => s
  | .dialling => s
  | .requesting => s
  | .connected => s

/-- R86, R90, R93: a JOIN reaches the call of the connection. In a state whose table does not name it, it moves the offsets only
(DEDUCED, log 72). -/
def State.joined (s : State) (x : Sub) : State :=
  match s.callOf x with
  | some i =>
    let st := (s.call i).state
    if st = .offering ∨ st = .ringingOut ∨ st = .answering then
      (s.enterCall i .connected 0).modVoice Voice.start
    else s
  | none => s

/-- R86, R87, R89, R90, R93, R100: a DROP of the network (DEDUCED, log 32). -/
def State.dropped (s : State) (x : Sub) (c : DropCause) : State :=
  let s := s.offer .dropOk
  match s.callOf x with
  | some i =>
    let r := s.call i
    match r.state with
    | .clearing => s.freeAndLeave i (r.cause.getD (dropCause c))
    | .dialling => s
    | _ => s.freeAndLeave i (dropCause c)
  | none => s

/-- R87, R93, R100: an ARRIVE. In a state whose table does not name it, it is passed over (DEDUCED, log 72). -/
def State.arrived (s : State) (x : Sub) (caller : Option Digits) : State :=
  match s.callOf x with
  | some i =>
    let r := s.call i
    if r.state = .incoming ∧ r.arrived = false then
      let waits := s.registering x
      let s := s.modCall i fun r => { r with number := caller, arrived := true, ringWaits := waits }
      let s := s.postCall i CallFlag.caller
      if waits then s else s.ringNow i
    else s
  | none => s.offer (.drop .byHost)

/-- R86, R93: a PROGRESS. In a state whose table does not name it, it is passed over (DEDUCED, log 72). -/
def State.progressed (s : State) (x : Sub) : State :=
  match s.callOf x with
  | some i => if (s.call i).state = .offering then s.enterCall i .ringingOut CallFlag.progressed else s
  | none => s

/-- R93: a DROP_OK. In a state whose table does not name it, it is passed over (DEDUCED, log 72). -/
def State.dropConfirmed (s : State) (x : Sub) : State :=
  match s.callOf x with
  | some i =>
    let r := s.call i
    if r.state = .clearing then s.freeAndLeave i (r.cause.getD .normal) else s
  | none => s

/-! ## Texts on the connection (R139) -/

/-- The cause of a text the network refused. -/
def refuseCause : RefuseCause → TextCause
  | .rejected => .rejected
  | .noRoute => .noRoute
  | .memoryFull => .memoryFull
  | .badPart => .badPart

/-- R139: a TEXT_ACK. -/
def State.textAcked (s : State) (x : Sub) (ref index : Nat) : State :=
  match s.sendingEntry x with
  | some e =>
    if e.reference.toNat = ref ∧ e.part = some index then
      let s := s.removeMsgs fun m => match m with
        | .textPart r k _ _ _ => decide (r = ref ∧ k = index)
        | _ => false
      if e.count = some index then (s.endEntry x e.reference .sent).afterSending x
      else
        let e' := { e with part := some (index + 1), sends := 1, wait := .stopped }
        (s.modOut (fun f => f.is x e.reference) fun _ => e').offerPart e'
    else s
  | none => s

/-- R139: a TEXT_REFUSE. -/
def State.textRefused (s : State) (x : Sub) (ref : Nat) (c : RefuseCause) : State :=
  match s.sendingEntry x with
  | some e =>
    if e.reference.toNat = ref then
      ((s.removeMsgs (UpMsg.isPartOf ref)).endEntry x e.reference (.failed (refuseCause c))).afterSending x
    else s
  | none => s

/-- R139: the part wait of the subscription's SENDING entry expired. -/
def State.partWaitExpired (s : State) (x : Sub) : State :=
  match s.sendingEntry x with
  | some e =>
    if e.sends < 3 then
      let e' := { e with sends := e.sends + 1, wait := .stopped }
      (s.modOut (fun f => f.is x e.reference) fun _ => e').offerPart e'
    else (s.endEntry x e.reference (.failed .noAck)).afterSending x
  | none => s

end Sys2Proof.Machine
end

