-- ==== Sys2Proof/Machine/Handover.lean ====
section
/-! DEFINITION. Handover: the MOVE and the context exchange, the connection-following accesses MOVE_IN and RETURN, the area read,
success, return and abandonment (R10, R106 to R118). -/

namespace Sys2Proof.Machine

open Sys2Proof

/-- The access of a handover in flight. -/
def Handover.access : Handover → Option Access
  | .none => Option.none
  | .moving a => some a
  | .returning a => some a

/-- The handover with its access replaced. -/
def Handover.withAccess : Handover → Access → Handover
  | .none, _ => .none
  | .moving _, a => .moving a
  | .returning _, a => .returning a

/-- The burst purpose of the access (R7). -/
def Handover.burst : Handover → AccessPurpose
  | .returning _ => .returning
  | _ => .moveIn

/-! ## The connection-following access (R10, R110) -/

/-- The access's list of open frames changed. -/
def State.modAccess (s : State) (f : Access → Access) : State :=
  match s.ctx.handover.access with
  | some a => s.modCtx fun u => { u with handover := u.handover.withAccess (f a) }
  | none => s

/-- A window of the access inserted, when the access has one there. -/
def State.insertAccess (s : State) (c : Context) (wanted : Bool) (p : WinPurpose) (start : Slot) (b : Option TxBlock) :
    Option WinId × State :=
  if wanted then
    let (id, s) := s.insert
      { owner := .sub c.sub, reporter := .context, purpose := p, channel := c.cell.channel, start := start, len := 1,
        slack := none, block := b }
    (some id, s)
  else (none, s)

/-- R110: the windows of access frame n are inserted: GRANT_RX from frame 2 to D + 1, ACCESS_TX from frame 1 to D. -/
def State.planAccess (s : State) (n : Nat) : State :=
  match s.ctx.active, s.ctx.handover.access with
  | some c, some a =>
    if a.deadline + 1 < n then s
    else
      let base := slotAdd a.base (10 * (n - 1))
      let (r, s) := s.insertAccess c (decide (2 ≤ n)) .grantRx (slotAdd base c.rx) none
      let (t, s) := s.insertAccess c (decide (n ≤ a.deadline)) .accessTx (slotAdd base c.tx)
        (some (.burst s.ctx.handover.burst a.reference))
      s.modAccess fun a => { a with frames := a.frames ++ [{ number := n, tx := t, rx := r }] }
  | _, _ => s

/-- R110: an access begins with the windows of frames 1 and 2. -/
def State.beginAccess (s : State) : State := (s.planAccess 1).planAccess 2

/-- The access windows are withdrawn (R111, R114, R115). -/
def State.withdrawAccess (s : State) (x : Sub) : State :=
  s.withdrawAll fun w => w.ofContext x && decide (w.purpose = .accessTx ∨ w.purpose = .grantRx)

/-! ## The area read (R113) -/

/-- R113: an area read is planned at a slot. -/
def State.insertAreaRead (s : State) (c : Context) (start : Slot) : State :=
  let (id, s) := s.insert
    { owner := .sub c.sub, reporter := .context, purpose := .beaconRx, channel := c.cell.channel, start := start, len := 2,
      slack := none, block := none }
  s.modCtx fun u => { u with areaRead := some id }

/-- R113: the area read is planned while the ACTIVE record's area is not confirmed. -/
def State.planAreaRead (s : State) : State :=
  match s.ctx.active with
  | some c =>
    match c.f0 with
    | some f => if c.areaConfirmed then s else s.insertAreaRead c (nextCycle { s0 := c.s0, f0 := f } s.now).2
    | none => s
  | none => s

/-- R113: the area read is planned again in frame 0 of the cycle after the one it stood in, by the ACTIVE record's anchor. -/
def State.readAreaAgain (s : State) (start : Slot) : State :=
  match s.ctx.active with
  | some c =>
    match c.f0 with
    | some f => s.insertAreaRead c (cycleAfter { s0 := c.s0, f0 := f } s.now start).2
    | none => s
  | none => s

/-- R104, R2: a decoded block refreshes the ACTIVE context's anchor; its frame began at a slot. -/
def State.setAnchor (s : State) (start : Slot) (f : FrameNo) : State :=
  s.modCtx fun u => { u with active := u.active.map fun (c : Context) => { c with s0 := start, f0 := some f } }

/-- R113: the area read ended. A decoded block that is no BEACON is no read, and replaces the anchor (R2; DEDUCED, log 69). -/
def State.areaReadEnded (s : State) (x : Sub) (w : Window) (e : Ended) : State :=
  if s.ctx.areaRead ≠ some w.id then s
  else
    match s.ctx.active with
    | none => s
    | some c =>
      match e with
      | .done (.block (.beacon b) _) =>
        if b.code = c.cell.code then
          let s := s.modCtx fun u =>
            { u with
              areaRead := none
              active := some { c with area := b.area, areaConfirmed := true, s0 := w.start, f0 := some b.frame } }
          let s := s.modSub x fun r => { r with areaChanged := r.areaChanged || r.outside b.area }
          match (s.sub x).camped with
          | some k =>
            if k.area = b.area then s
            else (s.modSub x fun r => { r with camped := some { k with area := b.area } }).postSub x SubFlag.cell
          | none => s
        else s.readAreaAgain w.start
      | .done (.block b _) => (s.setAnchor w.start (blockFrame b)).readAreaAgain w.start
      | _ => s.readAreaAgain w.start

/-! ## The exchange (R106 to R108) -/

/-- R106: every value of a MOVE lies in its range. -/
def moveInRange (channel code rx tx offset deadline : Nat) : Bool :=
  decide (channel ≤ 2047 ∧ code ≤ 4095 ∧ offset ≤ 9 ∧ 1 ≤ deadline ∧ deadline ≤ 64) && offsetsInRange rx tx

/-- R108: the timers of texts are held for the handover (R139, R143). -/
def State.holdText (s : State) (x : Sub) : State :=
  (s.modOut (fun e => decide (e.sub = x)) fun e => { e with wait := e.wait.hold s.now }).modText x fun t =>
    { t with idle := t.idle.hold s.now }

/-- The timers of texts run on. -/
def State.resumeText (s : State) (x : Sub) : State :=
  (s.modOut (fun e => decide (e.sub = x)) fun e => { e with wait := e.wait.resume s.now }).modText x fun t =>
    { t with idle := t.idle.resume s.now }

/-- R108 step 5: the moving flag is set on the CONNECTED call, without a change flag. -/
def State.setMoving (s : State) (x : Sub) : State :=
  callIds.foldl (fun s i =>
    if (s.call i).sub = some x ∧ (s.call i).state = .connected then
      (s.modCall i fun r => { r with moving := true }).postCall i 0
    else s) s

/-- R111, R115: the moving flags are cleared, with a change flag. -/
def State.clearMoving (s : State) (x : Sub) (flag : BitVec 16) : State :=
  callIds.foldl (fun s i =>
    if (s.call i).sub = some x ∧ (s.call i).moving = true then
      (s.modCall i fun r => { r with moving := false }).postCall i flag
    else s) s

/-- R107, R108: a MOVE in range begins the handover. A message that an ORDERED window of the old context carries counts as unsent
from then on (R105; DEDUCED, log 88). -/
def State.beginMove (s : State) (x : Sub) (c : Context) (cell : CellId) (rx tx offset deadline : Nat) : State :=
  let base := (nextFrame { s0 := c.s0, f0 := 0 } s.now 1 offset 1 0).2
  let target : Context :=
    { sub := c.sub, cell := cell, area := c.area, areaConfirmed := false, s0 := base, f0 := none, rx := rx, tx := tx,
      purposes := c.purposes, counter := none, role := .active }
  let (n, s) := s.draw
  let a : Access := { reference := Config.reference n, deadline := deadline, base := base, frames := [] }
  -- step 1
  let s := s.withdrawAll fun w => w.ofContext x
  let s := s.modCtx fun u =>
    { u with
      active := some target
      spare := some { c with role := .fallback }
      handover := .moving a
      frames := []
      carrying := []
      areaRead := none
      -- step 3
      release := u.release.hold s.now }
  -- step 2
  let s := s.setMode x .paused
  -- steps 4 and 5
  let s := if s.voiceCall then s.modVoice Voice.enterHold else s
  let s := s.setMoving x
  -- steps 6 and 7
  (s.holdText x).beginAccess

/-- R106: a MOVE on the connection. -/
def State.moveOrdered (s : State) (x : Sub) (channel code rx tx offset deadline : Nat) : State :=
  match s.connection x with
  | none => s
  | some c =>
    if moveInRange channel code rx tx offset deadline then
      s.beginMove x c { channel := channel, code := code } rx tx offset deadline
    else s.placeHead (.moveFail true)

/-! ## The end of a handover (R111, R114, R115) -/

/-- What success and return have in common: voice, timers and measurement go on. -/
def State.endHandover (s : State) (x : Sub) (flag : BitVec 16) : State :=
  let s := s.measDedicated x
  let s := if s.voiceCall then s.modVoice Voice.resume else s
  let s := s.clearMoving x flag
  let s := s.modCtx fun u => { u with release := u.release.resume s.now }
  s.resumeText x

/-- R111: the MOVE_IN access succeeded; the connection's windows start in the frame at a slot. -/
def State.moveSucceeded (s : State) (x : Sub) (start : Slot) : State :=
  let s := s.withdrawAccess x
  let limit := s.tolerance x
  let s := s.modCtx fun u =>
    { u with
      active := u.active.map fun c => { c with counter := some limit }
      spare := none
      handover := .none
      frames := []
      nextFrame := start }
  let s := (s.placeHead .moveDone).topFrames
  match s.ctx.active with
  | none => s
  | some c =>
    let s := (s.moveServing x c.cell).planAreaRead
    let s := s.endHandover x CallFlag.moved
    let s := s.modSub x fun r =>
      { r with
        camped := r.camped.map fun k => { k with cell := c.cell, anchor := { s0 := c.s0, f0 := c.f0.getD k.anchor.f0 } } }
    s.postSub x SubFlag.cell

/-- R114: the MOVE_IN deadline passed; the records are exchanged back and the RETURN access begins. The record made ACTIVE again has
the purposes of the connection as they stand, those that joined or left during MOVING counted (DEDUCED, log 74). -/
def State.moveTimedOut (s : State) (x : Sub) : State :=
  match s.ctx.spare, s.ctx.active with
  | some old, some target =>
    let s := s.withdrawAccess x
    let (n, s) := s.draw
    let a : Access :=
      { reference := Config.reference n, deadline := 16,
        base := (nextFrame { s0 := old.s0, f0 := 0 } s.now 1 0 1 0).2, frames := [] }
    (s.modCtx fun u =>
      { u with
        active := some { old with role := .active, purposes := target.purposes }
        spare := none
        handover := .returning a }).beginAccess
  | _, _ => s

/-- R115: the RETURN access succeeded (DEDUCED, log 30). -/
def State.returned (s : State) (x : Sub) (start : Slot) : State :=
  let s := s.withdrawAccess x
  let s := s.modCtx fun u => { u with handover := .none, frames := [], nextFrame := start }
  let s := (s.placeHead (.moveFail false)).topFrames.planAreaRead
  s.endHandover x CallFlag.moveFailed

/-- R2, R107, R110: a block decoded in the rx slot of an access frame gives the ACTIVE record's anchor, in place of the one it has
when it may replace it. -/
def State.learnFrame (s : State) (start : Slot) (f : FrameNo) (replaces : Bool) : State :=
  s.modCtx fun u =>
    { u with
      active := u.active.map fun c =>
        if replaces ∨ c.f0 = none then { c with s0 := start - BitVec.ofNat 32 c.rx, f0 := some f } else c }

/-- R110: a grant list that a MOVE_IN access reads and that holds no valid entry with its reference gives the frame number of a cell
still unknown, and nothing more; every other decoded block replaces the anchor (R2; DEDUCED, log 19). -/
def State.replacesAnchor (s : State) (b : Block) (g : Option Grant) : Bool :=
  match s.ctx.handover, b with
  | .moving _, .grant _ _ => g.isSome
  | _, _ => true

/-- R110: a window of an access frame has ended. -/
def AccessFrame.without (f : AccessFrame) (id : WinId) : AccessFrame :=
  { f with tx := if f.tx = some id then none else f.tx, rx := if f.rx = some id then none else f.rx }

/-- R110, R114, R115: a window of the access ended without a GRANT for it (DEDUCED, log 31). -/
def State.accessGoesOn (s : State) (x : Sub) (a : Access) (f : AccessFrame) (w : Window) : State :=
  let f' := f.without w.id
  let ended := decide (f'.tx = none ∧ f'.rx = none)
  let s := s.modAccess fun a =>
    { a with
      frames := (a.frames.map fun g => if g.number = f.number then f' else g).filter fun g =>
        decide (g.tx ≠ none ∨ g.rx ≠ none) }
  if f.rx = some w.id ∧ f.number = a.deadline + 1 then
    match s.ctx.handover with
    | .moving _ => s.moveTimedOut x
    | _ => s.linkLost x
  else if ended then s.planAccess (f.number + 2)
  else s

/-- R10, R110: a window of a connection-following access ended. -/
def State.accessEnded (s : State) (x : Sub) (w : Window) (e : Ended) : State :=
  match s.ctx.handover.access with
  | none => s
  | some a =>
    match a.frames.find? fun f => decide (f.tx = some w.id ∨ f.rx = some w.id) with
    | none => s
    | some f =>
      match e with
      | .done (.block b _) =>
        let g := match b with
          | .grant _ gs => grantFor a.reference gs
          | _ => none
        let s := s.learnFrame w.start (blockFrame b) (s.replacesAnchor b g)
        match g with
        | some _ =>
          let start := slotAdd a.base (10 * f.number)
          match s.ctx.handover with
          | .moving _ => s.moveSucceeded x start
          | _ => s.returned x start
        | none => s.accessGoesOn x a f w
      | _ => s.accessGoesOn x a f w

/-- R116: a CALL_END abandons the handover. -/
def State.abandonHandover (s : State) (x : Sub) (i : CallId) : State :=
  let r := s.call i
  let s := s.freeCall i (if r.state = .clearing then r.cause.getD .byHost else .byHost)
  let s := s.freeCalls x (fun _ => true) .byHost
  s.loseConnection x .byHost

/-! ## Messages received (R12) -/

/-- R12: a downlink message goes to the block that owns its kind. One with a field out of range is passed over. The slot is the
start of the frame that carried it. -/
def State.received (s : State) (x : Sub) (frame : Slot) (m : DownMsg) : State :=
  if !downInRange m then s
  else
    match m with
    | .arrive caller => s.arrived x caller
    | .progress => s.progressed x
    | .join rx tx => (s.moveSlots frame rx tx).joined x
    | .drop c => s.dropped x c
    | .dropOk => s.dropConfirmed x
    | .enrolOk key => if s.registering x then s.registered x key else s
    | .enrolNo c =>
      if s.registering x then
        s.regRefused x (match c with
          | .rejected => .rejected
          | .notAllowed => .notAllowed)
      else s
    | .textPart ref index count sender body => s.textPartReceived x ref index count sender body
    | .textAck ref index => s.textAcked x ref index
    | .textRefuse ref c => s.textRefused x ref c
    | .move channel code rx tx offset deadline => s.moveOrdered x channel code rx tx offset deadline
    | .release => (s.releaseConnection x true)

/-- R97: the radio link counter after a DED_RX outcome. -/
def linkCounter (n limit : Nat) : Ended → Nat
  | .done (.block _ _) => min (n + 2) limit
  | .done _ => n - 1
  | .failed => n - 1
  | .skipped _ _ => n

/-- The level a window's outcome carries. -/
def Ended.level : Ended → Option Nat
  | .done (.block _ l) => some l
  | .done (.bad l) => some l
  | .done (.timing _ _ l) => some l
  | .done (.sample l) => some l
  | .done .sent => none
  | .failed => none
  | .skipped _ _ => none

/-- R104, R97, R121, R70: a DED_RX window of the connection ended (DEDUCED, log 49). The voice path and the link counter come first;
a counter that reaches 0 ends the connection before the level is handed on (log 49). An area read that waited for the frame
number is planned when a block brings it (R113). -/
def State.dedRxEnded (s : State) (x : Sub) (w : Window) (e : Ended) : State :=
  match s.frameOf w.id, s.connection x with
  | some f, some c =>
    let s := s.modCtx fun u => { u with frames := endedIn w.id u.frames }
    let s := s.modVoice fun v => v.add (entryFor e)
    let n := linkCounter (c.counter.getD 0) (s.tolerance x) e
    let s := s.modCtx fun u => { u with active := u.active.map fun c => { c with counter := some n } }
    if n = 0 then s.linkLost x
    else
      let s := s.measDedEnded x e.level
      let s := match e with
        | .done (.block b _) =>
          let s := s.setAnchor f.start (blockFrame b)
          let s := if c.f0.isNone then s.planAreaRead else s
          match b with
          | .sig _ (some m) => s.received x f.start m
          | _ => s
        | _ => s
      if (s.connection x).isSome then s.topFrames else s
  | _, _ => s

end Sys2Proof.Machine
end

