-- ==== Sys2Proof/Machine/Outcomes.lean ====
section
/-! DEFINITION. What the subscription controller does with the windows that end for it, the hand-over of every window's outcome
to its reporting block, and the settling of the blocks' reports to one another (R24, R25, R28 to R33, R37, R38, R51, R54). -/

namespace Sys2Proof.Machine

open Sys2Proof

/-! ## Search (R24, R25) -/

/-- R24: a SEARCH window of a SEARCHING subscription ended. -/
def State.searchEnded (s : State) (x : Sub) (w : Window) (e : Ended) : State :=
  match (s.sub x).state, (s.sub x).search with
  | .searching, .sampling waiting scan =>
    match waiting.find? fun p => decide (p.1 = w.id) with
    | none => s
    | some (_, channel) =>
      let scan := match e with
        | .done (.sample l) => scan ++ [(channel, l)]
        | _ => scan
      let waiting := waiting.filter fun p => decide (p.1 ≠ w.id)
      if waiting = [] then s.scanEnd x scan
      else s.modSub x fun r => { r with search := .sampling waiting scan }
  | _, _ => s

/-- R25: a candidate's refresh is planned in a frame 0 at a slot. -/
def State.planCandidate (s : State) (x : Sub) (c : CampedCell) (ns : List Neighbour) (f : FrameNo) (start : Slot) : State :=
  let (id, s) := s.insertBeacon x c.cell.channel start 2
  s.modSub x fun r => { r with search := .candidate c ns f id }

/-- R25: an accepted, unbarred BEACON ends the search. -/
def State.candidateFound (s : State) (x : Sub) (c : CampedCell) (ns : List Neighbour) : State :=
  if (s.sub x).outside c.area then
    let f := c.lastBeacon + refreshStep
    ((s.planCandidate x c ns f (frameSlot c.anchor f 0 s.now)).ask x [.register] false).2
  else s.camp x c ns

/-- R25: an acquisition of the beacon phase ended (DEDUCED, log 24). -/
def State.acquisitionEnded (s : State) (x : Sub) (scan : List (Nat × Nat)) (position : Nat) (again : Bool) (w : Window)
    (e : Ended) : State :=
  match e with
  | .done (.timing o f _) =>
    let a : Anchor := { s0 := slotAdd w.start o, f0 := f }
    let (g, start) := nextFrame a s.now 0 0 64 0
    let (id, s) := s.insertBeacon x w.channel start 2
    s.modSub x fun r => { r with search := .reading scan position a g id false }
  | .skipped _ _ =>
    if again then s.tryChannel x scan (position + 1)
    else
      let (id, s) := s.insertBeacon x w.channel (slotAdd w.start 10) 10
      s.modSub x fun r => { r with search := .acquiring scan position id true }
  | _ => s.tryChannel x scan (position + 1)

/-- R25: a beacon read of the beacon phase ended. A decoded block that is no BEACON is taken as BLOCK_BAD (log 69). -/
def State.scanReadEnded (s : State) (x : Sub) (scan : List (Nat × Nat)) (position : Nat) (a : Anchor) (f : FrameNo) (again : Bool)
    (w : Window) (e : Ended) : State :=
  match e with
  | .done (.block (.beacon b) _) =>
    if b.barred then s.tryChannel x scan (position + 1)
    else
      let c := beaconCell b w.channel w.start
      s.candidateFound x c (cleanNeighbours c.cell b.neighbours)
  | .skipped _ _ =>
    if again then s.tryChannel x scan (position + 1)
    else
      let (id, s) := s.insertBeacon x w.channel (slotAdd w.start 640) 2
      s.modSub x fun r => { r with search := .reading scan position a (f + 64) id true }
  | _ => s.tryChannel x scan (position + 1)

/-- R25: a candidate's refresh ended. A BEACON of another cell is treated as BLOCK_BAD (log 14), and so is a decoded block that is no
BEACON (DEDUCED, log 69). The next refresh stands 8 cycles after the BEACON last accepted, also after a SKIPPED one (DEDUCED,
log 95). -/
def State.candidateRead (s : State) (x : Sub) (c : CampedCell) (ns : List Neighbour) (f : FrameNo) (w : Window) (e : Ended) :
    State :=
  let lost := (s.dropRequest x).beginSearch x
  match e with
  | .done (.block (.beacon b) _) =>
    if b.code = c.cell.code ∧ b.barred = false then
      let k := beaconCell b w.channel w.start
      let g := b.frame + refreshStep
      s.planCandidate x { k with area := c.area } ns g (frameSlot k.anchor g 0 s.now)
    else lost
  | .skipped _ _ => s.planCandidate x c ns (f + 64) (slotAdd w.start 640)
  | _ => lost

/-! ## Serving BEACONs and the confirming read (R28, R37) -/

/-- R28: occasions recomputed when L changed: a PLANNED PAGE window off the occasions is withdrawn and the next planned. One whose
frame is still an occasion stays, also when an earlier frame has become one (DEDUCED, log 102). -/
def State.relisten (s : State) (x : Sub) : State :=
  match (s.sub x).camped, (s.sub x).page with
  | some c, some (id, f) =>
    if s.isPlanned id ∧ isOccasion c ((s.sub x).key.getD 0) f = false then (s.withdraw id).planPage x else s
  | _, _ => s

/-- R28: the refresh that stands is planned again in its frame, with or without a window of its own as that frame is an
occasion under the new L or not. -/
def State.recover (s : State) (x : Sub) : State :=
  match (s.sub x).camped, (s.sub x).refresh with
  | some c, some r =>
    if isOccasion c ((s.sub x).key.getD 0) r.frame = r.window.isNone then s
    else (s.withdrawOpt r.window).planRefresh x r.frame
  | _, _ => s

/-- R28: an accepted serving BEACON of the camped cell, by its content (DEDUCED, log 22). Nothing follows a list whose application has
lost the camp (log 94). -/
def State.servingBeacon (s : State) (x : Sub) (b : Beacon) (w : Window) : State :=
  if b.barred then s.campLoss x
  else
    match (s.sub x).camped with
    | none => s
    | some c =>
      let k := beaconCell b w.channel w.start
      let s := s.modSub x fun r => { r with camped := some k, refresh := none }
      let s := s.applyList x k.cell (cleanNeighbours k.cell b.neighbours)
      if (s.sub x).camped.isNone then s else
      let s := (s.relisten x).planRefresh x (b.frame + refreshStep)
      if c.area = b.area then s
      else ((s.postSub x SubFlag.cell).ask x [.register] false).2

/-- R2, R28: a decoded block that is no BEACON, read where the serving BEACON was due: it replaces the camped cell's anchor, and the
refresh is planned again in frame 0 of the next cycle by that anchor (DEDUCED, log 69). -/
def State.notBeacon (s : State) (x : Sub) (start : Slot) (b : Block) : State :=
  let s := s.refreshAnchor x start (blockFrame b)
  match (s.sub x).camped with
  | some c => s.planRefresh x (nextCycle c.anchor s.now).1
  | none => s

/-- R28: a serving BEACON window ended. -/
def State.refreshEnded (s : State) (x : Sub) (f : FrameNo) (w : Window) (e : Ended) : State :=
  match e, (s.sub x).camped with
  | .done (.block (.beacon b) _), some c =>
    if b.code = c.cell.code then s.servingBeacon x b w else s.planRefresh x (f + 64)
  | .done (.block b _), _ => s.notBeacon x w.start b
  | _, _ => s.planRefresh x (f + 64)

/-- R37: the confirming read ended. A BEACON of another cell is treated as BLOCK_BAD (log 14), and so is a decoded block that is no
BEACON (DEDUCED, log 69). -/
def State.confirmEnded (s : State) (x : Sub) (f : FrameNo) (w : Window) (e : Ended) : State :=
  match e with
  | .done (.block (.beacon b) _) =>
    if ((s.sub x).camped.map fun c => c.cell.code) = some b.code ∧ b.barred = false then
      let c := beaconCell b w.channel w.start
      ((s.disengage x).camp x c (cleanNeighbours c.cell b.neighbours)).grantIfFree
    else s.engagedToSearch x
  | .skipped _ _ => s.planConfirm x (f + 64) (slotAdd w.start 640)
  | _ => s.engagedToSearch x

/-- A BEACON_RX window of the subscription controller ended; what it was for is told by its identity. -/
def State.beaconEnded (s : State) (x : Sub) (w : Window) (e : Ended) : State :=
  let r := s.sub x
  match r.state with
  | .searching =>
    match r.search with
    | .acquiring scan p id again => if id = w.id then s.acquisitionEnded x scan p again w e else s
    | .reading scan p a f id again => if id = w.id then s.scanReadEnded x scan p a f again w e else s
    | .candidate c ns f id => if id = w.id then s.candidateRead x c ns f w e else s
    | _ => s
  | .camped =>
    match r.refresh with
    | some q => if q.window = some w.id then s.refreshEnded x q.frame w e else s
    | none => s
  | .engaged =>
    match s.engaged with
    | some { sub := y, stage := .confirming id f } => if y = x ∧ id = w.id then s.confirmEnded x f w e else s
    | _ => s
  | _ => s

/-! ## Paging (R29 to R33, R38) -/

/-- R38: a TEXT page passed over while the other subscription is engaged. -/
def State.setTextWaiting (s : State) (x : Sub) : State :=
  if (s.sub x).textWaiting then s
  else (s.modSub x fun r => { r with textWaiting := true }).postSub x SubFlag.textWaiting

/-- The other subscription is ENGAGED. -/
def State.otherEngaged (s : State) (x : Sub) : Bool :=
  match s.engaged with
  | some e => decide (e.sub = x.other)
  | none => false

/-- R33: the record a CALL page takes; none when no record is available or the subscription has a BLOCKED one. -/
def State.pageRecord (s : State) (x : Sub) : Option CallId := if (s.blockedOf x).isSome then none else s.freeRecord

/-- R33, R38: the pages for the subscription's key. -/
def State.examinePages (s : State) (x : Sub) (pages : List PageEntry) : State :=
  let mine := pages.filter fun p => decide (some p.key = (s.sub x).key)
  let wants (p : PagePurpose) : Bool := mine.any fun q => decide (q.purpose = p)
  if s.leaving x then s
  else if s.otherEngaged x then
    let s := if wants .call then
        match s.pageRecord x with
        | some i => s.takeRecord i x .incoming none .blocked
        | none => s
      else s
    if wants .text then s.setTextWaiting x else s
  else
    let taken := if wants .call then s.pageRecord x else none
    let s := match taken with
      | some i => s.takeRecord i x .incoming none .incoming
      | none => s
    let ps := (if taken.isSome then [Purpose.call] else []) ++ if wants .text then [Purpose.text] else []
    if ps = [] then s else (s.ask x ps true).2

/-- R30: the paging counters after the end of a PAGE window. -/
def SubRec.pageCounted (r : SubRec) : Ended → SubRec
  | .done (.block _ _) => { r with misses := 0, downlink := min (r.downlink + 1) 10 }
  | .skipped _ _ => { r with misses := min (r.misses + 1) 255 }
  | _ => { r with misses := 0, downlink := r.downlink - 2 }

/-- R28: a BEACON that a PAGE window read and whose cell code is not the camped cell's is taken as BLOCK_BAD (log 14). -/
def pageContent (code : Nat) : Ended → Ended
  | .done (.block (.beacon b) l) => if b.code = code then .done (.block (.beacon b) l) else .done (.bad l)
  | e => e

/-- R28: what the block a PAGE window read does to the camped cell and to the refresh whose frame it was (DEDUCED, log 20). -/
def State.pageBlock (s : State) (x : Sub) (f : FrameNo) (w : Window) (e : Ended) : State :=
  let serves := decide ((s.sub x).refresh = some { frame := f, window := none })
  match e with
  | .done (.block (.beacon b) _) =>
    if serves then s.servingBeacon x b w
    else
      let s := s.modSub x fun r =>
        { r with
          camped := r.camped.map fun c =>
            { c with anchor := { s0 := w.start, f0 := b.frame }, params := beaconParams b, lastBeacon := b.frame } }
      (s.paramsChanged x).recover x
  | .done (.block b _) => if serves then s.notBeacon x w.start b else s.refreshAnchor x w.start (blockFrame b)
  | _ => if serves then s.planRefresh x (f + 64) else s

/-- The page list a block carries (R4). -/
def pagesOf : Ended → List PageEntry
  | .done (.block (.beacon b) _) => b.pages
  | .done (.block (.control _ ps _) _) => ps
  | _ => []

/-- R28 to R33, R68: a PAGE window ended: the counters, the block's effects, the successor, the measurement round, and last the
page list (DEDUCED, log 23). -/
def State.pageEnded (s : State) (x : Sub) (w : Window) (outcome : Ended) : State :=
  match (s.sub x).state, (s.sub x).page, (s.sub x).camped with
  | .camped, some (id, f), some c =>
    if id ≠ w.id then s
    else
      let e := pageContent c.cell.code outcome
      let s := (s.modSub x fun r => { r.pageCounted e with page := none })
      if (s.sub x).downlink ≤ 0 then s.campLoss x
      else
        let s := s.pageBlock x f w e
        let s := if (s.sub x).state = SubState.camped then s.planPageAfter x f else s
        let s := if (s.sub x).state = SubState.camped then s.measPageEnded x w.start e.level else s
        if (s.sub x).state = SubState.camped ∨ (s.sub x).state = SubState.engaged then s.examinePages x (pagesOf e) else s
  | _, _, _ => s

/-! ## Outcomes (R51, R54) -/

/-- An outcome handed to the subscription controller. -/
def State.toSubscription (s : State) (x : Sub) (w : Window) (e : Ended) : State :=
  match w.purpose with
  | .pageRx => s.pageEnded x w e
  | .beaconRx => s.beaconEnded x w e
  | .search => s.searchEnded x w e
  | .accessTx => s.attemptEnded x w e
  | .grantRx => s.attemptEnded x w e
  | _ => s

/-- An outcome handed to the dedicated context unit. -/
def State.toContext (s : State) (x : Sub) (w : Window) (e : Ended) : State :=
  match w.purpose with
  | .dedRx => s.dedRxEnded x w e
  | .dedTx => s.dedTxEnded x w e
  | .accessTx => s.accessEnded x w e
  | .grantRx => s.accessEnded x w e
  | .beaconRx => s.areaReadEnded x w e
  | _ => s

/-- An outcome handed to the window's reporting block. -/
def State.handOver (s : State) (w : Window) (e : Ended) : State :=
  match w.reporter, w.owner with
  | .subscription, .sub x => s.toSubscription x w e
  | .context, .sub x => s.toContext x w e
  | .measurement, .sub x => if w.purpose = .meas then s.measWindowEnded w e else s.reselEnded x w e
  | .measurement, .part => s.measWindowEnded w e
  | _, .part => s

/-- One report taken. A change of the store has SPACE and reclaim examined and the next step planned; a rise of the usable slots is
reported behind it (R161, R156; DEDUCED, log 108). -/
def State.takeReport (s : State) : Report → State
  | .skipped w c k => s.handOver w (.skipped c k)
  | .rounds x => s.checkRounds x
  | .storeChanged => s.examineSpace.examineReclaim.planReclaim
  | .usableRose => s.usableRose

/-- The reports taken one after another, until none is left. -/
def State.drain : Nat → State → State
  | 0, s => s
  | n + 1, s =>
    match s.reports with
    | [] => s
    | r :: rest => State.drain n ({ s with reports := rest }.takeReport r)

/-- How many reports one command takes at most; one left over is taken by the next command (log 7). -/
def settleBound : Nat := 4096

/-- The outcome of a command whose own action has led to a state: the reports it raised are taken (R51). -/
def settle (s : State) : Host.Outcome State Fault Refusal := .next (s.drain settleBound)

end Sys2Proof.Machine
end

