-- ==== Sys2Proof/Machine/Link.lean ====
section
/-! DEFINITION. The command link controller: octets into frames, frames into requests, the dispatch of requests, and the
transmitter (R177 to R187). -/

namespace Sys2Proof.Machine

open Sys2Proof

/-! ## The receiver (R178, R179) -/

/-- The sync octet (R177). -/
def syncOctet : Byte := 0xC3

/-- Places of the request inbox (R179). -/
def inboxRoom : Nat := 4

/-- A position of the reply queue is free (R180). -/
def State.replyRoom (s : State) : Bool := decide (s.link.used < replyPositions)

/-- The receiver in a state. -/
def State.receiver (s : State) (r : Receiver) : State := s.modLink fun l => { l with receiver := r }

/-- R179: an immediate reply, or a loss when no position is free. -/
def State.immediate (s : State) (tag code : Byte) (st : Status) : State :=
  if s.replyRoom then s.fill tag code st .none else s.linkLoss .overrun

/-- R179: a complete frame is checked for form and admitted, answered at once, or dropped. -/
def State.arrival (s : State) (tag cls code : Byte) (fields : List Byte) : State :=
  match if cls = 0x01 then parseRequest code fields else none with
  | none => s.immediate tag code .malformed
  | some r =>
    if s.link.inbox.length < inboxRoom then
      s.modLink fun l => { l with inbox := l.inbox ++ [{ tag := tag, request := r }] }
    else s.immediate tag code .busy

/-- The octets stored after the sync, the length octet first, as a frame. -/
def State.frameArrived (s : State) : List Byte → State
  | _ :: cls :: tag :: code :: fields => s.arrival tag cls code fields
  | _ => s

/-- What a stored octet makes of the frame being received (R178). -/
inductive Stored where
  | more
  | complete
  | tooShort
  | tooLong
  deriving DecidableEq, Repr

/-- R178: the octets stored so far, the length octet first, judged after the latest of them. -/
def judge : List Byte → Stored
  | [] => .more
  | [n] => if n.toNat < 3 then .tooShort else .more
  | n :: rest =>
    if n = 255 then if 254 ≤ rest.length then .tooLong else .more
    else if rest.length = n.toNat then .complete
    else .more

/-- R178: the receiver takes a good octet. -/
def State.octet (s : State) (o : Byte) : State :=
  match s.link.receiver with
  | .hunting => if o = syncOctet then s.receiver (.inFrame []) else s
  | .awaiting => if o = syncOctet then s.receiver (.inFrame []) else s.receiver .hunting
  | .inFrame os =>
    match judge (os ++ [o]) with
    | .more => s.receiver (.inFrame (os ++ [o]))
    | .complete => (s.receiver .hunting).frameArrived (os ++ [o])
    | .tooShort => (s.receiver .hunting).linkLoss .length
    | .tooLong => (s.receiver .hunting).linkLoss .length

/-- What an octet would make of the frame being received. -/
def State.judged (s : State) (o : Byte) : Stored :=
  match s.link.receiver with
  | .inFrame os => judge (os ++ [o])
  | _ => .more

/-- GOOD_OCTET (R178). -/
def execGoodOctet (o : Byte) (s : State) : Host.Outcome State Fault Refusal :=
  if s.awake then settle (s.octet o) else .next s

/-- LENGTH_DISCARD (R178): the octet that makes the receiver discard its frame. -/
def execLengthDiscard (o : Byte) (s : State) : Host.Outcome State Fault Refusal :=
  if s.awake ∧ (s.judged o = .tooShort ∨ s.judged o = .tooLong) then settle (s.octet o) else .next s

/-- REQUEST_ARRIVAL (R179): the octet that completes a frame. -/
def execRequestArrival (o : Byte) (s : State) : Host.Outcome State Fault Refusal :=
  if s.awake ∧ s.judged o = .complete then settle (s.octet o) else .next s

/-- R178: a partial frame is lost for a reason, and the receiver enters a state. -/
def State.lose (s : State) (why : LinkReason) (after : Receiver) : State :=
  match s.link.receiver with
  | .inFrame _ => (s.receiver after).linkLoss why
  | _ => s.receiver after

/-- CHARACTER_ERROR (R178). -/
def execCharacterError (s : State) : Host.Outcome State Fault Refusal :=
  if s.awake then settle (s.lose .badChar .hunting) else .next s

/-- RECEIVE_GAP_TIMEOUT (R178). -/
def execReceiveGapTimeout (s : State) : Host.Outcome State Fault Refusal :=
  if s.awake then settle (s.lose .gap .hunting) else .next s

/-- BREAK (R178, R170 to R172): in RUN a partial frame is cut; in DOZE and DORMANT the part wakes. DORMANT pending is cleared. -/
def execBreak (s : State) : Host.Outcome State Fault Refusal :=
  if s.power.held = true ∨ s.power.wait = .stopping then .next s
  else
    settle ((s.modPower fun p => { p with state := .run, wake := none, pending := false }).lose .cut .awaiting)

/-! ## Dispatch (R180) -/

/-- A request can be dispatched: a position is free and no RESET waits (R180, R174). -/
def State.mayDispatch (s : State) : Bool := s.awake && decide (s.power.wait = .none) && s.replyRoom

/-- The model's name for the position reserved next: one that no reserved position has (DESIGN CHOICE, log 62). -/
def Link.ticket (l : Link) : Nat := l.reserved.foldr (fun r n => max (r.ticket + 1) n) 0

/-- The oldest request leaves the inbox, with a position reserved for it. -/
def State.reserveHead (s : State) (tag code : Byte) : State :=
  s.modLink fun l =>
    { l with
      inbox := l.inbox.drop 1
      reserved := l.reserved ++ [{ ticket := l.ticket, tag := tag, code := code }] }

/-- R180: a request of an owner is dispatched in the phase OPERATING; the owner is given its ticket. A command that is not the
dispatch of the oldest request does nothing (log 16). -/
def dispatched (s : State) (tag : Byte) (r : Request) (owner : Nat → State → State) : Host.Outcome State Fault Refusal :=
  if s.mayDispatch ∧ s.power.operating = true ∧ s.link.inbox.head? = some { tag := tag, request := r } then
    settle (owner s.link.ticket (s.reserveHead tag (requestCode r)))
  else .next s

/-- IDENTIFY (R184): answered in any phase. -/
def execIdentify (tag : Byte) (s : State) : Host.Outcome State Fault Refusal :=
  if s.mayDispatch ∧ s.link.inbox.head? = some { tag := tag, request := .identify } then
    settle ((s.reserveHead tag 0x01).answer s.link.ticket .done
      (.identity (BitVec.ofNat 8 (Config.revision.val + 1)) s.power.operating s.power.kind))
  else .next s

/-- IDENTIFY is the one request answered in the phase STARTING. -/
def Request.isIdentify : Request → Bool
  | .identify => true
  | _ => false

/-- STARTING_REPLY (R175): the oldest request of the inbox, dispatched while starting. -/
def execStartingReply (s : State) : Host.Outcome State Fault Refusal :=
  match s.link.inbox with
  | q :: _ =>
    if s.mayDispatch ∧ s.power.operating = false ∧ Request.isIdentify q.request = false then
      settle ((s.reserveHead q.tag (requestCode q.request)).refuse s.link.ticket .starting)
    else .next s
  | [] => .next s

/-- RESET (R174): answered DONE; no further request is dispatched, and DORMANT pending is cleared (R171). -/
def execReset (tag : Byte) (s : State) : Host.Outcome State Fault Refusal :=
  dispatched s tag .reset fun t s =>
    (s.modPower fun p => { p with pending := false, wait := .replying }).refuse t .done

/-! ## The transmitter (R182, R183) -/

/-- CLRDY_ASSERTED (R182, R170). -/
def execClrdyAsserted (s : State) : Host.Outcome State Fault Refusal :=
  let t := s.modLink fun l => { l with clrdy := true }
  if s.power.state = .doze ∧ s.power.held = false ∧ s.link.outbox ≠ [] then
    settle (t.modPower fun p => { p with state := .run, wake := none })
  else settle t

/-- CLRDY_DEASSERTED (R182). -/
def execClrdyDeasserted (s : State) : Host.Outcome State Fault Refusal :=
  settle (s.modLink fun l => { l with clrdy := false })

/-- What a notice's being sent brings about (R80, R140, R149, R186). With no message written since, the number of the latest is
absent (DEDUCED, log 82). -/
def State.noticeSent (s : State) : Snapshot → State
  | .text x _ _ _ _ _ _ _ _ _ _ _ =>
    (s.modText x fun t => { t with outcomes := [], received := 0, latest := none, incomplete := 0 }).flushOutcomes x
  | .link _ _ _ _ _ => s.modLink fun l => { l with counts := { gap := 0, cut := 0, badChar := 0, length := 0, overrun := 0 } }
  | .meas x _ level cands => s.modMeas x fun m => { m with reference := some (level, cands.head?.map Prod.fst) }
  | .ready _ _ _ _ _ _ => s
  | .radio _ _ _ => s
  | .call _ _ _ _ _ _ _ _ => s
  | .sub _ _ _ _ _ _ _ _ _ _ => s
  | .store _ _ _ _ _ _ _ _ _ => s

/-- The frame going out set. -/
def State.send (s : State) (octets : List Byte) (reply : Bool) : State :=
  s.modLink fun l => { l with sending := some { octets := octets, reply := reply } }

/-- The transmitter may start a frame: it is idle, CLRDY is asserted, and the part is in RUN. -/
def State.maySend (s : State) : Bool := s.awake && s.link.clrdy && s.link.sending.isNone

/-- R182, R176: what goes next. Before READY no notice is sent (DEDUCED, log 10). -/
inductive NextFrame where
  | reply (r : Reply)
  | notice (n : Notice)
  | nothing
  deriving DecidableEq, Repr

/-- R182: the choice of the next frame. The oldest filled reply is also the one whose segments are going out. -/
def State.nextFrameChoice (s : State) : NextFrame :=
  match s.link.filled with
  | r :: _ => .reply r
  | [] =>
    if s.power.operating then
      match firstNotice s.link.outbox with
      | some n => .notice n
      | none => .nothing
    else .nothing

/-- FRAME_TRANSMIT_START (R182, R183). -/
def execFrameTransmitStart (s : State) : Host.Outcome State Fault Refusal :=
  if s.maySend then
    match s.nextFrameChoice with
    | .reply r => settle (s.send (r.segmentFrame r.sent) true)
    | .notice n =>
      settle (((s.send (noticeFrame n s.now) false).modLink fun l =>
        { l with outbox := l.outbox.filter fun m => decide (m.snapshot.key ≠ n.snapshot.key) }).noticeSent n.snapshot)
    | .nothing => .next s
  else .next s

/-- The reply of a RESET request that was taken. -/
def Reply.isReset (r : Reply) : Bool := decide (r.code = 0x02 ∧ r.status = .done)

/-- R174, R59, R155: the reset begins: the radio stops, every block but the store stops, and of the store's queue only the mark
that follows a running reclaim copy is kept. -/
def State.beginReset (s : State) : State :=
  let s := s.modCal fun c => { c with windows := [], outstanding := [] }
  let s := (s.modVoice Voice.stop).modPower fun p => { p with wait := .stopping }
  let s := s.modStore fun st =>
    { st with
      reclaim := none
      queue := match st.running with
        | some { op := .relocCopy _ src _ _, .. } => st.queue.filter fun o => decide (o = .mark src .relocation)
        | _ => [] }
  s.syncErase

/-- R180: a segment of the oldest filled reply has been sent. -/
def State.replySent (s : State) : State :=
  match s.link.filled with
  | [] => s
  | r :: rest =>
    if r.sent + 1 < r.segments.length then s.modLink fun l => { l with filled := { r with sent := r.sent + 1 } :: rest }
    else
      let s := s.modLink fun l => { l with filled := rest }
      if r.isReset = true ∧ s.power.wait = .replying then s.beginReset else s

/-- FRAME_TRANSMIT_END (R180, R174). -/
def execFrameTransmitEnd (s : State) : Host.Outcome State Fault Refusal :=
  match s.link.sending with
  | some f =>
    if s.awake then
      let s := s.modLink fun l => { l with sending := none }
      settle (if f.reply then s.replySent else s)
    else .next s
  | none => .next s

end Sys2Proof.Machine
end

