-- ==== Sys2Proof/Machine/CallRequests.lean ====
section
/-! DEFINITION. The requests of the call controller and the expiry of call timers (R83, R84, R86 to R89, R91 to R94, R101). -/

namespace Sys2Proof.Machine

open Sys2Proof

/-! ## CALL_DIAL (R83, R84) -/

/-- R83: the other record allows a dial. -/
def State.dialAllowed (s : State) (i : CallId) : Bool :=
  decide ((s.call i.other).state = .free ∨ (s.call i.other).state = .blocked)

/-- R83: the subscription allows a dial. -/
def State.mayDial (s : State) (x : Sub) : Bool :=
  decide ((s.sub x).state = .camped ∨ (s.sub x).state = .engaged) && !s.leaving x

/-- R84, last part, R117: in a handover of the subscription's connection a dial takes the OFFERING row, whatever else the connection
waits for: CALL joins the connection and DIAL is offered. -/
def State.dialMoving (s : State) (i : CallId) (x : Sub) : State :=
  ((s.modPurposes x (addOnce .call)).removeMsgs UpMsg.isDone).offerDial i

/-- R84: an accepted dial takes the record and proceeds by the subscription's situation. -/
def State.dial (s : State) (i : CallId) (x : Sub) (number : Digits) : State :=
  let s := s.takeRecord i x .out (some number) .dialling
  if s.inHandover && (s.connection x).isSome then s.dialMoving i x
  else
    let (asked, s) := s.ask x [.call] false
    match asked with
    | .attempt => s.enterCall i .requesting 0
    | .connection => if s.registering x then s else s.offerDial i
    | .queued => s
    | .later => s
    | .refused => s

/-- CALL_DIAL (R83). -/
def execCallDial (tag sub : Byte) (number : Digits) (s : State) : Host.Outcome State Fault Refusal :=
  dispatched s tag (.callDial sub number) fun t s =>
    match subOf sub with
    | some x =>
      if digitsInRange number then
        if s.mayDial x then
          match s.freeRecord with
          | some i =>
            if s.dialAllowed i then (s.answer t .done (.callId i)).dial i x number else s.refuse t .busy
          | none => s.refuse t .noRoom
        else s.refuse t .wrongState
      else s.refuse t .badValue
    | none => s.refuse t .badValue

/-! ## CALL_ANSWER (R88) -/

/-- R88: an INCOMING call is answered. While RING waits for a registration, TAKE follows it later (R95). -/
def State.answerIncoming (s : State) (i : CallId) : State :=
  let r := s.call i
  if r.answered then s
  else
    let s := (s.modCall i fun r => { r with answered := true }).renewCall i
    if r.arrived = true ∧ r.ringWaits = false then (s.offer .take).enterCall i .answering 0 else s

/-- R88, R38: a BLOCKED call is answered: the other subscription's calls are cleared, and a page reply is asked. When the request is
refused (R34: the subscription is SEARCHING or has no service) the record stays INCOMING until its timer expires (DEDUCED,
log 70). After DONE was sent on the subscription's own connection the CALL is not kept for a later engagement: the record is
INCOMING at the connection's end (DEDUCED, log 86). -/
def State.answerBlocked (s : State) (i : CallId) (x : Sub) : State :=
  let s := s.clearAll x.other .byHost
  let s := (s.modCall i fun r => { r with answered := true }).enterCall i .incoming 0
  (s.ask x [.call] true).2

/-- R88: CALL_ANSWER by the record's state. -/
def State.answerCall (s : State) (i : CallId) (t : Nat) : State :=
  let r := s.call i
  let x := r.sub.getD .A
  match r.state with
  | .free => s.refuse t .unknownItem
  | .incoming => (s.answerIncoming i).refuse t .done
  | .blocked =>
    if (s.call i.other).state ≠ .free ∧ (s.call i.other).sub = some x then s.refuse t .busy
    else (s.answerBlocked i x).refuse t .done
  | .dialling => s.refuse t .wrongState
  | .requesting => s.refuse t .wrongState
  | .offering => s.refuse t .wrongState
  | .ringingOut => s.refuse t .wrongState
  | .answering => s.refuse t .wrongState
  | .connected => s.refuse t .wrongState
  | .clearing => s.refuse t .wrongState

/-- CALL_ANSWER (R88). -/
def execCallAnswer (tag id : Byte) (s : State) : Host.Outcome State Fault Refusal :=
  dispatched s tag (.callAnswer id) fun t s =>
    match callIdOf id with
    | some i => s.answerCall i t
    | none => s.refuse t .badValue

/-! ## CALL_END (R92, R116) -/

/-- R92: the call is locally cleared; in a handover of its connection the handover is abandoned (R116). -/
def State.endCall (s : State) (i : CallId) : State :=
  if s.callInHandover i then s.abandonHandover ((s.call i).sub.getD .A) i else s.localClear i .byHost

/-- CALL_END (R92). -/
def execCallEnd (tag id : Byte) (s : State) : Host.Outcome State Fault Refusal :=
  dispatched s tag (.callEnd id) fun t s =>
    match callIdOf id with
    | some i => if (s.call i).state = .free then s.refuse t .unknownItem else (s.refuse t .done).endCall i
    | none => s.refuse t .badValue

/-! ## CALL_QUERY (R101) -/

/-- The radio link counter of the connection; in a handover the record that keeps it shows it (DEDUCED, log 68). -/
def State.linkCount (s : State) : Nat :=
  match s.ctx.active.bind Context.counter with
  | some n => n
  | none => (s.ctx.spare.bind Context.counter).getD 0

/-- R101: the connection details of a call of a running connection. -/
def State.connView (s : State) (i : CallId) : Option ConnView :=
  match (s.call i).sub with
  | some x =>
    if s.callOf x = some i then
      (s.connection x).map fun c =>
        { cell := c.cell, rx := c.rx, tx := c.tx, counter := s.linkCount, tolerance := s.tolerance x }
    else none
  | none => none

/-- R101: a call record as the query shows it. -/
def State.callView (s : State) (i : CallId) : CallView :=
  { id := i, record := s.call i, left := (s.call i).timer.map (slotsLeft s.now), connection := s.connView i }

/-- CALL_QUERY (R101). -/
def execCallQuery (tag : Byte) (id : Option Byte) (s : State) : Host.Outcome State Fault Refusal :=
  dispatched s tag (.callQuery id) fun t s =>
    match id with
    | none => s.answer t .done (.calls [s.callView .one, s.callView .two])
    | some b =>
      match callIdOf b with
      | some i => s.answer t .done (.calls [s.callView i])
      | none => s.refuse t .badValue

/-- CALL_TIMER_EXPIRY (R86, R87, R89, R91, R93, R94). -/
def execCallTimerExpiry (i : CallId) (s : State) : Host.Outcome State Fault Refusal :=
  if s.awake ∧ expired s.now (s.call i).timer = true then settle (s.callTimerExpired i) else .next s

end Sys2Proof.Machine
end

