-- ==== Sys2Proof/Machine/Power.lean ====
section
/-! DEFINITION. The power controller: resets and start-up, POWER_SET, DOZE and DORMANT (R167 to R176). -/

namespace Sys2Proof.Machine

open Sys2Proof

/-! ## Resets (R173, R174) -/

/-- Every block at its reset values, with a memory, a kind and the part held in reset or not. What is no state of the part
stays: the queue of commands, the draws and the level of CLRDY. -/
def State.resetTo (s : State) (f : Flash) (k : ResetKind) (held : Bool) : State :=
  { State.reset with
    pending := s.pending
    draws := s.draws
    store := .beforeScan f
    power := { Power.reset k with held := held }
    link := .reset s.link.clrdy }

/-- R173, R164: a reset by power-on or by RESETN cuts the running store operation; what it leaves is a free value (log 3). -/
def State.hardReset (s : State) (k : ResetKind) : State :=
  let (n, s) := s.draw
  s.resetTo (s.store.cutFlash (Config.leftover n).val) k true

/-- R175, R163: start-up begins: the counter starts from 0 and the scan rebuilds the index and queues the repairs
(DESIGN CHOICE, log 52). -/
def State.startUp (s : State) : State :=
  { s with now := 0, store := .scan s.store.flash, power := { s.power with held := false } }

/-- POWER_ON (R173). -/
def execPowerOn (s : State) : Host.Outcome State Fault Refusal := .next (s.hardReset .powerOn)

/-- RESETN_ASSERTED (R173). -/
def execResetnAsserted (s : State) : Host.Outcome State Fault Refusal := .next (s.hardReset .line)

/-- RESETN_RELEASED (R175) (DESIGN CHOICE, log 61). -/
def execResetnReleased (s : State) : Host.Outcome State Fault Refusal :=
  if s.power.held then settle s.startUp else .next s

/-- R174: the store has ended its running operation and holds nothing more to do. -/
def State.resetReady (s : State) : Bool :=
  decide (s.power.wait = .stopping ∧ s.power.held = false) && s.store.running.isNone && s.store.queue.isEmpty

/-- REQUESTED_RESET (R174): the part resets as for RESETN, nothing being cut, and start-up follows at once. -/
def execRequestedReset (s : State) : Host.Outcome State Fault Refusal :=
  if s.resetReady then settle (s.resetTo s.store.flash .request false).startUp else .next s

/-- R175: the scan and its last repair operation have ended. -/
def State.startUpOver (s : State) : Bool :=
  s.awake && decide (s.power.operating = false) && s.store.running.isNone && s.store.queue.isEmpty

/-- R176: the READY snapshot. -/
def State.readySnapshot (s : State) : Snapshot :=
  .ready s.power.kind (s.store.count .free) (s.store.count .reserved) (s.store.count .live) (s.store.count .deleted)
    (s.store.count .retired)

/-- STARTUP_END (R175, R176): the phase becomes OPERATING, READY is posted, and reclaim is examined. SPACE is judged from the usable
count of this moment on (R166; DESIGN CHOICE, log 107). -/
def execStartupEnd (s : State) : Host.Outcome State Fault Refusal :=
  if s.startUpOver then
    let s := (s.modPower fun p => { p with operating := true }).post s.readySnapshot 0
    settle (s.storeNow fun st => { st with roomy := decide (2 ≤ st.usableCount) })
  else .next s

/-! ## POWER_SET (R167, R171) -/

/-- The result of POWER_SET. -/
def State.powerResult (s : State) : Result := .power s.power.state s.power.doze s.power.pending

/-- A POWER_SET is answered DONE. -/
def State.powerDone (s : State) (t : Nat) : State := s.answer t .done s.powerResult

/-- POWER_SET, target DOZE_ON (R167). -/
def execPowerSetDozeOn (tag : Byte) (s : State) : Host.Outcome State Fault Refusal :=
  dispatched s tag (.powerSet (some 0)) fun t s => (s.modPower fun p => { p with doze := true }).powerDone t

/-- POWER_SET, target DOZE_OFF (R167). -/
def execPowerSetDozeOff (tag : Byte) (s : State) : Host.Outcome State Fault Refusal :=
  dispatched s tag (.powerSet (some 1)) fun t s => (s.modPower fun p => { p with doze := false }).powerDone t

/-- A record is EMPTY or DETACHED (R171). -/
def SubRec.unused (r : SubRec) : Bool := decide (r.state = .empty ∨ r.state = .detached)

/-- R171: both records are EMPTY or DETACHED and the store is idle. -/
def State.mayRest (s : State) : Bool := s.subs.a.unused && s.subs.b.unused && s.store.idle

/-- POWER_SET, target DORMANT (R171). -/
def execPowerSetDormant (tag : Byte) (s : State) : Host.Outcome State Fault Refusal :=
  dispatched s tag (.powerSet (some 2)) fun t s =>
    if s.power.pending ∨ s.mayRest then (s.modPower fun p => { p with pending := true }).powerDone t
    else s.refuse t .wrongState

/-- A target octet that names a target (R167). -/
def namesTarget (b : Byte) : Bool := decide (b.toNat ≤ 2)

/-- POWER_SET that changes nothing: without a target it is a query, with a target octet that names none it is answered
BAD_VALUE (R167). -/
def execPowerSetQuery (tag : Byte) (target : Option Byte) (s : State) : Host.Outcome State Fault Refusal :=
  match target with
  | none => dispatched s tag (.powerSet none) fun t s => s.powerDone t
  | some b => if namesTarget b then .next s else dispatched s tag (.powerSet (some b)) fun t s => s.refuse t .badValue

/-! ## DOZE (R168 to R170) -/

/-- The expiry of a running timer. -/
def Timer.expiry : Timer → Option Slot
  | .running e => some e
  | _ => none

/-- The expiries of the running timers of every block (R168). -/
def State.expiries (s : State) : List Slot :=
  ([s.subs.a.retry, s.subs.b.retry, s.subs.a.regGuard, s.subs.b.regGuard, s.calls.one.timer, s.calls.two.timer,
      s.ctx.release.expiry, s.text.subs.a.idle.expiry, s.text.subs.b.idle.expiry] ++
    s.text.outbox.map OutEntry.assembly ++ s.text.outbox.map (fun e => e.wait.expiry) ++
    s.text.table.map Reassembly.age).filterMap id

/-- Of some slot values the earliest, one already reached counting as now. -/
def earliest (now : Slot) : List Slot → Option Slot
  | [] => none
  | t :: rest =>
    match earliest now rest with
    | some u => if slotsLeft now u < slotsLeft now t then some u else some t
    | none => some t

/-- R168: the wake time fixed at entry: the earlier of the earliest PLANNED start less 4 slots and the earliest expiry. -/
def State.wakeTime (s : State) : Option Slot :=
  earliest s.now (((s.earliestPlanned.map fun t => t - 4#32).toList) ++ s.expiries)

/-- R168: the eight conditions of DOZE. -/
def State.mayDoze (s : State) : Bool :=
  s.awake && decide (s.power.operating = true ∧ s.power.pending = false ∧ s.power.doze = true) &&
    !s.anyOrdered &&
    (match s.earliestPlanned with
      | none => true
      | some t => liesAhead s.now t 40) &&
    s.store.idle &&
    decide (s.link.receiver = .hunting ∧ s.link.inbox = [] ∧ s.link.reserved = [] ∧ s.link.filled = []) &&
    s.link.sending.isNone && (s.link.outbox.isEmpty || !s.link.clrdy) &&
    !s.voice.running

/-- DOZE_ENTRY (R168). -/
def execDozeEntry (s : State) : Host.Outcome State Fault Refusal :=
  if s.mayDoze then settle (s.modPower fun p => { p with state := .doze, wake := s.wakeTime }) else .next s

/-- R170: the counter has reached the wake time. -/
def State.wakeDue (s : State) : Bool := decide (s.power.state = .doze ∧ s.power.held = false) && expired s.now s.power.wake

/-- WAKE_TIME_REACHED (R170). -/
def execWakeTimeReached (s : State) : Host.Outcome State Fault Refusal :=
  if s.wakeDue then settle (s.modPower fun p => { p with state := .run, wake := none }) else .next s

/-! ## DORMANT (R172) -/

/-- R172: DORMANT is pending, the link is quiet and no window is ORDERED. -/
def State.restDue (s : State) : Bool :=
  s.awake && s.power.pending &&
    decide (s.link.inbox = [] ∧ s.link.reserved = [] ∧ s.link.filled = [] ∧ s.link.receiver = .hunting) &&
    s.link.sending.isNone && !s.anyOrdered

/-- DORMANT_ENTRY (R172): the conditions of R171 are tested again; DORMANT pending is clear in either case. -/
def execDormantEntry (s : State) : Host.Outcome State Fault Refusal :=
  if s.restDue then
    settle (s.modPower fun p => { p with state := if s.mayRest then .dormant else p.state, pending := false })
  else .next s

end Sys2Proof.Machine
end

