-- ==== Sys2Proof/Machine/Radio.lean ====
section
/-! DEFINITION. The radio calendar's own events: a window becomes ORDERED, a result of the front end arrives, a result limit is
reached (R17 to R19, R53, R54). -/

namespace Sys2Proof.Machine

open Sys2Proof

/-- R104: the block set at a window's ordering point: a DED_TX window of the connection is given one there. -/
def State.blockFor (s : State) (w : Window) : Option TxBlock × State :=
  if w.reporter = .context ∧ w.purpose = .dedTx then
    let (b, s) := s.setTxBlock w.id
    (some b, s)
  else (w.block, s)

/-- R53, R17, R58: a window becomes ORDERED; a burst of an access attempt has its frames watched (R9, log 13). -/
def State.order (s : State) (w : Window) : State :=
  let (b, s) := s.blockFor w
  let s := s.orderWindow w b
  let s := match w.reporter, w.owner, w.purpose with
    | .subscription, .sub x, .accessTx => s.watchBurst x w.id
    | _, _, _ => s
  s.syncErase

/-- WINDOW_ORDERED (R53): the first window in calendar order whose ordering point is reached. -/
def execWindowOrdered (s : State) : Host.Outcome State Fault Refusal :=
  if s.awake then
    match s.dueWindow with
    | some w => settle (s.order w)
    | none => .next s
  else .next s

/-- The outstanding order a result answers (R18). -/
def State.answered (s : State) (order : Byte) (r : FrontEndResult) : Option Outstanding :=
  s.cal.outstanding.find? fun o => decide (o.number = order) && expects o.order r

/-- An ORDERED window of the calendar. -/
def State.orderedWindow (s : State) (id : WinId) : Option Window :=
  s.cal.windows.find? fun w => decide (w.id = id) && w.isOrdered

/-- R54: a window leaves the calendar and its outcome goes to its reporting block, unless it was withdrawn (DEDUCED,
log 66). -/
def State.endWindow (s : State) (w : Window) (st : WinState) (e : Ended) : State :=
  let s := s.removeWindow w.id
  if w.withdrawn then s else s.handOver { w with state := st } e

/-- FRONT_END_RESULT (R18, R54). -/
def execFrontEndResult (order : Byte) (result : FrontEndResult) (s : State) : Host.Outcome State Fault Refusal :=
  if s.awake then
    match (s.answered order result).bind fun o => s.orderedWindow o.window with
    | some w => settle (s.radioDone.endWindow w .done (.done (accept result)))
    | none => .next s
  else .next s

/-- RESULT_LIMIT (R18, R54): a window whose limit is reached ends FAILED. -/
def execResultLimit (window : WinId) (s : State) : Host.Outcome State Fault Refusal :=
  match s.orderedWindow window with
  | some w =>
    if s.awake ∧ reached s.now w.limit = true then settle (s.radioFailed.endWindow w .failed .failed) else .next s
  | none => .next s

end Sys2Proof.Machine
end

