-- ==== Sys2Proof/Machine/StoreRequests.lean ====
section
/-! DEFINITION. The requests of the message store, and the start and the end of its operations (R154 to R162, R165, R166). -/

namespace Sys2Proof.Machine

open Sys2Proof

/-! ## STORE_LIST and STORE_READ (R165) -/

/-- Messages put in ascending order of number. -/
def placeMessage (m : Message × Nat) : List (Message × Nat) → List (Message × Nat)
  | [] => [m]
  | n :: rest => if m.1.header.number < n.1.header.number then m :: n :: rest else n :: placeMessage m rest

/-- The LIVE messages with their blocks, in ascending order of number. -/
def Store.liveMessages (st : Store) : List (Message × Nat) :=
  ((allSlots.filter fun p => decide (st.stateAt p = .live)).filterMap fun p =>
    (st.messageAt p).map fun m => (m, p.block)).foldl (fun l m => placeMessage m l) []

/-- R165: what a listing gives of a message. -/
def Store.listed (st : Store) (m : Message × Nat) : Listed :=
  { header := m.1.header, length := m.1.body.length, protected_ := st.isProtected m.2 }

/-- STORE_LIST (R165). -/
def execStoreList (tag : Byte) (start : BitVec 16) (s : State) : Host.Outcome State Fault Refusal :=
  dispatched s tag (.storeList start) fun t s =>
    if start = 0 then s.refuse t .badValue
    else
      let found := s.store.liveMessages.filter fun m => decide (start.toNat ≤ m.1.header.number)
      s.answer t .done (.listing ((found.take 8).map s.store.listed) (decide (8 < found.length)))

/-- STORE_READ (R165) (DEDUCED, log 56). -/
def execStoreRead (tag : Byte) (number offset : BitVec 16) (length : Byte) (s : State) : Host.Outcome State Fault Refusal :=
  dispatched s tag (.storeRead number offset length) fun t s =>
    match (s.store.find number.toNat).bind s.store.messageAt with
    | some m =>
      if 1 ≤ length.toNat ∧ length.toNat ≤ 192 ∧ offset.toNat ≤ m.body.length then
        s.answer t .done (.octets ((m.body.drop offset.toNat).take length.toNat))
      else s.refuse t .badValue
    | none => s.refuse t .unknownItem

/-! ## STORE_DELETE (R160) -/

/-- A relocation copy of a slot. -/
def StoreOp.relocates (p : SlotId) : StoreOp → Bool
  | .relocCopy _ src _ _ => decide (src = p)
  | _ => false

/-- A relocation copy of a slot is queued or running. -/
def Store.relocating (st : Store) (p : SlotId) : Bool := st.ops.any (StoreOp.relocates p)

/-- A relocation copy of a slot is running. -/
def Store.relocRunning (st : Store) (p : SlotId) : Bool := (st.running.map Running.op).any (StoreOp.relocates p)

/-- The descriptor of a STORE_PROTECT in progress. -/
def Store.newDescriptor (st : Store) : Option Descriptor :=
  st.ops.findSome? fun o => match o with
    | .settings d _ => some d
    | _ => none

/-- A STORE_PROTECT in progress would change a block's protection. -/
def Store.protectionChanges (st : Store) (b : Nat) : Bool :=
  match st.newDescriptor with
  | some d => d.protects b != st.isProtected b
  | none => false

/-- A DELETE's ticket joins a pending mark of a slot. -/
def StoreOp.joined (p : SlotId) (t : Nat) : StoreOp → StoreOp
  | .mark q (.delete ts) => if q = p then .mark q (.delete (ts ++ [t])) else .mark q (.delete ts)
  | o => o

/-- R160: the running relocation copy of a deleted original is dropped. -/
def StoreOp.dropCopy : StoreOp → StoreOp
  | .relocCopy n src p _ => .relocCopy n src p true
  | o => o

/-- Every operation, queued or running, changed. -/
def Store.mapOps (st : Store) (f : StoreOp → StoreOp) : Store :=
  { st with queue := st.queue.map f, running := st.running.map fun r => { r with op := f r.op } }

/-- R160: the delete of the message in a LIVE slot. A relocation copy of it that is still queued is a step to come, which the delete
removes (R162). -/
def State.deleteMessage (s : State) (p : SlotId) (t : Nat) : State :=
  if s.store.relocRunning p then
    let s := s.storeNow fun st => (st.setState p .deleted).mapOps StoreOp.dropCopy
    (s.queueFirst (.mark p .relocation)).refuse t .done
  else if s.store.markPending p then s.modStore fun st => st.mapOps (StoreOp.joined p t)
  else
    let s := if s.store.relocating p then s.requeue fun q => q.filter fun o => !o.relocates p else s
    s.queueOp (.mark p (.delete [t]))

/-- STORE_DELETE (R160). -/
def execStoreDelete (tag : Byte) (number : BitVec 16) (s : State) : Host.Outcome State Fault Refusal :=
  dispatched s tag (.storeDelete number) fun t s =>
    if number = 0 then s.refuse t .badValue
    else
      match s.store.find number.toNat with
      | none => s.refuse t .unknownItem
      | some p =>
        if s.store.isProtected p.block then s.refuse t .protected_
        else if s.store.keeping p ∨ s.store.protectionChanges p.block then s.refuse t .busy
        else s.deleteMessage p t

/-! ## STORE_KEEP (R159) -/

/-- R159: the copy target a KEEP takes. -/
def Store.keepTarget (st : Store) : Option SlotId :=
  allSlots.find? fun p =>
    decide (st.stateAt p = .free) && !st.isTarget p && st.isProtected p.block && !st.isRetired p.block

/-- STORE_KEEP (R159). -/
def execStoreKeep (tag : Byte) (number : BitVec 16) (s : State) : Host.Outcome State Fault Refusal :=
  dispatched s tag (.storeKeep number) fun t s =>
    if number = 0 then s.refuse t .badValue
    else
      match s.store.find number.toNat with
      | none => s.refuse t .unknownItem
      | some p =>
        if s.store.isProtected p.block then s.refuse t .done
        else if s.store.markPending p ∨ s.store.keeping p ∨ s.store.relocating p then s.refuse t .busy
        else
          match s.store.keepTarget with
          | some q => (s.queueOp (.keepCopy number.toNat p q t)).report .storeChanged
          | none => s.refuse t .noRoom

/-! ## STORE_PROTECT (R158) -/

/-- R158: the descriptor a STORE_PROTECT carries; none when a value is out of range. -/
def descriptorOf (edge count invert : Byte) : Option Descriptor :=
  match flagOf edge, flagOf invert with
  | some h, some i => if count.toNat ≤ 16 then some { high := h, count := count.toNat, invert := i } else none
  | _, _ => none

/-- A KEEP copy. -/
def StoreOp.isKeep : StoreOp → Bool
  | .keepCopy _ _ _ _ => true
  | _ => false

/-- R158: a block holds a RESERVED slot, a copy target, or a LIVE message whose delete mark is queued or running. -/
def Store.blockHeld (st : Store) (b : Nat) : Bool :=
  (List.range 8).any fun i =>
    let p : SlotId := { block := b, slot := i }
    decide (st.stateAt p = .reserved) || st.isTarget p || (decide (st.stateAt p = .live) && st.markPending p)

/-- R158: a STORE_PROTECT is answered BUSY. -/
def Store.protectBusy (st : Store) (d : Descriptor) : Bool :=
  st.newDescriptor.isSome || st.reclaim.isSome || st.ops.any StoreOp.isKeep ||
    (List.range 16).any fun b => (d.protects b != st.isProtected b) && st.blockHeld b

/-- STORE_PROTECT (R158). -/
def execStoreProtect (tag edge count invert : Byte) (s : State) : Host.Outcome State Fault Refusal :=
  dispatched s tag (.storeProtect edge count invert) fun t s =>
    match descriptorOf edge count invert with
    | some d => if s.store.protectBusy d then s.refuse t .busy else s.queueOp (.settings d t)
    | none => s.refuse t .badValue

/-! ## STORE_QUERY (R166) -/

/-- R166: a block as the query shows it. A block whose header cannot be read shows the erase count stored last (DESIGN CHOICE,
log 97). -/
def Store.blockView (st : Store) (b : Nat) : BlockView :=
  { erases := (st.flash.blocks[b]?.map FlashBlock.erases).getD 0
    retired := st.isRetired b
    protected_ := st.isProtected b
    free := st.countIn b .free
    reserved := st.countIn b .reserved
    live := st.countIn b .live
    deleted := st.countIn b .deleted
    retiredSlots := st.countIn b .retired }

/-- R166: what STORE_QUERY shows. The next step of a reclaim is the one the block calls for as it stands: RELOCATE while it holds a
message to move, the one a running copy moves included, and ERASE otherwise, also when neither can be taken yet (DEDUCED,
log 92). The accumulated time of an operation that is no erase is 0 (DESIGN CHOICE, log 50). -/
def State.storeView (s : State) : StoreView :=
  let st := s.store
  { free := st.count .free
    reserved := st.count .reserved
    live := st.count .live
    deleted := st.count .deleted
    retired := st.count .retired
    usable := st.usableCount
    blocks := (List.range 16).map st.blockView
    descriptor := st.descriptor
    fault := st.fault
    reclaim := st.reclaim.map fun b => (b, (st.reclaimStep b).getD .erase)
    running := st.running.map fun r => (r.op, if r.op.isErase then r.elapsed s.now else 0)
    queued := st.queue.length
    nextNumber := st.nextNumber }

/-- STORE_QUERY (R166). -/
def execStoreQuery (tag : Byte) (s : State) : Host.Outcome State Fault Refusal :=
  dispatched s tag .storeQuery fun t s => s.answer t .done (.storage s.storeView)

/-! ## Operations starting (R154) -/

/-- Something can start: an operation waits. -/
def Store.startable (st : Store) : Bool := !st.queue.isEmpty

/-- STORE_OPERATION_START (R154). -/
def execStoreOperationStart (s : State) : Host.Outcome State Fault Refusal :=
  if s.mayStart ∧ s.store.startable = true then settle s.startNext else .next s

/-! ## Operations ending (R156 to R162) -/

/-- R157: something failed: the STORE notice is posted with FAULT. -/
def State.storeFault (s : State) : State := s.postStore StoreFlag.fault

/-- What a failed operation leaves in the memory is a free value (log 3). -/
def State.leaveFailed (s : State) (o : StoreOp) : State :=
  let (n, s) := s.draw
  s.modStore fun st => st.leave o (Config.leftover n).val false

/-- R157: a failed program or mark retires its slot. -/
def State.programFailed (s : State) (o : StoreOp) (p : SlotId) : State :=
  ((s.leaveFailed o).storeNow fun st => st.setState p .retired).storeFault

/-- A slot program verified: the memory holds the message, the slot enters a state. -/
def State.programmed (s : State) (p : SlotId) (m : Message) (v : SlotState) : State :=
  s.storeNow fun st => (st.setCell p (.written m)).setState p v

/-- R156: the write of an incoming message ended. The notice of a failure is posted before the new reservation is made (DEDUCED,
log 98). -/
def State.writeEnded (s : State) (p : SlotId) (m : Message) (verified : Bool) : State :=
  if verified then (s.programmed p m .live).writeDone p m.header.number
  else
    let (fresh, s) := (s.programFailed (.write p m) p).reserve
    s.writeFailed p fresh

/-- R159: a KEEP copy ended. -/
def State.keepEnded (s : State) (n : Nat) (src p : SlotId) (t : Nat) (verified : Bool) : State :=
  match s.store.messageAt src with
  | none => s.refuse t .unknownItem
  | some m =>
    if verified then
      ((s.programmed p m .live).storeNow fun st => st.setState src .deleted).queueFirst (.mark src (.keep t))
    else
      let s := s.programFailed (.keepCopy n src p t) p
      match s.store.keepTarget with
      | some q => (s.queueOp (.keepCopy n src q t)).report .storeChanged
      | none => s.refuse t .noRoom

/-- R162, R160: a relocation copy ended; one whose message was deleted meanwhile is marked DELETED itself. -/
def State.relocationEnded (s : State) (n : Nat) (src p : SlotId) (drop : Bool) (verified : Bool) : State :=
  match s.store.messageAt src with
  | none => s
  | some m =>
    if verified then
      if drop then (s.programmed p m .deleted).queueOp (.mark p .relocation)
      else ((s.programmed p m .live).storeNow fun st => st.setState src .deleted).queueFirst (.mark src .relocation)
    else s.programFailed (.relocCopy n src p drop) p

/-- A running operation has left the memory. -/
def State.opOver (s : State) : State := s.storeNow fun st => { st with running := none }

/-- R174, R155: while the part waits for a requested reset, the end of an operation has its effect on the memory and the index,
and of what it queues only the mark that follows a reclaim copy runs (DEDUCED, log 55). -/
def State.whileStopping (s t : State) (o : StoreOp) : State :=
  if s.power.wait = .stopping then
    { s with
      draws := t.draws
      store := { t.store with
        queue := match o with
          | .relocCopy _ src _ _ => t.store.queue.filter fun q => decide (q = .mark src .relocation)
          | _ => []
        reclaim := none } }
  else t

/-- The operation that is due to end, when one is. -/
def State.endingOp (s : State) : Option StoreOp :=
  if decide (s.power.state = .run ∧ s.power.held = false) && s.opDue then s.store.running.map Running.op else none

/-- SLOT_PROGRAM_END (R156, R159, R160, R162). -/
def execSlotProgramEnd (verified : Bool) (s : State) : Host.Outcome State Fault Refusal :=
  match s.endingOp with
  | some (.write p m) => settle (s.whileStopping (s.opOver.writeEnded p m verified) (.write p m))
  | some (.keepCopy n src p t) => settle (s.whileStopping (s.opOver.keepEnded n src p t verified) (.keepCopy n src p t))
  | some (.relocCopy n src p d) => settle (s.whileStopping (s.opOver.relocationEnded n src p d verified) (.relocCopy n src p d))
  | _ => .next s

/-- The requests that wait for a mark are answered (R159, R160). -/
def State.markAnswered (s : State) : MarkReason → State
  | .delete ts => ts.foldl (fun s t => s.refuse t .done) s
  | .keep t => s.refuse t .done
  | .relocation => s
  | .repair => s

/-- R160, R157: a DELETED mark ended. -/
def State.markEnded (s : State) (p : SlotId) (why : MarkReason) (verified : Bool) : State :=
  let s :=
    if verified then
      s.storeNow fun st => (st.setCell p { st.cellAt p with deleted := true }).setState p .deleted
    else s.programFailed (.mark p why) p
  s.markAnswered why

/-- R157, R163: a block's RETIRED mark ended; the block stays retired whether or not it verified. With a mark that verified its header
can be read (DEDUCED, log 96). -/
def State.retireMarkEnded (s : State) (b : Nat) (verified : Bool) : State :=
  if verified then s.modStore fun st => st.modBlock b fun k => { k with retired := true, readable := true }
  else (s.leaveFailed (.retireMark b)).storeFault

/-- MARK_PROGRAM_END (R160, R157). -/
def execMarkProgramEnd (verified : Bool) (s : State) : Host.Outcome State Fault Refusal :=
  match s.endingOp with
  | some (.mark p why) => settle (s.whileStopping (s.opOver.markEnded p why verified) (.mark p why))
  | some (.retireMark b) => settle (s.whileStopping (s.opOver.retireMarkEnded b verified) (.retireMark b))
  | _ => .next s

/-- R162, R157: a block erase ended. Reclaim is examined before the text transfer unit is told of the rise (DEDUCED, log 108). -/
def State.eraseEnded (s : State) (b : Nat) (repair : Bool) (verified : Bool) : State :=
  let s :=
    if verified then
      (s.storeNow fun st => (st.modBlock b FlashBlock.erased).setBlock b .free).report .usableRose
    else
      let s := (s.leaveFailed (.erase b repair)).storeNow fun st =>
        { st.setBlock b .retired with retired := if st.retired.contains b then st.retired else st.retired ++ [b] }
      (s.queueFirst (.retireMark b)).storeFault
  if s.store.reclaim = some b then s.endReclaim else s

/-- BLOCK_ERASE_END (R162). -/
def execBlockEraseEnd (verified : Bool) (s : State) : Host.Outcome State Fault Refusal :=
  match s.endingOp with
  | some (.erase b r) => settle (s.whileStopping (s.opOver.eraseEnded b r verified) (.erase b r))
  | _ => .next s

/-- A block with FREE slots became unprotected (R156). -/
def Store.unprotected (st : Store) (d : Descriptor) : Bool :=
  (List.range 16).any fun b => st.isProtected b && !d.protects b && decide (0 < st.countIn b .free)

/-- R158, law: a KEEP taken while the rewrite was on its way is judged anew under the new descriptor (DEDUCED, log 79): an original
now in a protected block stays and the KEEP is answered DONE; a target now unprotected gives way to the next one, or the KEEP is
answered NO_ROOM (R159). -/
def State.rejudgeKeep (s : State) (o : StoreOp) : State :=
  match o with
  | .keepCopy n src p t =>
    if s.store.isProtected src.block then (s.requeue fun q => q.erase o).refuse t .done
    else if s.store.isProtected p.block then s
    else
      match s.store.keepTarget with
      | some p' => s.requeue fun q => q.map fun v => if v = o then .keepCopy n src p' t else v
      | none => (s.requeue fun q => q.erase o).refuse t .noRoom
  | _ => s

/-- R158, law: a reclaim that began while the rewrite was on its way: one of a block now protected is abandoned, and a queued
relocation copy into a block now protected is given up, to be planned again (DEDUCED, log 37). -/
def State.rejudgeReclaim (s : State) (b : Nat) : State :=
  if s.store.isProtected b then s.endReclaim
  else s.requeue fun q => q.filter fun o => !(o.isStep && (o.target.map fun p => s.store.isProtected p.block).getD false)

/-- R158, R157: a rewrite of the settings area ended: the new descriptor is in force, whether or not it verified (DEDUCED,
log 54). One that verified clears a standing settings fault (DEDUCED, log 89). A slot RESERVED in a block that is now protected
keeps its reservation (DEDUCED, log 90). Reclaim is examined before the text transfer unit is told of a rise (DEDUCED,
log 108). -/
def State.settingsEnded (s : State) (d : Descriptor) (t : Nat) (verified : Bool) : State :=
  let rose := s.store.unprotected d
  let s :=
    if verified then s.modStore fun st => { st with flash := { st.flash with settings := some d } }
    else s.leaveFailed (.settings d t)
  let s := s.storeNow fun st => { st with descriptor := d, fault := !verified }
  let s := s.postStore (StoreFlag.protection ||| if verified then 0 else StoreFlag.settings)
  let s := s.refuse t .done
  let s := s.store.queue.foldl State.rejudgeKeep s
  let s := match s.store.reclaim with
    | some b => s.rejudgeReclaim b
    | none => s
  if rose then s.report .usableRose else s

/-- SETTINGS_REWRITE_END (R158). -/
def execSettingsRewriteEnd (verified : Bool) (s : State) : Host.Outcome State Fault Refusal :=
  match s.endingOp with
  | some (.settings d t) => settle (s.whileStopping (s.opOver.settingsEnded d t verified) (.settings d t))
  | _ => .next s

end Sys2Proof.Machine
end

