-- ==== Sys2Proof/Machine/Subscriptions.lean ====
section
/-! DEFINITION. The requests of the subscription controller and of the measurement unit, and the expiry of the subscription
controller's timers (R21 to R23, R26, R39 to R42, R79). -/

namespace Sys2Proof.Machine

open Sys2Proof

/-! ## SUB_LOAD, SUB_ATTACH, SUB_SET (R21 to R23) -/

/-- R21: an allowed channel list of 1..32 distinct channels 0..2047. -/
def channelsInRange (cs : List (BitVec 16)) : Bool :=
  decide (1 ≤ cs.length ∧ cs.length ≤ 32 ∧ cs.Nodup) && cs.all fun c => decide (c.toNat ≤ 2047)

/-- R21: the record a taken SUB_LOAD fills anew. -/
def SubRec.loaded (identity : BitVec 32) (cs : List (BitVec 16)) : SubRec :=
  { SubRec.reset with
    state := .detached, identity := some identity, key := some (identity.setWidth 16), channels := cs.map BitVec.toNat }

/-- R21: a SUB_LOAD is taken. A memory-full-signalled flag that it clears is told as R149 gives (DEDUCED, log 45). -/
def State.load (s : State) (x : Sub) (identity : BitVec 32) (cs : List (BitVec 16)) : State :=
  let s := if (s.sub x).memoryFull then s.clearMemoryFull x else s
  (s.modSub x fun _ => SubRec.loaded identity cs).postSub x (SubFlag.state ||| SubFlag.key)

/-- SUB_LOAD (R21). -/
def execSubLoad (tag sub : Byte) (identity : BitVec 32) (channels : List (BitVec 16)) (s : State) :
    Host.Outcome State Fault Refusal :=
  dispatched s tag (.subLoad sub identity channels) fun t s =>
    match subOf sub with
    | some x =>
      if channelsInRange channels then
        if (s.sub x).state = .empty ∨ (s.sub x).state = .detached then (s.load x identity channels).refuse t .done
        else s.refuse t .wrongState
      else s.refuse t .badValue
    | none => s.refuse t .badValue

/-- SUB_ATTACH (R22). -/
def execSubAttach (tag sub : Byte) (s : State) : Host.Outcome State Fault Refusal :=
  dispatched s tag (.subAttach sub) fun t s =>
    match subOf sub with
    | some x =>
      if (s.sub x).state = .detached then
        (((s.modSub x fun r => { r with state := .searching }).refuse t .done).postSub x SubFlag.state).beginSearch x
      else s.refuse t .wrongState
    | none => s.refuse t .badValue

/-- R23: the values of a SUB_SET lie in range. -/
def settingsInRange (guard notices : Option Byte) (channels : Option (List (BitVec 16))) : Bool :=
  (match guard with
    | some g => decide (1 ≤ g.toNat ∧ g.toNat ≤ 7)
    | none => true) &&
  (match notices with
    | some n => (flagOf n).isSome
    | none => true) &&
  (match channels with
    | some cs => channelsInRange cs
    | none => true)

/-- R23, R80: a taken SUB_SET. Notices turned on make the notice reference absent. -/
def State.applySettings (s : State) (x : Sub) (guard notices : Option Byte) (channels : Option (List (BitVec 16))) : State :=
  let s := match channels with
    | some cs => s.modSub x fun r => { r with channels := cs.map BitVec.toNat }
    | none => s
  let s := match notices.bind flagOf with
    | some b =>
      let s := if b = true ∧ (s.sub x).notices = false then s.modMeas x fun m => { m with reference := none } else s
      s.modSub x fun r => { r with notices := b }
    | none => s
  match guard with
  | some g => (s.modSub x fun r => { r with guard := g.toNat }).raiseStarved x
  | none => s

/-- SUB_SET (R23). -/
def execSubSet (tag sub : Byte) (guard notices : Option Byte) (channels : Option (List (BitVec 16))) (s : State) :
    Host.Outcome State Fault Refusal :=
  dispatched s tag (.subSet sub guard notices channels) fun t s =>
    match subOf sub with
    | some x =>
      if settingsInRange guard notices channels then
        if (s.sub x).state = .empty then s.refuse t .wrongState
        else (s.applySettings x guard notices channels).refuse t .done
      else s.refuse t .badValue
    | none => s.refuse t .badValue

/-! ## SUB_DETACH (R40, R41) -/

/-- R40: a CAMPED subscription is detached: its request and its calls end, and LEAVE is granted at once when the radio is free. -/
def State.detachCamped (s : State) (x : Sub) : State :=
  let s := (s.dropRequest x).freeCalls x (fun _ => true) .byHost
  if s.engaged.isNone then (s.joinQueue x [.leave] false).grantIfFree else s.becomeDetached x

/-- R41: the subscription leaves ENGAGED for CAMPED, and the queue grants again; no paging is planned, since it
detaches (DEDUCED, log 43). -/
def State.leaveEngaged (s : State) (x : Sub) : State :=
  ((((s.disengage x).dropRequest x).modSub x fun r => { r with state := .camped }).postSub x SubFlag.state).grantIfFree

/-- R41: an access attempt is abandoned: calls freed, other purposes ended as for an access failure (DEDUCED, log 44). -/
def State.detachAttempt (s : State) (x : Sub) (a : Attempt) : State :=
  let s := (s.withdrawAttempt x).freeCalls x (fun _ => true) .byHost
  let s := if a.purposes.contains .text then s.textAccessFailed x else s
  let s := if a.purposes.contains .register then s.modSub x fun r => { r with registration := some .noAccess } else s
  (s.leaveEngaged x).detachCamped x

/-- R41, R142: a running connection: every call locally cleared, the other purposes ended, LEAVE joined. An entry that is SENDING
has the text unit end its work now (R142); otherwise its entries end with the detach. LEAVE is queued when no call
record remains in use, also on a connection whose DONE already counts as sent (R16; DEDUCED, log 105). -/
def State.detachConnected (s : State) (x : Sub) : State :=
  let s := s.clearAll x .byHost
  let s := (s.regDropped x).removeMsgs fun m => m.isEnrol || m.isStoreReady || m.isDone
  let s := (if (s.sendingEntry x).isSome then s.textDetached x else s).modText x fun t => { t with incoming := false, idle := .stopped }
  (s.modPurposes x fun ps => ps.filter (fun p => decide (p = .call)) ++ [.leave]).settleConn x

/-- R40, R41: SUB_DETACH by the subscription's state. -/
def State.detach (s : State) (x : Sub) (t : Nat) : State :=
  if s.leaving x then s.refuse t .busy
  else
    let held := s.modSub x fun r => { r with detaching := some t }
    match (s.sub x).state with
    | .empty => s.refuse t .wrongState
    | .detached => s.refuse t .done
    | .searching => ((held.freeCalls x (fun _ => true) .byHost).stopSearch x).becomeDetached x
    | .noService => (held.freeCalls x (fun _ => true) .byHost).becomeDetached x
    | .camped => held.detachCamped x
    | .engaged =>
      match s.engaged with
      | some { sub := _, stage := .attempt a } => held.detachAttempt x a
      | some { sub := _, stage := .connected } => held.detachConnected x
      | some { sub := _, stage := .confirming w _ } =>
        (((held.withdraw w).freeCalls x (fun _ => true) .byHost).leaveEngaged x).detachCamped x
      | none => held.becomeDetached x

/-- SUB_DETACH (R40, R41). -/
def execSubDetach (tag sub : Byte) (s : State) : Host.Outcome State Fault Refusal :=
  dispatched s tag (.subDetach sub) fun t s =>
    match subOf sub with
    | some x => s.detach x t
    | none => s.refuse t .badValue

/-! ## Queries (R42, R79) -/

/-- R42: what SUB_QUERY shows. -/
def State.subView (s : State) (x : Sub) : SubView :=
  { sub := x, record := s.sub x, queued := (s.engQueue.find? fun q => decide (q.sub = x)).map EngRequest.purposes }

/-- SUB_QUERY (R42). -/
def execSubQuery (tag sub : Byte) (s : State) : Host.Outcome State Fault Refusal :=
  dispatched s tag (.subQuery sub) fun t s =>
    match subOf sub with
    | some x => s.answer t .done (.subscription (s.subView x))
    | none => s.refuse t .badValue

/-- Attempts of a round, its serving attempt among them, that have ended, or that are open (DEDUCED, log 51). -/
def Round.tally (r : Round) (over_ : Bool) : Nat :=
  (r.attempts.countP fun t => t.ended.isSome == over_) + if r.serving.isSome = over_ then 1 else 0

/-- R79: what MEAS_QUERY shows of a subscription. -/
def State.measView (s : State) (x : Sub) : MeasView :=
  let m := s.measOf x
  { mode := m.mode
    ended := (m.rounds.map fun r => r.tally true).sum
    opened := (m.rounds.map fun r => r.tally false).sum
    target := (s.sub x).target
    stage := m.resel
    sinceReport := m.sinceReport
    reportWaits := (s.connection x).isSome && s.ctx.waiting.any fun q => q.msg.isReport }

/-- MEAS_QUERY (R79). -/
def execMeasQuery (tag : Byte) (s : State) : Host.Outcome State Fault Refusal :=
  dispatched s tag .measQuery fun t s => s.answer t .done (.measurement s.meas.entries (s.measView .A) (s.measView .B))

/-! ## Timers (R26, R16, R39) -/

/-- NO_SERVICE_RETRY_EXPIRY (R26). -/
def execNoServiceRetryExpiry (x : Sub) (s : State) : Host.Outcome State Fault Refusal :=
  if s.awake ∧ (s.sub x).state = .noService ∧ expired s.now (s.sub x).retry = true then
    settle (((s.modSub x fun r => { r with state := .searching, reason := none, retry := none }).postSub x
      SubFlag.state).beginSearch x)
  else .next s

/-- RELEASE_TIMER_EXPIRY (R16): the connection ends locally. -/
def execReleaseTimerExpiry (s : State) : Host.Outcome State Fault Refusal :=
  match s.ctx.active with
  | some c => if s.awake ∧ s.ctx.release.expired s.now = true then settle (s.releaseConnection c.sub false) else .next s
  | none => .next s

/-- REGISTRATION_GUARD_EXPIRY (R39). -/
def execRegistrationGuardExpiry (x : Sub) (s : State) : Host.Outcome State Fault Refusal :=
  if s.awake ∧ expired s.now (s.sub x).regGuard = true ∧ s.registering x = true then settle (s.regRefused x .noReply)
  else .next s

end Sys2Proof.Machine
end

