-- ==== Sys2Proof/Machine/TextRequests.lean ====
section
/-! DEFINITION. The requests of the text transfer unit and the expiry of its timers (R135, R136, R139, R141, R143, R147, R150). -/

namespace Sys2Proof.Machine

open Sys2Proof

/-! ## TEXT_SEND (R135, R136) -/

/-- R135: the first check, of the values. -/
def pieceInRange (destination : Digits) (index last : Byte) (body : List Byte) : Bool :=
  digitsInRange destination && decide (1 ≤ index.toNat ∧ index.toNat ≤ 8 ∧ body.length ≤ 96) && (flagOf last).isSome

/-- R135: the second check, of the subscription. -/
def State.mayText (s : State) (x : Sub) : Bool :=
  decide ((s.sub x).state ≠ .empty ∧ (s.sub x).state ≠ .detached) && !s.leaving x

/-- R135, R136: the third check: the piece fits the entry it names or creates. -/
def State.pieceFits (s : State) (x : Sub) (destination : Digits) (reference index : Byte) : Bool :=
  match s.outEntry x reference with
  | none => decide (index.toNat = 1)
  | some e => decide (1 < index.toNat ∧ e.state = .assembling ∧ e.next = some index.toNat ∧ e.destination = destination)

/-- R135, R136: the fourth check: the outbox has room for the piece. -/
def State.pieceRoom (s : State) (index : Byte) (last : Bool) : Bool :=
  if index.toNat = 1 then decide (s.text.outbox.length < outEntries ∧ s.partsHeld < outParts)
  else decide (s.partsHeld < outParts) && (last || decide (index.toNat ≠ 8))

/-- The entry a first piece creates (R135). -/
def State.firstPiece (s : State) (x : Sub) (destination : Digits) (reference : Byte) (body : List Byte) : OutEntry :=
  { sub := x, destination := destination, reference := reference, next := some 2, count := none, parts := [body],
    state := .assembling, order := 0, attempts := 0, part := none, sends := 0, assembly := some (s.timerFor assemblySlots),
    wait := .stopped, outcome := none, ended := 0 }

/-- An entry whose last piece has been taken (R136). -/
def OutEntry.ready (e : OutEntry) (order : Nat) : OutEntry :=
  { e with state := .ready, count := some e.parts.length, next := none, assembly := none, order := order }

/-- R135, R136: the piece is stored. -/
def State.storePiece (s : State) (x : Sub) (destination : Digits) (reference index : Byte) (body : List Byte) : State :=
  if index.toNat = 1 then
    { s with text := { s.text with outbox := s.text.outbox ++ [s.firstPiece x destination reference body] } }
  else
    s.modOut (fun e => e.is x reference) fun e =>
      { e with parts := e.parts ++ [body], next := some (index.toNat + 1), assembly := some (s.timerFor assemblySlots) }

/-- R136: the last piece makes the entry READY and raises TEXT (R137). -/
def State.pieceReady (s : State) (x : Sub) (reference : Byte) : State :=
  let (n, s) := s.moment
  (s.modOut (fun e => e.is x reference) fun e => e.ready n).raiseText x

/-- TEXT_SEND (R135). -/
def execTextSend (tag sub : Byte) (destination : Digits) (reference index last : Byte) (body : List Byte) (s : State) :
    Host.Outcome State Fault Refusal :=
  dispatched s tag (.textSend sub destination reference index last body) fun t s =>
    match subOf sub with
    | some x =>
      if pieceInRange destination index last body then
        if s.mayText x then
          if s.pieceFits x destination reference index then
            if s.pieceRoom index (decide (last = 1)) then
              let s := (s.storePiece x destination reference index body).refuse t .done
              if last = 1 then s.pieceReady x reference else s
            else s.refuse t .noRoom
          else s.refuse t .badValue
        else s.refuse t .wrongState
      else s.refuse t .badValue
    | none => s.refuse t .badValue

/-! ## TEXT_CANCEL (R141) -/

/-- R141: TEXT leaves what holds it when no READY and no SENDING entry of the subscription remains. -/
def State.cancelLeaves (s : State) (x : Sub) : State :=
  if s.hasReady x = false ∧ s.sendingEntry x = none then
    if (s.connection x).isSome then s.textMayLeave x else s.purposeLeaves x .text
  else s

/-- R141: the entry is removed without an outcome. -/
def State.cancel (s : State) (x : Sub) (e : OutEntry) : State :=
  let s := { s with text := { s.text with outbox := s.text.outbox.filter fun f => !f.is x e.reference } }
  if e.state = .ready then s.cancelLeaves x else s

/-- TEXT_CANCEL (R141) (DEDUCED, log 60). -/
def execTextCancel (tag sub reference : Byte) (s : State) : Host.Outcome State Fault Refusal :=
  dispatched s tag (.textCancel sub reference) fun t s =>
    match subOf sub with
    | some x =>
      match s.outEntry x reference with
      | some e =>
        if e.state = .assembling ∨ e.state = .ready then (s.refuse t .done).cancel x e else s.refuse t .wrongState
      | none => s.refuse t .unknownItem
    | none => s.refuse t .badValue

/-! ## OUTBOX_QUERY (R150) -/

/-- R150: an outbox entry, with the slots left of its assembly timer or part wait. -/
def State.outView (s : State) (e : OutEntry) : OutView :=
  { entry := e
    left := match e.assembly with
      | some t => some (slotsLeft s.now t)
      | none => e.wait.left s.now }

/-- R150: a reassembly entry, with the slots left of its age timer. -/
def State.reasView (s : State) (e : Reassembly) : ReasView := { entry := e, left := e.age.map (slotsLeft s.now) }

/-- R150: the text transfer unit's state of a subscription. -/
def State.textView (s : State) (x : Sub) : TextView :=
  { incoming := (s.textOf x).incoming, idleLeft := (s.textOf x).idle.left s.now, readySent := (s.textOf x).readySent }

/-- OUTBOX_QUERY (R150). -/
def execOutboxQuery (tag : Byte) (s : State) : Host.Outcome State Fault Refusal :=
  dispatched s tag .outboxQuery fun t s =>
    s.answer t .done
      (.outbox (s.text.outbox.map s.outView) s.text.outbox.length s.partsHeld (s.text.table.map s.reasView) s.text.recent
        (s.textView .A) (s.textView .B))

/-! ## Timers -/

/-- ASSEMBLY_TIMER_EXPIRY (R136): the entry is ABANDONED. -/
def execAssemblyTimerExpiry (x : Sub) (reference : Byte) (s : State) : Host.Outcome State Fault Refusal :=
  match s.outEntry x reference with
  | some e =>
    if s.awake ∧ e.state = .assembling ∧ expired s.now e.assembly = true then settle (s.endEntry x reference .abandoned)
    else .next s
  | none => .next s

/-- PART_WAIT_EXPIRY (R139). -/
def execPartWaitExpiry (x : Sub) (s : State) : Host.Outcome State Fault Refusal :=
  match s.sendingEntry x with
  | some e => if s.awake ∧ e.wait.expired s.now = true then settle (s.partWaitExpired x) else .next s
  | none => .next s

/-- AGE_TIMER_EXPIRY (R147): an open entry is closed INCOMPLETE. -/
def execAgeTimerExpiry (x : Sub) (sender : Digits) (reference : Nat) (s : State) : Host.Outcome State Fault Refusal :=
  match s.text.table.find? fun e => e.is x sender reference with
  | some e =>
    if s.awake ∧ e.opened = true ∧ expired s.now e.age = true then settle (s.closeEntry e .incomplete) else .next s
  | none => .next s

/-- R143: the idle wait expired: it is set again while the subscription has an open entry; otherwise the incoming reason ends. -/
def State.idleWaitOver (s : State) (x : Sub) : State :=
  if s.text.table.any fun e => decide (e.sub = x) && e.opened then
    s.modText x fun t => { t with idle := .running (s.timerFor idleWaitSlots) }
  else (s.modText x fun t => { t with incoming := false, idle := .stopped }).textMayLeave x

/-- IDLE_WAIT_EXPIRY (R143). -/
def execIdleWaitExpiry (x : Sub) (s : State) : Host.Outcome State Fault Refusal :=
  if s.awake ∧ (s.textOf x).idle.expired s.now = true then settle (s.idleWaitOver x) else .next s

end Sys2Proof.Machine
end

