-- ==== Sys2Proof/Machine/VoicePort.lean ====
section
/-! DEFINITION. The requests of the voice path and the frames of its port (R123, R127, R129 to R133). -/

namespace Sys2Proof.Machine

open Sys2Proof

/-- A role as an octet (R185). -/
def roleOf (o : Byte) : Option PortRole := if o = 0 then some .drive else if o = 1 then some .follow else none

/-- A clock rate as an octet (R185). -/
def rateOf (o : Byte) : Option ClockRate :=
  if o = 0 then some .khz256 else if o = 1 then some .khz512 else if o = 2 then some .khz1024 else none

/-- A value given by an optional octet: the one it names, or the present one when it is absent. -/
def given {α : Type} (f : Byte → Option α) (present : α) : Option Byte → Option α
  | some o => f o
  | none => some present

/-- R129: the settings a VOICE_SET leads to; none when a value is out of range. The first value of the polarity is ACTIVE_HIGH
and of the idle line state LOW. -/
def VoiceSettings.set (v : VoiceSettings) (clockRole frameRole clockRate polarity idleLine : Option Byte) :
    Option VoiceSettings :=
  match given roleOf v.clock clockRole, given roleOf v.frame frameRole, given rateOf v.rate clockRate,
      given flagOf (!v.activeHigh) polarity, given flagOf (!v.idleLow) idleLine with
  | some c, some f, some r, some p, some i => some { clock := c, frame := f, rate := r, activeHigh := !p, idleLow := !i }
  | _, _, _, _, _ => none

/-- VOICE_SET (R129). -/
def execVoiceSet (tag : Byte) (clockRole frameRole clockRate polarity idleLine : Option Byte) (s : State) :
    Host.Outcome State Fault Refusal :=
  dispatched s tag (.voiceSet clockRole frameRole clockRate polarity idleLine) fun t s =>
    match s.voice.settings.set clockRole frameRole clockRate polarity idleLine with
    | some v =>
      if s.voiceCall then s.refuse t .wrongState else (s.modVoice fun w => { w with settings := v }).refuse t .done
    | none => s.refuse t .badValue

/-- VOICE_QUERY (R133). -/
def execVoiceQuery (tag : Byte) (s : State) : Host.Outcome State Fault Refusal :=
  dispatched s tag .voiceQuery fun t s => s.answer t .done (.voice s.voice)

/-- PORT_FRAME_START (R123, R125, R130, R132). -/
def execPortFrameStart (s : State) : Host.Outcome State Fault Refusal :=
  if s.portFrameDue then
    settle (s.modVoice fun v => { v.cutShort.output with lastFrame := some s.now })
  else .next s

/-- Octets of a port frame (R130). -/
def portOctets : Nat := 21

/-- UPLINK_BLOCK_RECEIVED (R127): the frame's last 20 octets are the block. -/
def execUplinkBlockReceived (octets : List Byte) (s : State) : Host.Outcome State Fault Refusal :=
  if s.awake ∧ s.voice.running = true ∧ s.voice.frame.isSome = true ∧ octets.length = portOctets then
    settle (s.modVoice fun v => { v.addUp (octets.drop 1) with frame := none })
  else .next s

end Sys2Proof.Machine
end

