-- ==== Sys2Proof/Machine/Dispatch.lean ====
section
/-! DEFINITION. The effect of every command on everything but the queue. -/

namespace Sys2Proof.Machine

open Sys2Proof

/-- The command's effect. -/
def exec (i : Instr) (s : State) : Host.Outcome State Fault Refusal :=
  match i with
  | .powerOn => Sys2Proof.Machine.execPowerOn s
  | .resetnAsserted => Sys2Proof.Machine.execResetnAsserted s
  | .resetnReleased => Sys2Proof.Machine.execResetnReleased s
  | .startupEnd => Sys2Proof.Machine.execStartupEnd s
  | .requestedReset => Sys2Proof.Machine.execRequestedReset s
  | .lineBreak => Sys2Proof.Machine.execBreak s
  | .characterError => Sys2Proof.Machine.execCharacterError s
  | .lengthDiscard octet => Sys2Proof.Machine.execLengthDiscard octet s
  | .receiveGapTimeout => Sys2Proof.Machine.execReceiveGapTimeout s
  | .requestArrival octet => Sys2Proof.Machine.execRequestArrival octet s
  | .startingReply => Sys2Proof.Machine.execStartingReply s
  | .identify tag => Sys2Proof.Machine.execIdentify tag s
  | .reset tag => Sys2Proof.Machine.execReset tag s
  | .powerSetDozeOn tag => Sys2Proof.Machine.execPowerSetDozeOn tag s
  | .powerSetDozeOff tag => Sys2Proof.Machine.execPowerSetDozeOff tag s
  | .powerSetDormant tag => Sys2Proof.Machine.execPowerSetDormant tag s
  | .powerSetQuery tag target => Sys2Proof.Machine.execPowerSetQuery tag target s
  | .subLoad tag sub identity channels => Sys2Proof.Machine.execSubLoad tag sub identity channels s
  | .subAttach tag sub => Sys2Proof.Machine.execSubAttach tag sub s
  | .subDetach tag sub => Sys2Proof.Machine.execSubDetach tag sub s
  | .subSet tag sub guard notices channels => Sys2Proof.Machine.execSubSet tag sub guard notices channels s
  | .subQuery tag sub => Sys2Proof.Machine.execSubQuery tag sub s
  | .measQuery tag => Sys2Proof.Machine.execMeasQuery tag s
  | .callDial tag sub number => Sys2Proof.Machine.execCallDial tag sub number s
  | .callAnswer tag id => Sys2Proof.Machine.execCallAnswer tag id s
  | .callEnd tag id => Sys2Proof.Machine.execCallEnd tag id s
  | .callQuery tag id => Sys2Proof.Machine.execCallQuery tag id s
  | .voiceSet tag clockRole frameRole clockRate polarity idleLine => Sys2Proof.Machine.execVoiceSet tag clockRole frameRole clockRate polarity idleLine s
  | .voiceQuery tag => Sys2Proof.Machine.execVoiceQuery tag s
  | .textSend tag sub destination reference index last body => Sys2Proof.Machine.execTextSend tag sub destination reference index last body s
  | .textCancel tag sub reference => Sys2Proof.Machine.execTextCancel tag sub reference s
  | .outboxQuery tag => Sys2Proof.Machine.execOutboxQuery tag s
  | .storeList tag start => Sys2Proof.Machine.execStoreList tag start s
  | .storeRead tag number offset length => Sys2Proof.Machine.execStoreRead tag number offset length s
  | .storeDelete tag number => Sys2Proof.Machine.execStoreDelete tag number s
  | .storeKeep tag number => Sys2Proof.Machine.execStoreKeep tag number s
  | .storeProtect tag edge count invert => Sys2Proof.Machine.execStoreProtect tag edge count invert s
  | .storeQuery tag => Sys2Proof.Machine.execStoreQuery tag s
  | .clrdyAsserted => Sys2Proof.Machine.execClrdyAsserted s
  | .frameTransmitStart => Sys2Proof.Machine.execFrameTransmitStart s
  | .frameTransmitEnd => Sys2Proof.Machine.execFrameTransmitEnd s
  | .dozeEntry => Sys2Proof.Machine.execDozeEntry s
  | .wakeTimeReached => Sys2Proof.Machine.execWakeTimeReached s
  | .dormantEntry => Sys2Proof.Machine.execDormantEntry s
  | .windowOrdered => Sys2Proof.Machine.execWindowOrdered s
  | .frontEndResult order result => Sys2Proof.Machine.execFrontEndResult order result s
  | .resultLimit window => Sys2Proof.Machine.execResultLimit window s
  | .noServiceRetryExpiry sub => Sys2Proof.Machine.execNoServiceRetryExpiry sub s
  | .releaseTimerExpiry => Sys2Proof.Machine.execReleaseTimerExpiry s
  | .registrationGuardExpiry sub => Sys2Proof.Machine.execRegistrationGuardExpiry sub s
  | .callTimerExpiry id => Sys2Proof.Machine.execCallTimerExpiry id s
  | .portFrameStart => Sys2Proof.Machine.execPortFrameStart s
  | .uplinkBlockReceived octets => Sys2Proof.Machine.execUplinkBlockReceived octets s
  | .assemblyTimerExpiry sub reference => Sys2Proof.Machine.execAssemblyTimerExpiry sub reference s
  | .partWaitExpiry sub => Sys2Proof.Machine.execPartWaitExpiry sub s
  | .ageTimerExpiry sub sender reference => Sys2Proof.Machine.execAgeTimerExpiry sub sender reference s
  | .idleWaitExpiry sub => Sys2Proof.Machine.execIdleWaitExpiry sub s
  | .storeOperationStart => Sys2Proof.Machine.execStoreOperationStart s
  | .slotProgramEnd verified => Sys2Proof.Machine.execSlotProgramEnd verified s
  | .markProgramEnd verified => Sys2Proof.Machine.execMarkProgramEnd verified s
  | .blockEraseEnd verified => Sys2Proof.Machine.execBlockEraseEnd verified s
  | .settingsRewriteEnd verified => Sys2Proof.Machine.execSettingsRewriteEnd verified s
  | .clrdyDeasserted => Sys2Proof.Machine.execClrdyDeasserted s
  | .goodOctet octet => Sys2Proof.Machine.execGoodOctet octet s

end Sys2Proof.Machine
end

