-- ==== Sys2Proof/Machine/Idle.lean ====
section
/-! DEFINITION. What the part does by itself when no command waits (DESIGN CHOICE, log 8): the first event that is due, or else
one slot of time. -/

namespace Sys2Proof.Machine

open Sys2Proof

/-- The dispatch of a request of the inbox as a command. -/
def Tagged.command (q : Tagged) : Instr :=
  match q.request with
  | .identify => .identify q.tag
  | .reset => .reset q.tag
  | .powerSet none => .powerSetQuery q.tag none
  | .powerSet (some b) =>
    if b = 0 then .powerSetDozeOn q.tag
    else if b = 1 then .powerSetDozeOff q.tag
    else if b = 2 then .powerSetDormant q.tag
    else .powerSetQuery q.tag (some b)
  | .subLoad x i cs => .subLoad q.tag x i cs
  | .subAttach x => .subAttach q.tag x
  | .subDetach x => .subDetach q.tag x
  | .subSet x g n cs => .subSet q.tag x g n cs
  | .subQuery x => .subQuery q.tag x
  | .measQuery => .measQuery q.tag
  | .callDial x d => .callDial q.tag x d
  | .callAnswer i => .callAnswer q.tag i
  | .callEnd i => .callEnd q.tag i
  | .callQuery i => .callQuery q.tag i
  | .voiceSet a b c d e => .voiceSet q.tag a b c d e
  | .voiceQuery => .voiceQuery q.tag
  | .textSend x d r i l b => .textSend q.tag x d r i l b
  | .textCancel x r => .textCancel q.tag x r
  | .outboxQuery => .outboxQuery q.tag
  | .storeList n => .storeList q.tag n
  | .storeRead n o k => .storeRead q.tag n o k
  | .storeDelete n => .storeDelete q.tag n
  | .storeKeep n => .storeKeep q.tag n
  | .storeProtect e c i => .storeProtect q.tag e c i
  | .storeQuery => .storeQuery q.tag

/-- A command when a condition holds. -/
def whenever (b : Bool) (c : Instr) : Option Instr := if b then some c else none

/-- R180: the dispatch that is due. -/
def State.dispatchDue (s : State) : Option Instr :=
  match s.link.inbox with
  | q :: _ =>
    if s.mayDispatch then
      some (if s.power.operating || Request.isIdentify q.request then q.command else .startingReply)
    else none
  | [] => none

/-- R182: a frame can start. -/
def State.sendDue (s : State) : Option Instr := whenever (s.maySend && decide (s.nextFrameChoice ≠ .nothing)) .frameTransmitStart

/-- The calendar's event that is due (R53, R18). -/
def State.radioDue (s : State) : Option Instr :=
  if s.awake then
    match s.dueWindow with
    | some _ => some .windowOrdered
    | none => s.limitWindow.map fun w => .resultLimit w.id
  else none

/-- The timers of a subscription that have expired. -/
def State.subTimers (s : State) (x : Sub) : List (Option Instr) :=
  [whenever (decide ((s.sub x).state = .noService) && expired s.now (s.sub x).retry) (.noServiceRetryExpiry x),
   whenever (expired s.now (s.sub x).regGuard && s.registering x) (.registrationGuardExpiry x),
   (s.sendingEntry x).bind fun e => whenever (e.wait.expired s.now) (.partWaitExpiry x),
   whenever ((s.textOf x).idle.expired s.now) (.idleWaitExpiry x)]

/-- The timer that has expired (R1). -/
def State.timerDue (s : State) : Option Instr :=
  if s.awake then
    (s.subTimers .A ++ s.subTimers .B ++
      [whenever (s.ctx.active.isSome && s.ctx.release.expired s.now) .releaseTimerExpiry,
       whenever (expired s.now s.calls.one.timer) (.callTimerExpiry .one),
       whenever (expired s.now s.calls.two.timer) (.callTimerExpiry .two),
       (s.text.outbox.find? fun e => decide (e.state = .assembling) && expired s.now e.assembly).map
         fun e => .assemblyTimerExpiry e.sub e.reference,
       (s.text.table.find? fun e => e.opened && expired s.now e.age).map
         fun e => .ageTimerExpiry e.sub e.sender e.reference]).findSome? id
  else none

/-- The end of an operation as a command. -/
def StoreOp.endCommand (o : StoreOp) (verified : Bool) : Instr :=
  match o with
  | .write _ _ => .slotProgramEnd verified
  | .keepCopy _ _ _ _ => .slotProgramEnd verified
  | .relocCopy _ _ _ _ => .slotProgramEnd verified
  | .mark _ _ => .markProgramEnd verified
  | .retireMark _ => .markProgramEnd verified
  | .erase _ _ => .blockEraseEnd verified
  | .settings _ _ => .settingsRewriteEnd verified

/-- R154: an operation can start. -/
def State.storeStartDue (s : State) : Option Instr := whenever (s.mayStart && s.store.startable) .storeOperationStart

/-- R130: the frame of a port whose clock and frame sync the part drives. -/
def State.portDue (s : State) : Option Instr := whenever (s.voice.settings.bothDriven && s.portFrameDue) .portFrameStart

/-- The power controller's event that is due (R168, R170, R172, R174, R175). -/
def State.powerDue (s : State) : Option Instr :=
  [whenever s.wakeDue .wakeTimeReached, whenever s.resetReady .requestedReset, whenever s.startUpOver .startupEnd,
   whenever s.restDue .dormantEntry, whenever s.mayDoze .dozeEntry].findSome? id

/-- The first event that is due, with the state it finds. Whether an operation that ends verifies is a free value
(log 4) (DESIGN CHOICE, log 58). -/
def State.nextEvent (s : State) : Option (Instr × State) :=
  match [s.radioDue, s.timerDue, s.dispatchDue, s.sendDue].findSome? id with
  | some c => some (c, s)
  | none =>
    match s.endingOp with
    | some o =>
      let (n, s') := s.draw
      some (o.endCommand (Config.verifies n), s')
    | none => ([s.storeStartDue, s.portDue, s.powerDue].findSome? id).map fun c => (c, s)

/-- One slot of time passes (R1), unless the part is held in reset or DORMANT; the first 20 slots after a reset end (R17). -/
def State.tick (s : State) : State :=
  if s.power.held = true ∨ s.power.state = .dormant then s
  else
    let t := s.now + 1#32
    { s with now := t, cal := { s.cal with quiet := s.cal.quiet && decide (t.toNat < 20) } }

end Sys2Proof.Machine
end

