-- ==== Sys2Proof/WellFormed.lean ====
section
/-! DEFINITION. Well-formed commands: those whose fields a record, a frame of the port or a name in the part can carry. The
meanings do not depend on it: they take ill-formed commands too. -/

namespace Sys2Proof

/-- Octets of an optional field (R185). -/
def optOctets {α : Type} (f : α → Nat) : Option α → Nat
  | some a => 1 + f a
  | none => 1

/-- Octets of a list of channels (R185). -/
def channelOctets (cs : List (BitVec 16)) : Nat := 1 + 2 * cs.length

/-- Octets of a request's fields (R185). -/
def Request.fieldOctets : Request → Nat
  | .identify => 0
  | .reset => 0
  | .powerSet t => optOctets (fun _ => 1) t
  | .subLoad _ _ cs => 5 + channelOctets cs
  | .subAttach _ => 1
  | .subDetach _ => 1
  | .subSet _ g n c => 1 + optOctets (fun _ => 1) g + optOctets (fun _ => 1) n + optOctets channelOctets c
  | .subQuery _ => 1
  | .measQuery => 0
  | .callDial _ d => 2 + d.length
  | .callAnswer _ => 1
  | .callEnd _ => 1
  | .callQuery i => optOctets (fun _ => 1) i
  | .voiceSet a b c d e =>
    optOctets (fun _ => 1) a + optOctets (fun _ => 1) b + optOctets (fun _ => 1) c + optOctets (fun _ => 1) d +
      optOctets (fun _ => 1) e
  | .voiceQuery => 0
  | .textSend _ d _ _ _ b => 7 + d.length + b.length
  | .textCancel _ _ => 2
  | .outboxQuery => 0
  | .storeList _ => 2
  | .storeRead _ _ _ => 5
  | .storeDelete _ => 2
  | .storeKeep _ => 2
  | .storeProtect _ _ _ => 3
  | .storeQuery => 0

/-- R177: the most octets of fields a frame can carry: its length octet counts at most 254, and class, tag and code among
them. -/
def fieldRoom : Nat := 251

/-- A request that one frame can carry. -/
def Request.wellFormed (r : Request) : Bool := decide (r.fieldOctets ≤ fieldRoom)

/-- The octets of POWER_SET that name a target of their own row (R167). -/
def targetNamed (b : Byte) : Bool := decide (b = 0 ∨ b = 1 ∨ b = 2)

/-- The tag and the request of a command that is the dispatch of a request (R180). -/
def Instr.request : Instr → Option (Byte × Request)
  | .identify t => some (t, .identify)
  | .reset t => some (t, .reset)
  | .powerSetDozeOn t => some (t, .powerSet (some 0))
  | .powerSetDozeOff t => some (t, .powerSet (some 1))
  | .powerSetDormant t => some (t, .powerSet (some 2))
  | .powerSetQuery t b => some (t, .powerSet b)
  | .subLoad t x i cs => some (t, .subLoad x i cs)
  | .subAttach t x => some (t, .subAttach x)
  | .subDetach t x => some (t, .subDetach x)
  | .subSet t x g n cs => some (t, .subSet x g n cs)
  | .subQuery t x => some (t, .subQuery x)
  | .measQuery t => some (t, .measQuery)
  | .callDial t x d => some (t, .callDial x d)
  | .callAnswer t i => some (t, .callAnswer i)
  | .callEnd t i => some (t, .callEnd i)
  | .callQuery t i => some (t, .callQuery i)
  | .voiceSet t a b c d e => some (t, .voiceSet a b c d e)
  | .voiceQuery t => some (t, .voiceQuery)
  | .textSend t x d r i l b => some (t, .textSend x d r i l b)
  | .textCancel t x r => some (t, .textCancel x r)
  | .outboxQuery t => some (t, .outboxQuery)
  | .storeList t n => some (t, .storeList n)
  | .storeRead t n o k => some (t, .storeRead n o k)
  | .storeDelete t n => some (t, .storeDelete n)
  | .storeKeep t n => some (t, .storeKeep n)
  | .storeProtect t e c i => some (t, .storeProtect e c i)
  | .storeQuery t => some (t, .storeQuery)
  | .powerOn => none
  | .resetnAsserted => none
  | .resetnReleased => none
  | .startupEnd => none
  | .requestedReset => none
  | .lineBreak => none
  | .characterError => none
  | .lengthDiscard _ => none
  | .receiveGapTimeout => none
  | .requestArrival _ => none
  | .startingReply => none
  | .clrdyAsserted => none
  | .frameTransmitStart => none
  | .frameTransmitEnd => none
  | .dozeEntry => none
  | .wakeTimeReached => none
  | .dormantEntry => none
  | .windowOrdered => none
  | .frontEndResult _ _ => none
  | .resultLimit _ => none
  | .noServiceRetryExpiry _ => none
  | .releaseTimerExpiry => none
  | .registrationGuardExpiry _ => none
  | .callTimerExpiry _ => none
  | .portFrameStart => none
  | .uplinkBlockReceived _ => none
  | .assemblyTimerExpiry _ _ => none
  | .partWaitExpiry _ => none
  | .ageTimerExpiry _ _ _ => none
  | .idleWaitExpiry _ => none
  | .storeOperationStart => none
  | .slotProgramEnd _ => none
  | .markProgramEnd _ => none
  | .blockEraseEnd _ => none
  | .settingsRewriteEnd _ => none
  | .clrdyDeasserted => none
  | .goodOctet _ => none

/-- Octets of a block of speech (R11), and of a frame of the port (R130). -/
def speechOctets : Nat := 20
def portFrameOctets : Nat := 21

/-- A block the front end can have decoded: its speech is a whole block (R11). -/
def FrontEndResult.wellFormed : FrontEndResult → Bool
  | .block (.voice _ octets) _ => decide (octets.length = speechOctets)
  | .block _ _ => true
  | .blockBad _ => true
  | .timing _ _ _ => true
  | .sent => true
  | .sample _ => true

/-- A command that the outside world can bring: a carried request fits a frame, POWER_SET of the query row names no target of
another row, the port's frame and a block of speech are whole, and a reassembly entry is named by what a TEXT_PART can carry. -/
def Instr.wellFormed (c : Instr) : Bool :=
  (match c.request with
    | some (_, r) => r.wellFormed
    | none => true) &&
  match c with
  | .powerSetQuery _ (some b) => !targetNamed b
  | .frontEndResult _ r => r.wellFormed
  | .uplinkBlockReceived octets => decide (octets.length = portFrameOctets)
  | .ageTimerExpiry _ sender reference => decide (1 ≤ sender.length ∧ sender.length ≤ 20 ∧ reference ≤ 255)
  | _ => true

end Sys2Proof
end

