-- ==== Sys2Proof/Safety.lean ====
section
/-! DEFINITION. The terms in which claims are made: a request that can be dispatched and the state that its answer leaves, the
legal states of the blocks, the commands that may change one, and the states that an action shared by several commands leaves. -/

namespace Sys2Proof.Machine

open Sys2Proof

/-! ## Dispatch (R180) -/

/-- A request of an owner can be dispatched: it is the oldest of the inbox, a reply position is free, no reset is on its way,
and the phase is OPERATING. -/
def State.accepts (s : State) (tag : Byte) (r : Request) : Prop :=
  s.mayDispatch = true ∧ s.power.operating = true ∧ s.link.inbox.head? = some { tag := tag, request := r }

/-- No report is left over from an earlier command. -/
def State.quiet (s : State) : Prop := s.reports = []

/-- The state with the oldest request gone from the inbox and one reply more in the queue, stamped now. -/
def State.replied (s : State) (tag code : Byte) (st : Status) (res : Result) : State :=
  { s with
    link := { s.link with
      inbox := s.link.inbox.drop 1
      filled := s.link.filled ++ [{ tag := tag, code := code, status := st, stamp := s.now, result := res, sent := 0 }] } }

/-- The state with the oldest request gone from the inbox, its position reserved until its owner answers. -/
def State.reservedFor (s : State) (tag code : Byte) : State :=
  { s with
    link := { s.link with
      inbox := s.link.inbox.drop 1
      reserved := s.link.reserved ++ [{ ticket := s.link.ticket, tag := tag, code := code }] } }

/-! ## Legal states -/

/-- R167 to R172: DOZE and DORMANT are entered only by a part that has started and is not in reset; DORMANT is pending only in
RUN; a wake time is held only in DOZE; before READY doze is not permitted and DORMANT is not pending. -/
def Power.legal (p : Power) : Prop :=
  (p.state ≠ .run → p.operating = true ∧ p.held = false ∧ p.pending = false) ∧
    (p.wake ≠ none → p.state = .doze) ∧
    (p.operating = false → p.doze = false ∧ p.pending = false)

/-- R178 to R180: the inbox holds at most 4 requests, at most 8 reply positions are not free, and the octets of a frame being
received neither complete it nor break its bounds. R183, law: the notice outbox never holds two entries of one kind and key. -/
def Link.legal (l : Link) : Prop :=
  l.inbox.length ≤ inboxRoom ∧ l.used ≤ replyPositions ∧
    (match l.receiver with
    | .inFrame octets => judge octets = .more
    | .hunting => True
    | .awaiting => True) ∧
    (l.outbox.map fun n => n.snapshot.key).Nodup

/-- No two windows of a calendar conflict (R46). -/
def conflictFree (ws : List Window) : Prop := ws.Pairwise fun a b => conflict a b = false

/-- R47 to R49: no two windows of the calendar conflict, and it holds at most 32. -/
def Calendar.legal (c : Calendar) : Prop := conflictFree c.windows ∧ c.windows.length ≤ calendarRoom

/-- R60: at most 24 entries, each with an index of its own below 24, and no two of one channel and cell code. R62, R112: a
subscription has at most one serving entry. -/
def Meas.legal (m : Meas) : Prop :=
  m.entries.length ≤ tableRoom ∧ (m.entries.map Entry.index).Nodup ∧ (m.entries.map Entry.cell).Nodup ∧
    (∀ e ∈ m.entries, e.index < tableRoom) ∧
    ∀ x, ∀ e ∈ m.entries, ∀ f ∈ m.entries, e.serving.get x = true → f.serving.get x = true → e.index = f.index

/-- R122: each voice ring holds at most 16 blocks. -/
def Voice.legal (v : Voice) : Prop := v.down.length ≤ ringRoom ∧ v.up.length ≤ ringRoom

/-- R134, R135: at most 8 outbox entries, no two of one subscription and reference. R144: at most 4 reassembly entries, no two of
one subscription, sender and reference, and at most 4 recent records. R145, R147: the parts of a reassembly entry stand in index
order, and it holds each index once. -/
def Text.legal (t : Text) : Prop :=
  t.outbox.length ≤ outEntries ∧ (t.outbox.map fun e => (e.sub, e.reference)).Nodup ∧
    t.table.length ≤ tableEntries ∧ (t.table.map fun e => (e.sub, e.sender, e.reference)).Nodup ∧
    t.recent.length ≤ tableEntries ∧ ∀ e ∈ t.table, (e.parts.map Prod.fst).Pairwise (· < ·)

/-- R152, R151: the index gives each of the 8 slots of each of the 16 blocks one state, and the memory holds these slots. -/
def Store.legal (st : Store) : Prop :=
  st.index.length = 16 ∧ (∀ row ∈ st.index, row.length = 8) ∧
    st.flash.blocks.length = 16 ∧ ∀ b ∈ st.flash.blocks, b.cells.length = 8

/-- R34, law: a subscription is ENGAGED exactly while it holds the dedicated radio, and the queue holds one request of each
subscription at most. R36: a running connection is the one of the subscription that is ENGAGED. -/
def State.engagedLegal (s : State) : Prop :=
  (∀ x, (s.sub x).state = .engaged ↔ ∃ e, s.engaged = some e ∧ e.sub = x) ∧
    (s.engQueue.map EngRequest.sub).Nodup ∧
    ∀ c, s.ctx.active = some c → s.engaged = some { sub := c.sub, stage := .connected }

/-- R90, law: a CONNECTED record belongs to the running connection, and is the call of that connection. -/
def State.callsLegal (s : State) : Prop :=
  ∀ i, (s.call i).state = .connected → ∃ x, (s.call i).sub = some x ∧ (s.connection x).isSome = true ∧ s.callOf x = some i

/-- R105: the uplink queue holds at most 4 messages. R109, law: the FALLBACK record exists only while MOVING, beside an ACTIVE
record of the same subscription whose counter is absent; no DED window of a frame runs in a handover. -/
def CtxUnit.legal (c : CtxUnit) : Prop :=
  c.queue.length ≤ queueRoom ∧
    (∀ old, c.spare = some old →
      (∃ a, c.handover = .moving a) ∧ ∃ new, c.active = some new ∧ new.sub = old.sub ∧ new.counter = none) ∧
    (c.handover ≠ .none → c.frames = [])

/-- R66: the mode is DEDICATED or PAUSED only for the subscription of the running connection, and PAUSED exactly while a handover of
it is in flight; without a round to run, in NONE and PAUSED, there is none. -/
def State.modesLegal (s : State) : Prop :=
  ∀ x, ((s.measOf x).mode = .dedicated → (s.connection x).isSome = true ∧ s.ctx.handover = .none) ∧
    ((s.measOf x).mode = .paused ↔ (s.connection x).isSome = true ∧ s.ctx.handover ≠ .none) ∧
    ((s.measOf x).mode = .none ∨ (s.measOf x).mode = .paused → (s.measOf x).rounds = [])

/-- Every block stands in a legal state. -/
def State.legal (s : State) : Prop :=
  s.power.legal ∧ s.link.legal ∧ s.cal.legal ∧ s.meas.legal ∧ s.voice.legal ∧ s.text.legal ∧ s.store.legal ∧
    s.ctx.legal ∧ s.engagedLegal ∧ s.callsLegal ∧ s.modesLegal

/-! ## What the store's examinations may change (R161, R166) -/

/-- The reclaim in progress has a message to move and no slot to move it to, and none of its steps stands: the store abandons
it when it examines what it has (R162). -/
def Store.stuck (st : Store) : Prop :=
  ∃ b, st.reclaim = some b ∧ st.stepping = false ∧ st.toMove b ≠ [] ∧ st.usableCount = 0

/-- The state t is the state s but for the examinations the store makes after a change, when its reclaim is not stuck: whether
it has room (SPACE), a reclaim begun when none was in progress, one step of a reclaim that joins the queue when none stood
(log 81), and the STORE notice that tells of them. -/
def State.examined (s t : State) : Prop :=
  t = { s with
    store := { s.store with roomy := t.store.roomy, reclaim := t.store.reclaim, queue := t.store.queue }
    link := { s.link with outbox := t.link.outbox } } ∧
  (s.store.reclaim ≠ none → t.store.reclaim = s.store.reclaim) ∧
  (t.store.queue = s.store.queue ∨
    (s.store.stepping = false ∧ ∃ o, o.isStep = true ∧ t.store.queue = s.store.queue ++ [o])) ∧
  ∀ n : Notice, n.snapshot.key ≠ (NoticeKind.store, 0) → (n ∈ t.link.outbox ↔ n ∈ s.link.outbox)

/-- R157, R166: the state in which the running program or mark o of a slot has failed: the slot is RETIRED, what o left in the
memory is the next free value (log 3), and a STORE notice tells of it with FAULT. -/
def State.failedAt (s : State) (o : StoreOp) (p : SlotId) : State :=
  let t : State := { s with
    draws := s.draws + 1
    store := { ((s.store.leave o (Config.leftover s.draws).val false).setState p .retired) with running := none } }
  { t with link := { t.link with outbox := postIn t.storeSnapshot 4 t.link.outbox } }

/-- R180: the state in which a reserved position has been filled with an answer that carries no result. -/
def State.filledBy (s : State) (before : List Reserved) (r : Reserved) (after : List Reserved) (st : Status) : State :=
  { s with
    link := { s.link with
      reserved := before ++ after
      filled := s.link.filled ++
        [{ tag := r.tag, code := r.code, status := st, stamp := s.now, result := .none, sent := 0 }] } }

/-! ## Purposes (R16, R95) -/

/-- R16: the state in which a purpose has left a running connection. With none remaining, DONE is queued, unless it has been sent or
is queued already. -/
def State.leftBy (s : State) (c : Context) (p : Purpose) : State :=
  let rest := c.purposes.filter fun q => decide (q ≠ p)
  let t : State := { s with ctx := { s.ctx with active := some { c with purposes := rest } } }
  if rest = [] ∧ s.ctx.doneSent = false ∧ ∀ q ∈ s.ctx.queue ++ s.ctx.waiting, q.msg ≠ .done then t.offer .done else t

/-- R137, R139: the state in which a READY outbox entry has become SENDING and its first part has been offered. -/
def State.sendingNow (s : State) (e : OutEntry) : State :=
  { s with
    text := { s.text with outbox := s.text.outbox.map fun f =>
      if f.sub = e.sub ∧ f.reference = e.reference then { e with state := .sending, part := some 1, sends := 1 } else f }
    ctx := { (s.offer (.textPart e.reference.toNat 1 (e.count.getD 0) e.destination (e.parts.head?.getD []))).ctx with
      textBegun := true } }

/-- R82, R102: the state in which a call record has been changed and a CALL notice posted. -/
def State.callTold (s : State) (i : CallId) (r : CallRec) (flags : BitVec 16) : State :=
  let t : State := { s with calls := (s.setCall i r).calls }
  { t with link := { t.link with outbox := postIn (t.callSnapshot i) flags t.link.outbox } }

/-- R82, R91: the state in which a call record is FREE with a cause, the voice port stopped when it was CONNECTED, and its CALL
purpose has left what holds it. -/
def State.callFreed (s : State) (x : Sub) (i : CallId) (c : CallCause) : State :=
  let r := s.call i
  (({ s with voice := if r.state = .connected then s.voice.stop else s.voice } : State).callTold i
    { r with state := .free, cause := some c, moving := false, ringWaits := false, timer := none } 1).callGone x

/-- R137: the entry of a subscription that is sent next: the READY one that became READY first. -/
def State.readyFirst (s : State) (x : Sub) (e : OutEntry) : Prop :=
  e ∈ s.text.outbox ∧ e.sub = x ∧ e.state = .ready ∧
    ∀ f ∈ s.text.outbox, f.sub = x → f.state = .ready → f ≠ e → e.order < f.order

/-- R95: the engagement queue after a purpose of a subscription has left it: a request without purposes goes. -/
def queueWithout (x : Sub) (p : Purpose) (qs : List EngRequest) : List EngRequest :=
  (qs.map fun q => if q.sub = x then { q with purposes := q.purposes.filter fun r => decide (r ≠ p) } else q).filter
    fun q => decide (q.purposes ≠ [])

/-- A list of purposes that one has joined. -/
def withPurpose (p : Purpose) (ps : List Purpose) : List Purpose := if p ∈ ps then ps else ps ++ [p]

/-- R34: the engagement queue after a purpose of a subscription has joined it: its request, or a new one made at a moment. -/
def queueWith (x : Sub) (p : Purpose) (page : Bool) (moment : Nat) (qs : List EngRequest) : List EngRequest :=
  if ∃ q ∈ qs, q.sub = x then
    qs.map fun q => if q.sub = x then { q with purposes := withPurpose p q.purposes, pageReply := q.pageReply || page } else q
  else qs ++ [{ sub := x, purposes := [p], pageReply := page, moment := moment }]

/-- R34: the state in which a purpose of a subscription has joined the engagement queue. -/
def State.queuedFor (s : State) (x : Sub) (p : Purpose) (page : Bool) : State :=
  { s with
    engQueue := queueWith x p page s.moments s.engQueue
    moments := if ∃ q ∈ s.engQueue, q.sub = x then s.moments else s.moments + 1 }

/-- R16: the state in which a purpose has joined a running connection: an unsent DONE has left its queue. -/
def State.joinedBy (s : State) (c : Context) (p : Purpose) : State :=
  ({ s with ctx := { s.ctx with active := some { c with purposes := withPurpose p c.purposes } } } : State).removeMsgs
    UpMsg.isDone

/-! ## Access attempts (R9, R35) -/

/-- The PLANNED windows of a subscription controller, each of one of some purposes, are all the calendar holds. -/
def State.holdsOnly (s : State) (x : Sub) (ps : List WinPurpose) : Prop :=
  ∀ w ∈ s.cal.windows, w.owner = .sub x ∧ w.reporter = .subscription ∧ w.state = .planned ∧ w.purpose ∈ ps

/-- R37: a subscription's connection has ended and its camped cell is being read once more. -/
def State.confirms (s : State) (x : Sub) : Bool :=
  match s.engaged with
  | some { sub := y, stage := .confirming _ _ } => decide (y = x)
  | _ => false

/-- What narrows a grant to the attempt it opens: a camped cell and no search, an anchor in the past and no silence after a reset,
no request of the other subscription, no connection, and a measurement unit at rest. -/
def State.grantsAlone (s : State) (x : Sub) (k : CampedCell) : Prop :=
  (s.sub x).camped = some k ∧ (s.sub x).search = .none ∧ s.cal.quiet = false ∧
    (s.now + 3 - (k.anchor.s0 + 8)).toNat < 2 ^ 31 ∧ (∀ q ∈ s.engQueue, q.sub = x) ∧ s.connection x = none ∧
    (∀ y, (s.measOf y).rounds = []) ∧ (s.measOf x).resel = .none

/-- R9: a slot is slot 8 of the first frame, with number f by an anchor, whose slot 8 lies at least 3 slots ahead. -/
def burstSlot (a : Anchor) (now start : Slot) (f : FrameNo) : Prop :=
  3 ≤ (start - now).toNat ∧ (start - now).toNat ≤ 12 ∧ (start - a.s0).toNat % 10 = 8 ∧
    f = a.f0 + BitVec.ofNat 16 ((start - a.s0).toNat / 10)

/-- The measurement unit with a subscription's mode NONE and nothing kept for one. -/
def State.unmeasured (s : State) (x : Sub) : Meas :=
  { s.meas with
    subs := s.meas.subs.set x { s.measOf x with mode := .none, sinceReport := none, evaluations := 0, dedWindows := [] } }

/-- R9, R35: the state in which a subscription camped on k has been granted the radio for one purpose: it is ENGAGED in an attempt,
whose first burst stands at a slot in frame f and is all the calendar holds. -/
def State.attempting (s : State) (x : Sub) (k : CampedCell) (p : Purpose) (burst : AccessPurpose) (start : Slot) (f : FrameNo) :
    State :=
  { s with
    subs := s.subs.set x { s.sub x with state := .engaged, page := none, refresh := none, target := none }
    engQueue := [], moments := s.moments + 1, draws := s.draws + 1
    engaged := some {
      sub := x
      stage := .attempt {
        purposes := [p], pageReply := decide (burst = .pageReply), burst := burst, reference := Config.reference s.draws
        placed := 1, tx := some (s.cal.counter, f), watches := [] } }
    meas := s.unmeasured x
    cal := { s.cal with
      counter := s.cal.counter + 1
      windows := [{
        id := s.cal.counter, owner := .sub x, reporter := .subscription, purpose := .accessTx, cls := .access
        channel := k.cell.channel, start := start, len := 1, requested := start, slack := none
        block := some (.burst burst (Config.reference s.draws)), state := .planned, withdrawn := false }] } }

/-! ## Windows -/

/-- R24, R43: the SEARCH windows of a subscription's search that begins at a slot, the first with a given identity: one of each
channel, in list order, 3 slots ahead and 2 apart. -/
def searchWindows (first : WinId) (now : Slot) (x : Sub) (channels : List Nat) : List Window :=
  channels.zipIdx.map fun p =>
    { id := first + BitVec.ofNat 32 p.2, owner := .sub x, reporter := .subscription, purpose := .search, cls := .search
      channel := p.1, start := slotAdd now (3 + 2 * p.2), len := 1, requested := slotAdd now (3 + 2 * p.2), slack := some 8
      block := none, state := .planned, withdrawn := false }

/-- R43: the BEACON_RX window that a subscription's search or camp inserts, with the identity it draws. -/
def beaconWindow (id : WinId) (x : Sub) (channel : Nat) (start : Slot) (len : Nat) : Window :=
  { id := id, owner := .sub x, reporter := .subscription, purpose := .beaconRx, cls := .beacon, channel := channel, start := start
    len := len, requested := start, slack := none, block := none, state := .planned, withdrawn := false }

/-- The state in which a subscription's search stands at a step and one BEACON_RX window is all the calendar holds. -/
def State.searchesBy (s : State) (x : Sub) (step : Search) (channel : Nat) (start : Slot) (len : Nat) : State :=
  { s with
    subs := s.subs.set x { s.sub x with search := step }
    cal := { s.cal with
      counter := s.cal.counter + 1, windows := [beaconWindow s.cal.counter x channel start len] } }

/-- R25, R26: the state in which the channel at a position of a scan list is tried, here with an empty calendar: its acquisition
is planned 3 slots ahead. Past the last channel the scan is exhausted: NO_SERVICE with reason NO_CELL and the retry timer of
60,000 slots. -/
def State.triesChannel (s : State) (x : Sub) (scan : List (Nat × Nat)) (position : Nat) : State :=
  match scan[position]? with
  | some (channel, _) => s.searchesBy x (.acquiring scan position s.cal.counter false) channel (s.now + 3) 10
  | none =>
    let t : State := { s with
      subs := s.subs.set x { s.sub x with
        state := .noService, reason := some .noCell, search := .none, retry := some (slotAdd s.now 60000) } }
    { t with link := { t.link with outbox := postIn (t.subSnapshot x) 1 t.link.outbox } }

/-! ## Contests of the calendar (R44, R47 to R51) -/

/-- R44: the classes, the highest first. -/
def classOrder : List Class := [.access, .pageStarved, .dedicated, .page, .beacon, .meas, .search]

/-- Class c is above class d. -/
def Class.above (c d : Class) : Prop := classOrder.idxOf c < classOrder.idxOf d

/-- R48: a start slot, m slots after the requested start, that a movable window may be moved to: later than the one it has, and
within its slack. -/
def Window.mayMoveTo (w : Window) (m : Nat) : Prop :=
  ∃ k, w.slack = some k ∧ m ≤ 10 * k ∧ (w.start - w.requested).toNat < m

/-- The window at a start slot m slots after its requested start. -/
def Window.movedTo (w : Window) (m : Nat) : Window := { w with start := w.requested + BitVec.ofNat 32 m }

/-- R48: window v is w at the earliest start slot it may be moved to that conflicts with none of some windows. -/
def Window.movesTo (w : Window) (ws : List Window) (v : Window) : Prop :=
  ∃ m, w.mayMoveTo m ∧ v = w.movedTo m ∧ (∀ u ∈ ws, conflict v u = false) ∧
    ∀ n < m, w.mayMoveTo n → ∃ u ∈ ws, conflict (w.movedTo n) u = true

/-- R48: a window has no place to be moved to. -/
def Window.noPlace (w : Window) (ws : List Window) : Prop := ∀ n, w.mayMoveTo n → ∃ u ∈ ws, conflict (w.movedTo n) u = true

/-- The cause for a window that could not stay and was not re-placed (R51): NO_PLACE for a movable one. -/
def Window.lostBy (w : Window) (cause : SkipCause) : SkipCause := if w.slack = none then cause else .noPlace

/-- R48, R51: what becomes of windows that a newcomer displaces, one after another, beside the windows of a calendar: the windows
then in it, and the skips. -/
def displaced (newcomer : Window) : List Window → List Window → List Window → List Skip → Prop
  | [], ws, out, skips => (∀ u, u ∈ out ↔ u ∈ ws) ∧ out.length = ws.length ∧ skips = []
  | r :: rest, ws, out, skips =>
    (∃ v, r.movesTo (newcomer :: ws) v ∧ displaced newcomer rest (v :: ws) out skips) ∨
      (r.noPlace (newcomer :: ws) ∧ ∃ more, displaced newcomer rest ws out more ∧
        skips = { window := r, cause := r.lostBy .displaced, winner := some newcomer.cls } :: more)

/-- R49: window v is taken before window w from a full calendar: of a lower class, or a later start, or a newer identity. -/
def Window.goesBefore (v w : Window) : Prop :=
  w.cls.above v.cls ∨
    (v.cls = w.cls ∧
      ((v.start - (w.start + 1)).toNat < 2 ^ 31 - 1 ∨ (v.start = w.start ∧ (v.id - (w.id + 1)).toNat < 2 ^ 31 - 1)))

/-- R49, R51: a window is placed beside the windows of a calendar of 32 at most, after some skips: what the calendar then holds, and
the skips. -/
def placedIn (w : Window) (ws : List Window) (skips : List Skip) (res : List Window × List Skip) : Prop :=
  (ws.length < 32 → (∀ u, u ∈ res.1 ↔ u = w ∨ u ∈ ws) ∧ res.2 = skips) ∧
    (32 ≤ ws.length → (∀ u ∈ ws, u.state ≠ .planned) →
      res.1 = ws ∧ res.2 = skips ++ [{ window := w, cause := .full, winner := none }]) ∧
    ∀ v ∈ ws, 32 ≤ ws.length → v.state = .planned → (∀ u ∈ ws, u.state = .planned → u ≠ v → v.goesBefore u) →
      (¬w.cls.above v.cls → res.1 = ws ∧ res.2 = skips ++ [{ window := w, cause := .full, winner := none }]) ∧
        (w.cls.above v.cls → (∀ u, u ∈ res.1 ↔ u = w ∨ (u ∈ ws ∧ u ≠ v)) ∧
          ∃ pre post, skips = pre ++ post ∧ res.2 = pre ++ { window := v, cause := .evicted, winner := none } :: post ∧
            (∀ k ∈ pre, before v k.window = false) ∧ ∀ k, post.head? = some k → before v k.window = true)

/-! ## Who may change what -/

/-- The commands by which the power controller's state changes (R167 to R175): resets and start-up, a break, a RESET or a
POWER_SET that asks for it, CLRDY, the end of a frame (the RESET reply), and the power controller's own events. -/
def Instr.movesPower : Instr → Bool
  | .powerOn => true
  | .resetnAsserted => true
  | .resetnReleased => true
  | .startupEnd => true
  | .requestedReset => true
  | .lineBreak => true
  | .reset _ => true
  | .powerSetDozeOn _ => true
  | .powerSetDozeOff _ => true
  | .powerSetDormant _ => true
  | .clrdyAsserted => true
  | .frameTransmitEnd => true
  | .dozeEntry => true
  | .wakeTimeReached => true
  | .dormantEntry => true
  | _ => false

/-- The commands by which the non-volatile memory changes (R151, R157, R164): the ends of the store's operations, and the
resets that cut one. -/
def Instr.writesMemory : Instr → Bool
  | .powerOn => true
  | .resetnAsserted => true
  | .slotProgramEnd _ => true
  | .markProgramEnd _ => true
  | .blockEraseEnd _ => true
  | .settingsRewriteEnd _ => true
  | _ => false

/-- The commands after which the slot counter starts from 0 (R1, R173 to R175). -/
def Instr.restartsTime : Instr → Bool
  | .powerOn => true
  | .resetnAsserted => true
  | .resetnReleased => true
  | .requestedReset => true
  | _ => false

end Sys2Proof.Machine
end

