-- ==== Sys2Proof/Certificates/Slice0/Obligations.lean ====
section
/-! DEFINITION. The statements for the provers. -/

open Sys2Proof Sys2Proof.Machine

/-! ## The machine as a whole -/

/-- MODEL (log 8): one step with commands waiting runs the command at the front of the queue on the state with the queue's rest.
-/
def Obligations.StepRunsTheFrontCommand : Prop :=
  ∀ (c : Instr) (rest : List Instr) (s : State), s.pending = c :: rest → step s = exec c { s with pending := rest }

/-- R1, with the model's choice that time passes on an empty queue (log 8): when no command waits and no event is due, a step lets
one slot pass in RUN and DOZE, and none while the part is held in reset or DORMANT. Nothing else changes but the mark that the
first 20 slots after a reset are not over (R17), which ends when the counter reaches 20. -/
def Obligations.AnIdleStepLetsOneSlotPass : Prop :=
  ∀ s : State, s.pending = [] → s.nextEvent = none →
    ((s.power.held = true ∨ s.power.state = .dormant) → step s = .next s) ∧
    (s.power.held = false → s.power.state ≠ .dormant →
      step s = .next { s with
        now := s.now + 1, cal := { s.cal with quiet := s.cal.quiet && decide ((s.now + 1).toNat < 20) } })

/-- Every command has a next state, and its effect leaves the queue of waiting commands as it is. That an event which is not due
does nothing is the model's choice (log 16). -/
def Obligations.EveryCommandCompletesAndLeavesTheQueue : Prop :=
  ∀ (c : Instr) (s : State), ∃ t : State, exec c s = .next t ∧ t.pending = s.pending

/-- The power controller's state is changed by its own commands only: whatever the other blocks do on a command, the power state,
doze permission, DORMANT pending, the wake time, the phase and the reset kind stand. -/
def Obligations.OnlyItsOwnCommandsMoveThePowerController : Prop :=
  ∀ (c : Instr) (s t : State), Instr.movesPower c = false → exec c s = .next t → t.power = s.power

/-- The non-volatile memory changes only at the end of a store operation and at a reset that may cut one. -/
def Obligations.OnlyStoreOperationsChangeTheMemory : Prop :=
  ∀ (c : Instr) (s t : State), Instr.writesMemory c = false → exec c s = .next t → t.store.flash = s.store.flash

/-- MODEL (log 8): no command lets time pass; the slot counter stands but for the resets, after which it starts from 0 (R1). -/
def Obligations.CommandsTakeNoTime : Prop :=
  ∀ (c : Instr) (s t : State), Instr.restartsTime c = false → exec c s = .next t → t.now = s.now

/-- Every step from a state in which every block is legal leads to such a state again. Legal means: DOZE and DORMANT only for a
part that has started, a wake time only in DOZE; at most 4 requests waiting, at most 8 reply positions in use, no finished frame
left in the receiver, and no two outbox entries of one kind and key (R183); at most 32 windows in the calendar, none in conflict
with another (R46 to R49); at most 24 neighbour entries, no two of one index or cell (R60); at most 16 blocks in each voice ring
(R122), and at most one serving entry of each subscription (R62); at most 4 reassembly entries, no two of one subscription, sender
and reference (R144), the parts of each in index order, each index once (R147); one state for each of the 128 slots (R152); the
mode DEDICATED or PAUSED only for the subscription of the running connection, PAUSED exactly in its handover, and no round without
a mode that runs one (R66); at most 4 messages in the uplink queue (R105), and a FALLBACK record only while MOVING (R109); the
dedicated radio held by the subscription that is ENGAGED, and a CONNECTED record only as the call of the running connection. It
follows that at most one subscription is ENGAGED (R34), and that at most one record is CONNECTED, on the ENGAGED subscription
(R90). -/
def Obligations.StepsKeepTheStateLegal : Prop :=
  (∀ s t : State, s.legal → step s = .next t → t.legal) ∧
  ∀ s : State, s.legal →
    ¬((s.sub .A).state = .engaged ∧ (s.sub .B).state = .engaged) ∧
    ¬((s.call .one).state = .connected ∧ (s.call .two).state = .connected) ∧
    ∀ i x, (s.call i).state = .connected → (s.call i).sub = some x → (s.sub x).state = .engaged

/-- The state after power-on is legal in every block. -/
def Obligations.TheResetStateIsLegal : Prop := State.reset.legal

/-! ## Requests as octets (R179, R185) -/

/-- R185: a request that one frame can carry is read back from the octets that spell it. -/
def Obligations.RequestsAreReadBack : Prop :=
  ∀ r : Request, r.wellFormed = true → parseRequest (requestCode r) (encodeRequest r) = some r

/-- R179: a code and fields are read as a request only when they are that request's own code and the octets that spell it, so no
bit of an accepted request is dropped, and nothing is accepted in two spellings. That a digit string is read by its count,
whatever the count is, is the model's reading (log 18). -/
def Obligations.NothingElseSpellsARequest : Prop :=
  ∀ (code : Byte) (fields : List Byte) (r : Request), parseRequest code fields = some r →
    code = requestCode r ∧ fields = encodeRequest r

/-- R180: the command that dispatches a waiting request carries the request's own tag and fields, and is well-formed when the
request is. -/
def Obligations.ARequestIsDispatchedByItsOwnCommand : Prop :=
  ∀ q : Tagged, q.command.request = some (q.tag, q.request) ∧
    (q.request.wellFormed = true → q.command.wellFormed = true)

/-! ## The receiver (R178, R179, R186) -/

/-- R178: GOOD_OCTET. Between frames an octet 0xC3 begins a frame and any other is skipped; awaiting a frame, an octet other than
0xC3 leaves the receiver HUNTING; in a frame, an octet that neither completes the frame nor breaks its bounds is stored. Nothing
else changes. -/
def Obligations.AnOctetIsSkippedBeginsAFrameOrIsStored : Prop :=
  ∀ (o : Byte) (s : State), s.awake = true → s.quiet →
    ((s.link.receiver = .hunting ∨ s.link.receiver = .awaiting) →
      exec (.goodOctet o) s =
        .next { s with link := { s.link with receiver := if o = 0xC3 then .inFrame [] else .hunting } }) ∧
    (∀ octets, s.link.receiver = .inFrame octets →
      (octets = [] → 3 ≤ o.toNat) →
      (∀ (n : Byte) (rest : List Byte), octets = n :: rest →
        rest.length + 1 ≠ n.toNat ∧ (n = 255 → rest.length + 1 < 254)) →
      exec (.goodOctet o) s = .next { s with link := { s.link with receiver := .inFrame (octets ++ [o]) } })

/-- R178, R186: LENGTH_DISCARD. A length octet below 3, and the 254th octet after a length octet of 255, discard the frame: the
receiver is HUNTING, the LENGTH count rises by 1 up to 255, and a LINK notice is posted with the change flag LENGTH. Nothing else
changes. -/
def Obligations.AFrameOfABadLengthIsDiscarded : Prop :=
  ∀ (o : Byte) (octets : List Byte) (s : State), s.awake = true → s.quiet → s.link.receiver = .inFrame octets →
    ((octets = [] ∧ o.toNat < 3) ∨ (∃ rest : List Byte, octets = 255 :: rest ∧ rest.length = 253)) →
    exec (.lengthDiscard o) s =
      .next { s with
        link := { s.link with
          receiver := .hunting
          counts := { s.link.counts with length := min (s.link.counts.length + 1) 255 }
          outbox := postIn (.link s.link.counts.gap s.link.counts.cut s.link.counts.badChar
            (min (s.link.counts.length + 1) 255) s.link.counts.overrun) 8 s.link.outbox } }

/-- R179, R178, R186: REQUEST_ARRIVAL. The octet that completes a frame hands it on and leaves the receiver HUNTING. A frame of a
request's class whose code and fields spell a request joins the inbox when one of its 4 places is free, and is answered BUSY
otherwise; any other frame is answered MALFORMED. An answer takes a free position of the reply queue; with none free the frame is
dropped, the OVERRUN count rises by 1 up to 255, and a LINK notice is posted with the change flag OVERRUN. -/
def Obligations.ACompleteFrameIsAdmittedAnsweredOrDropped : Prop :=
  ∀ (o n cls tag code : Byte) (octets fields : List Byte) (s : State), s.awake = true → s.quiet →
    s.link.receiver = .inFrame octets → octets ++ [o] = n :: cls :: tag :: code :: fields →
    n.toNat = fields.length + 3 → n ≠ 255 →
    (∀ r : Request, cls = 0x01 → parseRequest code fields = some r → s.link.inbox.length < 4 →
      exec (.requestArrival o) s = .next { s with
        link := { s.link with receiver := .hunting, inbox := s.link.inbox ++ [{ tag := tag, request := r }] } }) ∧
    (s.link.reserved.length + s.link.filled.length < 8 →
      (∀ r : Request, cls = 0x01 → parseRequest code fields = some r → 4 ≤ s.link.inbox.length →
        exec (.requestArrival o) s = .next { s with
          link := { s.link with
            receiver := .hunting
            filled := s.link.filled ++
              [{ tag := tag, code := code, status := .busy, stamp := s.now, result := .none, sent := 0 }] } }) ∧
      (cls ≠ 0x01 ∨ parseRequest code fields = none →
        exec (.requestArrival o) s = .next { s with
          link := { s.link with
            receiver := .hunting
            filled := s.link.filled ++
              [{ tag := tag, code := code, status := .malformed, stamp := s.now, result := .none, sent := 0 }] } })) ∧
    (8 ≤ s.link.reserved.length + s.link.filled.length →
      (cls ≠ 0x01 ∨ parseRequest code fields = none ∨ 4 ≤ s.link.inbox.length) →
      exec (.requestArrival o) s = .next { s with
        link := { s.link with
          receiver := .hunting
          counts := { s.link.counts with overrun := min (s.link.counts.overrun + 1) 255 }
          outbox := postIn (.link s.link.counts.gap s.link.counts.cut s.link.counts.badChar s.link.counts.length
            (min (s.link.counts.overrun + 1) 255)) 16 s.link.outbox } })

/-- R178, R186: CHARACTER_ERROR and RECEIVE_GAP_TIMEOUT. Outside a frame they leave the receiver HUNTING and change nothing else.
In a frame the frame is discarded: the receiver is HUNTING, the BAD_CHAR or the GAP count rises by 1 up to 255, and a LINK notice
is posted with that change flag. -/
def Obligations.ACharacterErrorOrAGapLosesThePartialFrame : Prop :=
  ∀ s : State, s.awake = true → s.quiet →
    ((s.link.receiver = .hunting ∨ s.link.receiver = .awaiting) →
      exec .characterError s = .next { s with link := { s.link with receiver := .hunting } } ∧
      exec .receiveGapTimeout s = .next { s with link := { s.link with receiver := .hunting } }) ∧
    (∀ octets, s.link.receiver = .inFrame octets →
      exec .characterError s = .next { s with
        link := { s.link with
          receiver := .hunting
          counts := { s.link.counts with badChar := min (s.link.counts.badChar + 1) 255 }
          outbox := postIn (.link s.link.counts.gap s.link.counts.cut (min (s.link.counts.badChar + 1) 255)
            s.link.counts.length s.link.counts.overrun) 4 s.link.outbox } } ∧
      exec .receiveGapTimeout s = .next { s with
        link := { s.link with
          receiver := .hunting
          counts := { s.link.counts with gap := min (s.link.counts.gap + 1) 255 }
          outbox := postIn (.link (min (s.link.counts.gap + 1) 255) s.link.counts.cut s.link.counts.badChar
            s.link.counts.length s.link.counts.overrun) 1 s.link.outbox } })

/-- R178, R170 to R172, R186: BREAK, on a part that is neither in reset nor stopped for one. The part is in RUN without a wake
time, DORMANT is not pending, and the receiver awaits a frame. A partial frame is discarded: the CUT count rises by 1 up to 255,
and a LINK notice is posted with the change flag CUT. Nothing else changes. -/
def Obligations.ABreakWakesThePart : Prop :=
  ∀ s : State, s.power.held = false → s.power.wait ≠ .stopping → s.quiet →
    ((s.link.receiver = .hunting ∨ s.link.receiver = .awaiting) →
      exec .lineBreak s = .next { s with
        power := { s.power with state := .run, wake := none, pending := false }
        link := { s.link with receiver := .awaiting } }) ∧
    (∀ octets, s.link.receiver = .inFrame octets →
      exec .lineBreak s = .next { s with
        power := { s.power with state := .run, wake := none, pending := false }
        link := { s.link with
          receiver := .awaiting
          counts := { s.link.counts with cut := min (s.link.counts.cut + 1) 255 }
          outbox := postIn (.link s.link.counts.gap (min (s.link.counts.cut + 1) 255) s.link.counts.badChar
            s.link.counts.length s.link.counts.overrun) 2 s.link.outbox } })

/-! ## Requests answered by the link and by the power controller (R167, R171, R174, R175, R184) -/

/-- R175, R184: STARTING_REPLY and IDENTIFY. While the phase is STARTING the oldest request of the inbox, IDENTIFY apart, is
answered STARTING. IDENTIFY is answered DONE in either phase, with the revision, the phase and the reset kind. Nothing else
changes. -/
def Obligations.RequestsWhileStartingAndIdentify : Prop :=
  (∀ (q : Tagged) (s : State), s.mayDispatch = true → s.power.operating = false → s.link.inbox.head? = some q →
    q.request ≠ .identify → s.quiet →
    exec .startingReply s = .next (s.replied q.tag (requestCode q.request) .starting .none)) ∧
  (∀ (tag : Byte) (s : State), s.mayDispatch = true → s.link.inbox.head? = some { tag := tag, request := .identify } →
    s.quiet →
    exec (.identify tag) s = .next (s.replied tag 0x01 .done
      (.identity (BitVec.ofNat 8 (Config.revision.val + 1)) s.power.operating s.power.kind)))

/-- R174, R171: RESET is answered DONE, clears DORMANT pending, and from then no request is dispatched until the reset. -/
def Obligations.AResetRequestStopsTheDispatch : Prop :=
  ∀ (tag : Byte) (s : State), s.accepts tag .reset → s.quiet →
    ∃ t : State, exec (.reset tag) s = .next t ∧
      t = { s.replied tag 0x02 .done .none with power := { s.power with pending := false, wait := .replying } } ∧
      t.mayDispatch = false

/-- R167: POWER_SET with target DOZE_ON or DOZE_OFF sets or clears the doze permission; without a target it changes nothing; in
each case the reply is DONE and shows the power state, the doze permission and DORMANT pending as they then stand. A target octet
that names no target is answered BAD_VALUE and nothing changes. -/
def Obligations.PowerSetSetsTheDozePermission : Prop :=
  ∀ (tag : Byte) (s : State), s.quiet →
    (s.accepts tag (.powerSet (some 0)) →
      exec (.powerSetDozeOn tag) s = .next
        { s.replied tag 0x03 .done (.power s.power.state true s.power.pending) with power := { s.power with doze := true } }) ∧
    (s.accepts tag (.powerSet (some 1)) →
      exec (.powerSetDozeOff tag) s = .next
        { s.replied tag 0x03 .done (.power s.power.state false s.power.pending) with
          power := { s.power with doze := false } }) ∧
    (s.accepts tag (.powerSet none) →
      exec (.powerSetQuery tag none) s =
        .next (s.replied tag 0x03 .done (.power s.power.state s.power.doze s.power.pending))) ∧
    (∀ b : Byte, 3 ≤ b.toNat → s.accepts tag (.powerSet (some b)) →
      exec (.powerSetQuery tag (some b)) s = .next (s.replied tag 0x03 .badValue .none))

/-- R171: POWER_SET with target DORMANT sets DORMANT pending and is answered DONE when both subscription records are EMPTY or
DETACHED and the store is idle, and when DORMANT is pending already; otherwise it is answered WRONG_STATE and nothing changes. -/
def Obligations.PowerSetDormantNeedsAnIdlePart : Prop :=
  ∀ (tag : Byte) (s : State), s.accepts tag (.powerSet (some 2)) → s.quiet →
    ((s.power.pending = true ∨
        ((∀ x, (s.sub x).state = .empty ∨ (s.sub x).state = .detached) ∧
          s.store.running = none ∧ s.store.queue = [] ∧ s.store.reclaim = none)) →
      exec (.powerSetDormant tag) s = .next
        { s.replied tag 0x03 .done (.power s.power.state s.power.doze true) with power := { s.power with pending := true } }) ∧
    (s.power.pending = false →
      ((∃ x, (s.sub x).state ≠ .empty ∧ (s.sub x).state ≠ .detached) ∨
        s.store.running ≠ none ∨ s.store.queue ≠ [] ∨ s.store.reclaim ≠ none) →
      exec (.powerSetDormant tag) s = .next (s.replied tag 0x03 .wrongState .none))

/-! ## The transmitter and the notices (R180, R182, R183, R174) -/

/-- R182, R170: CLRDY_ASSERTED and CLRDY_DEASSERTED record the level of CLRDY. CLRDY_ASSERTED wakes a part in DOZE when the notice
outbox holds an entry: RUN, without a wake time. Nothing else changes. -/
def Obligations.ClrdyIsRecordedAndWakesADozingPart : Prop :=
  ∀ s : State, s.quiet →
    (s.power.state = .doze → s.power.held = false → s.link.outbox ≠ [] →
      exec .clrdyAsserted s = .next { s with
        power := { s.power with state := .run, wake := none }, link := { s.link with clrdy := true } }) ∧
    (s.power.state ≠ .doze ∨ s.power.held = true ∨ s.link.outbox = [] →
      exec .clrdyAsserted s = .next { s with link := { s.link with clrdy := true } }) ∧
    exec .clrdyDeasserted s = .next { s with link := { s.link with clrdy := false } }

/-- R182: FRAME_TRANSMIT_START. With CLRDY asserted, an idle transmitter sends the next segment of the oldest filled reply;
nothing else changes. While CLRDY is deasserted no frame starts. -/
def Obligations.AReplySegmentIsSentFirst : Prop :=
  ∀ s : State, s.awake = true → s.link.sending = none → s.quiet →
    (∀ (r : Reply) (rest : List Reply), s.link.clrdy = true → s.link.filled = r :: rest →
      exec .frameTransmitStart s = .next { s with
        link := { s.link with sending := some { octets := r.segmentFrame r.sent, reply := true } } }) ∧
    (s.link.clrdy = false → exec .frameTransmitStart s = .next s)

/-- R182, R183, R186, R80, R140, R149: FRAME_TRANSMIT_START without a filled reply. The entry of the notice outbox that goes first
is taken out, and its frame, fixed with the slot of that moment, goes out. A LINK notice restarts the five counts; a MEAS notice
makes its serving level and best index the notice reference; a TEXT notice empties the outcome list and sets the two counts to 0,
here with no ended entry waiting for room, and the number of the latest message is absent, by the model's reading (log 82).
Nothing else changes. -/
def Obligations.ANoticeIsSentWhenNoReplyWaits : Prop :=
  ∀ (n : Notice) (s : State), s.awake = true → s.link.clrdy = true → s.link.sending = none → s.link.filled = [] →
    s.power.operating = true → firstNotice s.link.outbox = some n → s.quiet →
    let gone : Link := { s.link with
      sending := some { octets := noticeFrame n s.now, reply := false }
      outbox := s.link.outbox.filter fun m => decide (m.snapshot.key ≠ n.snapshot.key) }
    (n.snapshot.key.1 ∉ [NoticeKind.link, NoticeKind.meas, NoticeKind.text] →
      exec .frameTransmitStart s = .next { s with link := gone }) ∧
    (n.snapshot.key.1 = .link →
      exec .frameTransmitStart s = .next { s with
        link := { gone with counts := { gap := 0, cut := 0, badChar := 0, length := 0, overrun := 0 } } }) ∧
    (∀ x d l cs, n.snapshot = .meas x d l cs →
      exec .frameTransmitStart s = .next { s with
        link := gone
        meas := { s.meas with
          subs := s.meas.subs.set x { s.meas.subs.get x with reference := some (l, cs.head?.map Prod.fst) } } }) ∧
    (∀ x a b c d os r l i o u m, n.snapshot = .text x a b c d os r l i o u m →
      (∀ e ∈ s.text.outbox, e.sub = x → e.state ≠ .sent ∧ e.state ≠ .failed) →
      exec .frameTransmitStart s = .next { s with
        link := gone
        text := { s.text with
          subs := s.text.subs.set x { s.text.subs.get x with
            outcomes := [], received := 0, latest := none, incomplete := 0 } } })

/-- R180, R174, R59, R155: FRAME_TRANSMIT_END. After a notice the transmitter is idle. After a segment with more to follow, the
next segment of the same reply waits; after the last segment the reply's position is free. When the last segment of the RESET
reply has been sent, the reset begins: the calendar holds nothing, no order is outstanding, the voice port is STOPPED, the store
has no reclaim, its memory stands, and it starts nothing of its queue but the mark that follows a running relocation copy; a
suspended erase runs on, no window being ORDERED. The part takes nothing more: it is not awake. Nothing else changes. Which of the
marks is kept is the model's reading (log 55). -/
def Obligations.TheLastSegmentFreesThePosition : Prop :=
  ∀ (f : Sending) (s : State), s.link.sending = some f → s.awake = true → s.quiet →
    (f.reply = false → exec .frameTransmitEnd s = .next { s with link := { s.link with sending := none } }) ∧
    (∀ (r : Reply) (rest : List Reply), f.reply = true → s.link.filled = r :: rest →
      (r.sent + 1 < r.segments.length →
        exec .frameTransmitEnd s = .next { s with
          link := { s.link with sending := none, filled := { r with sent := r.sent + 1 } :: rest } }) ∧
      (r.segments.length ≤ r.sent + 1 →
        (s.power.wait ≠ .replying ∨ r.code ≠ 0x02 ∨ r.status ≠ .done →
          exec .frameTransmitEnd s = .next { s with link := { s.link with sending := none, filled := rest } }) ∧
        (s.power.wait = .replying → r.code = 0x02 → r.status = .done →
          ∃ t : State, exec .frameTransmitEnd s = .next t ∧ t.awake = false ∧
            t = { s with
              cal := { s.cal with windows := [], outstanding := [] }
              voice := s.voice.stop
              store := { s.store with
                running := s.store.running.map fun q =>
                  if q.op.isErase = true ∧ q.since = none then { q with since := some s.now } else q
                queue := match s.store.running.map Running.op with
                  | some (.relocCopy _ p _ _) => s.store.queue.filter fun o => decide (o = .mark p .relocation)
                  | _ => []
                reclaim := none }
              power := { s.power with wait := .stopping }
              link := { s.link with sending := none, filled := rest } })))

/-- R183: a posting makes an entry of the snapshot's kind and key or replaces the snapshot of the one there, adding its flags to
those held; every other entry stands; and an outbox without two entries of one kind and key stays so. -/
def Obligations.APostingKeepsOneEntryPerKey : Prop :=
  ∀ (snap : Snapshot) (flags : BitVec 16) (out : List Notice), (out.map fun n => n.snapshot.key).Nodup →
    ((postIn snap flags out).map fun n => n.snapshot.key).Nodup ∧
    (∀ n ∈ out, n.snapshot.key ≠ snap.key → n ∈ postIn snap flags out) ∧
    (∀ n ∈ out, n.snapshot.key = snap.key → { snapshot := snap, flags := n.flags ||| flags } ∈ postIn snap flags out) ∧
    ((∀ n ∈ out, n.snapshot.key ≠ snap.key) → postIn snap flags out = out ++ [{ snapshot := snap, flags := flags }])

/-- R182, R183: of a notice outbox that is not empty an entry goes next, and no entry of a kind of higher priority, and none of
the same kind with a lower key, waits behind it. -/
def Obligations.TheNoticeOfHighestPriorityGoesFirst : Prop :=
  ∀ out : List Notice, out ≠ [] → ∃ n ∈ out, firstNotice out = some n ∧
    ∀ m ∈ out, n.snapshot.key.1.rank < m.snapshot.key.1.rank ∨
      (n.snapshot.key.1.rank = m.snapshot.key.1.rank ∧ n.snapshot.key.2 ≤ m.snapshot.key.2)

/-! ## Resets, start-up, DOZE and DORMANT (R168 to R176) -/

/-- R173, R164, R175: POWER_ON and RESETN_ASSERTED. Every block takes its reset values, the part is held in reset, the kind is
POWER_ON or LINE, and the memory of a store with nothing running stands; of one with an operation running only what that operation
writes is changed, and how is a free value (log 3). RESETN_RELEASED ends the hold: the counter starts from 0 and the scan reads
the memory; of a part not held it changes nothing. The queue of commands, the draws and the level of CLRDY, which are no state of
the part, stand. The model's choices are the values of State.reset to which the rules give none (log 64), the store before its
scan (log 65), that the part is held until RESETN is released (log 61), and that the scan is done in the step that releases it (log
52). -/
def Obligations.AResetTakesEveryBlockToItsResetValues : Prop :=
  ∀ s : State,
    let left := s.store.cutFlash (Config.leftover s.draws).val
    exec .powerOn s = .next { State.reset with
      pending := s.pending, draws := s.draws + 1, store := .beforeScan left, power := .reset .powerOn
      link := .reset s.link.clrdy } ∧
    exec .resetnAsserted s = .next { State.reset with
      pending := s.pending, draws := s.draws + 1, store := .beforeScan left, power := .reset .line
      link := .reset s.link.clrdy } ∧
    (s.store.running = none → left = s.store.flash) ∧
    (∀ q, s.store.running = some q → left = (s.store.leave q.op (Config.leftover s.draws).val true).flash) ∧
    (s.power.held = true → s.quiet →
      exec .resetnReleased s = .next { s with
        now := 0, store := .scan s.store.flash, power := { s.power with held := false } }) ∧
    (s.power.held = false → exec .resetnReleased s = .next s)

/-- R174, R175: REQUESTED_RESET. Once the store has ended its operation and holds nothing more to do, the part resets with kind
REQUEST, nothing is cut, and start-up follows at once. The values to which the rules give none (log 64), and a scan that takes no
time of its own (log 52), are the model's choices. -/
def Obligations.ARequestedResetCutsNothing : Prop :=
  ∀ s : State, s.power.wait = .stopping → s.power.held = false → s.store.running = none → s.store.queue = [] →
    exec .requestedReset s = .next { State.reset with
      pending := s.pending, draws := s.draws, store := .scan s.store.flash
      power := { Power.reset .request with held := false }, link := .reset s.link.clrdy }

/-- R175, R176: STARTUP_END. When the scan's last repair has ended, the phase becomes OPERATING, READY is posted without change
flags with the reset kind and the counts of slots, and reclaim is examined. Of the store only the reclaim can change, whether it
has room as it then stands, by which SPACE is told later, and the queue, which the first step of a reclaim joins (R162): a copy of
the lowest LIVE slot of its block into the first usable slot, or the erase of a block with none. That the step joins the queue at
once (log 81) is the model's reading, and that SPACE is judged from the count at this moment on is its choice (log 107). -/
def Obligations.StartUpEndsWithReady : Prop :=
  ∀ s : State, s.awake = true → s.power.operating = false → s.store.running = none → s.store.queue = [] →
    s.store.reclaim = none → s.quiet → (∀ n ∈ s.link.outbox, n.snapshot.key ≠ (NoticeKind.ready, 0)) →
    ∃ t : State, exec .startupEnd s = .next t ∧
      t = { s with
        power := { s.power with operating := true }
        store := { s.store with
          reclaim := t.store.reclaim, roomy := decide (2 ≤ t.store.usableCount), queue := t.store.queue }
        link := { s.link with outbox := t.link.outbox } } ∧
      { snapshot := .ready s.power.kind (s.store.count .free) (s.store.count .reserved) (s.store.count .live)
          (s.store.count .deleted) (s.store.count .retired), flags := 0 } ∈ t.link.outbox ∧
      t.store.reclaim = (if s.reclaimActive = true then s.store.reclaimChoice else none) ∧
      t.store.queue =
        match t.store.reclaim with
        | none => []
        | some b =>
          match s.store.toMove b with
          | [] => [.erase b false]
          | p :: _ => ((allSlots.find? ({ s.store with reclaim := some b } : Store).usable).map fun q =>
              .relocCopy (((s.store.messageAt p).map fun m => m.header.number).getD 0) p q false).toList

/-- R168, R170: DOZE_ENTRY under the eight conditions of DOZE fixes the wake time and enters DOZE; WAKE_TIME_REACHED, the counter
having reached it, ends DOZE and leaves no wake time. Nothing else changes. -/
def Obligations.DozeIsEnteredAndEndsAtTheWakeTime : Prop :=
  ∀ s : State, s.quiet →
    (s.awake = true → s.power.operating = true → s.power.pending = false → s.power.doze = true →
      (∀ w ∈ s.cal.windows, w.state ≠ .ordered) →
      (∀ u, s.earliestPlanned = some u → 40 ≤ (u - s.now).toNat ∧ (u - s.now).toNat < 2 ^ 31) →
      s.store.running = none → s.store.queue = [] → s.store.reclaim = none →
      s.link.receiver = .hunting → s.link.inbox = [] → s.link.reserved = [] → s.link.filled = [] →
      s.link.sending = none → (s.link.outbox = [] ∨ s.link.clrdy = false) → s.voice.running = false →
      exec .dozeEntry s = .next { s with power := { s.power with state := .doze, wake := s.wakeTime } }) ∧
    (∀ u, s.power.state = .doze → s.power.held = false → s.power.wake = some u → (s.now - u).toNat < 2 ^ 31 →
      exec .wakeTimeReached s = .next { s with power := { s.power with state := .run, wake := none } })

/-- R168: the wake time comes no later than the expiry of any running timer of any block, and no later than 4 slots before the
earliest PLANNED start; it is absent when there is neither. -/
def Obligations.TheWakeTimeIsTheEarliestOfItsCauses : Prop :=
  ∀ s : State,
    (∀ u ∈ s.expiries, ∃ w, s.wakeTime = some w ∧ slotsLeft s.now w ≤ slotsLeft s.now u) ∧
    (∀ u, s.earliestPlanned = some u → ∃ w, s.wakeTime = some w ∧ slotsLeft s.now w ≤ slotsLeft s.now (u - 4)) ∧
    (∀ w, s.wakeTime = some w → w ∈ s.expiries ∨ ∃ u, s.earliestPlanned = some u ∧ w = u - 4) ∧
    (s.expiries = [] → s.earliestPlanned = none → s.wakeTime = none)

/-- R172: DORMANT_ENTRY, with DORMANT pending, the link quiet and no window ORDERED. DORMANT is entered if both records are EMPTY
or DETACHED and the store is idle; otherwise the part stays in RUN. DORMANT pending is clear in either case; nothing else changes.
-/
def Obligations.DormantIsEnteredByAnIdlePart : Prop :=
  ∀ s : State, s.awake = true → s.power.pending = true → s.link.inbox = [] → s.link.reserved = [] → s.link.filled = [] →
    s.link.receiver = .hunting → s.link.sending = none → (∀ w ∈ s.cal.windows, w.state ≠ .ordered) → s.quiet →
    (((∀ x, (s.sub x).state = .empty ∨ (s.sub x).state = .detached) ∧
        s.store.running = none ∧ s.store.queue = [] ∧ s.store.reclaim = none) →
      exec .dormantEntry s = .next { s with power := { s.power with state := .dormant, pending := false } }) ∧
    (((∃ x, (s.sub x).state ≠ .empty ∧ (s.sub x).state ≠ .detached) ∨
        s.store.running ≠ none ∨ s.store.queue ≠ [] ∨ s.store.reclaim ≠ none) →
      exec .dormantEntry s = .next { s with power := { s.power with pending := false } })

/-! ## Subscriptions (R20 to R42) -/

/-- R21: SUB_LOAD. A subscription value other than A or B, or a channel list of 0 or more than 32 entries, with a channel above
2047 or with one named twice, is answered BAD_VALUE, before the state is looked at; in a state other than EMPTY and DETACHED the
answer is WRONG_STATE; in both cases nothing changes. A taken SUB_LOAD is answered DONE and fills the record anew: DETACHED, the
identity and the channels as given, the paging key identity mod 65536, page guard 3, measurement notices off, area, registration
result, no-service reason and reselection target absent, the three flags clear. A SUB notice is posted with STATE and KEY. Nothing
else changes, but for the TEXT notice with MEMORY that tells of a memory-full-signalled flag it cleared and the store's
examinations that follow. That TEXT notice is the model's reading (log 45). -/
def Obligations.SubLoadFillsTheRecordAnew : Prop :=
  ∀ (tag sub : Byte) (identity : BitVec 32) (channels : List (BitVec 16)) (s : State),
    s.accepts tag (.subLoad sub identity channels) → s.quiet →
    (subOf sub = none ∨ channels = [] ∨ 32 < channels.length ∨ (∃ c ∈ channels, 2047 < c.toNat) ∨ ¬channels.Nodup →
      exec (.subLoad tag sub identity channels) s = .next (s.replied tag 0x10 .badValue .none)) ∧
    (∀ x, subOf sub = some x → channels ≠ [] → channels.length ≤ 32 → (∀ c ∈ channels, c.toNat ≤ 2047) → channels.Nodup →
      ((s.sub x).state ≠ .empty → (s.sub x).state ≠ .detached →
        exec (.subLoad tag sub identity channels) s = .next (s.replied tag 0x10 .wrongState .none)) ∧
      ((s.sub x).state = .empty ∨ (s.sub x).state = .detached →
        let u : State := { s.replied tag 0x10 .done .none with
          subs := s.subs.set x { SubRec.reset with
            state := .detached, identity := some identity, key := some (BitVec.ofNat 16 (identity.toNat % 65536))
            channels := channels.map BitVec.toNat } }
        let told (notices : List Notice) : State := { u with link := { u.link with outbox := postIn (u.subSnapshot x) 9 notices } }
        ((s.sub x).memoryFull = false → exec (.subLoad tag sub identity channels) s = .next (told s.link.outbox)) ∧
        ((s.sub x).memoryFull = true → ¬s.store.stuck →
          ∃ t : State, exec (.subLoad tag sub identity channels) s = .next t ∧
            State.examined (told (postIn (u.textSnapshot x) 4 s.link.outbox)) t)))

/-- R22, R24, R25, R26, R27: a search begins by SUB_ATTACH on a DETACHED record and by the expiry of the no-service retry timer.
Here the calendar is empty and the first 20 slots after a reset are over. The record is SEARCHING, and one SEARCH window stands
for each allowed channel in list order, of one slot with a slack of 8 frames, the first 3 slots ahead and each later one 2 slots
after the one before. A SUB notice is posted with STATE. SUB_ATTACH is answered DONE; in any other state it is answered
WRONG_STATE and nothing changes. What the search does with the windows that end for it, here with nothing else in the calendar: a
SEARCH window's sample joins the scan list, and with the last one the channels are tried, the highest level first, the lower
number first at equal level. TIMING gives an anchor, by which a BEACON_RX of 2 slots is planned in the first frame 0 of a cycle. A
channel that brings nothing, whose BEACON is barred, or of which a window is SKIPPED a second time, gives way to the next one;
with none left the scan is exhausted. A window SKIPPED once is planned again 10 slots or 64 frames later. An unbarred BEACON of
the registered area is camped on, here by a subscription for which nothing waits: the cell is held with its anchor and parameters,
misses 0, downlink 10, strikes 0, the PAGE window stands in the first occasion at least 3 slots ahead, the refresh 8 cycles on, an
entry of the cell serves the subscription, and a SUB notice is posted with STATE and CELL. One of another area, here while the
radio is held, makes the cell the candidate, with its refresh 8 cycles on, and REGISTER joins the engagement queue. A candidate's
refresh renews its anchor and parameters; SKIPPED, it is planned again a cycle later; and one that is barred, BLOCK_BAD or FAILED
discards the candidate and its request, and a new search begins. Nothing else changes. That a TIMING is followed by the first
frame 0 not earlier than it (log 24), that the 8 cycles are counted from the BEACON last accepted (log 95), and that another
cell's BEACON counts as BLOCK_BAD (log 14), is the model's reading. -/
def Obligations.ASearchPlansOneWindowForEachChannel : Prop :=
  ∀ (x : Sub) (s : State), s.quiet →
    let ws := searchWindows s.cal.counter s.now x (s.sub x).channels
    let begun (s : State) (r : SubRec) : State := { s with
      subs := s.subs.set x { r with search := .sampling (ws.map fun w => (w.id, w.channel)) [] }
      cal := { s.cal with windows := ws, counter := s.cal.counter + BitVec.ofNat 32 ws.length }
      link := { s.link with outbox := postIn ({ s with subs := s.subs.set x r }.subSnapshot x) 1 s.link.outbox } }
    (∀ tag sub, subOf sub = some x → s.accepts tag (.subAttach sub) →
      ((s.sub x).state ≠ .detached →
        exec (.subAttach tag sub) s = .next (s.replied tag 0x11 .wrongState .none)) ∧
      ((s.sub x).state = .detached → s.cal.windows = [] → s.cal.quiet = false → (s.sub x).channels.length ≤ 32 →
        exec (.subAttach tag sub) s =
          .next (begun (s.replied tag 0x11 .done .none) { s.sub x with state := .searching }))) ∧
    (∀ u, s.awake = true → (s.sub x).state = .noService → (s.sub x).retry = some u → (s.now - u).toNat < 2 ^ 31 →
      s.cal.windows = [] → s.cal.quiet = false → (s.sub x).channels.length ≤ 32 →
      exec (.noServiceRetryExpiry x) s =
        .next (begun s { s.sub x with state := .searching, reason := none, retry := none })) ∧
    (∀ (w : Window) (e : Ended), w.owner = .sub x → w.reporter = .subscription → (s.sub x).state = .searching →
      s.cal.windows = [] → s.cal.quiet = false → (s.sub x).channels.length ≤ 32 → (s.now - w.start).toNat ≤ 12 →
      let t := s.handOver w e
      let spoilt := (∃ l, e = .done (.bad l)) ∨ e = .failed
      let skipped := ∃ k v, e = .skipped k v
      (∀ waiting scan channel, w.purpose = .search → (s.sub x).search = .sampling waiting scan →
        (waiting.find? fun p => decide (p.1 = w.id)) = some (w.id, channel) →
        let rest := waiting.filter fun p => decide (p.1 ≠ w.id)
        ∀ heard, (∃ l, e = .done (.sample l) ∧ heard = scan ++ [(channel, l)]) ∨ ((spoilt ∨ skipped) ∧ heard = scan) →
          (rest ≠ [] → t = { s with subs := s.subs.set x { s.sub x with search := .sampling rest heard } }) ∧
          (rest = [] → ∃ order : List (Nat × Nat), order.Perm heard ∧
            (order.Pairwise fun p q => q.2 < p.2 ∨ (p.2 = q.2 ∧ p.1 ≤ q.1)) ∧ t = s.triesChannel x order 0)) ∧
      (∀ scan position again, w.purpose = .beaconRx → (s.sub x).search = .acquiring scan position w.id again →
        (∀ o f l, e = .done (.timing o f l) → ∃ (n : Nat) (start : Slot),
          start = w.start + BitVec.ofNat 32 (o + 10 * n) ∧ (f + BitVec.ofNat 16 n).toNat % 64 = 0 ∧
          (start - s.now).toNat < 640 ∧
          (3 ≤ (start - s.now).toNat →
            t = s.searchesBy x (.reading scan position { s0 := w.start + BitVec.ofNat 32 o, f0 := f } (f + BitVec.ofNat 16 n)
              s.cal.counter false) w.channel start 2)) ∧
        (spoilt ∨ (again = true ∧ skipped) → t = s.triesChannel x scan (position + 1)) ∧
        (again = false → skipped → 3 ≤ (w.start + 10 - s.now).toNat → (w.start + 10 - s.now).toNat < 2 ^ 31 →
          t = s.searchesBy x (.acquiring scan position s.cal.counter true) w.channel (w.start + 10) 10)) ∧
      (∀ scan position a f again, w.purpose = .beaconRx → (s.sub x).search = .reading scan position a f w.id again →
        (spoilt ∨ (again = true ∧ skipped) ∨ (∃ b l, e = .done (.block (.beacon b) l) ∧ b.barred = true) →
          t = s.triesChannel x scan (position + 1)) ∧
        (again = false → skipped →
          t = s.searchesBy x (.reading scan position a (f + 64) s.cal.counter true) w.channel (w.start + 640) 2) ∧
        (∀ b l, e = .done (.block (.beacon b) l) → b.barred = false →
          let c : CampedCell := {
            cell := { channel := w.channel, code := b.code }, area := b.area, anchor := { s0 := w.start, f0 := b.frame }
            params := beaconParams b, lastBeacon := b.frame }
          ((s.sub x).area ≠ some b.area → (s.sub x).detaching = none → s.engaged ≠ none → (∀ q ∈ s.engQueue, q.sub ≠ x) →
            t = { s.searchesBy x (.candidate c (cleanNeighbours c.cell b.neighbours) (b.frame + 512) s.cal.counter) w.channel
                (w.start + 5120) 2 with
              engQueue := s.engQueue ++ [{ sub := x, purposes := [.register], pageReply := false, moment := s.moments }]
              moments := s.moments + 1 }) ∧
          ((s.sub x).area = some b.area → (s.measOf x).rounds = [] → s.callOf x = none → (s.sub x).memoryFull = false →
            (∀ q ∈ s.text.outbox, q.sub = x → q.state ≠ .ready) →
            t.sub x = { s.sub x with
              state := .camped, camped := some c, misses := 0, downlink := 10, strikes := 0, target := none, search := .none
              notKept := (t.sub x).notKept, page := (t.sub x).page, refresh := (t.sub x).refresh } ∧
            (∃ id f, ∃ v ∈ t.cal.windows, (t.sub x).page = some (id, f) ∧ v.id = id ∧ v.purpose = .pageRx ∧ v.owner = .sub x ∧
              v.channel = w.channel ∧ v.len = 2 ∧ isOccasion c ((s.sub x).key.getD 0) f = true ∧ 3 ≤ (v.start - s.now).toNat ∧
              (v.start - s.now).toNat < 3 + 640 * 2 ^ b.listen ∧ f = b.frame + BitVec.ofNat 16 ((v.start - w.start).toNat / 10)) ∧
            (t.sub x).refresh.map Refresh.frame = some (b.frame + 512) ∧
            ((t.sub x).refresh.bind Refresh.window = none ↔ isOccasion c ((s.sub x).key.getD 0) (b.frame + 512) = true) ∧
            (∃ n ∈ t.link.outbox, n.snapshot = t.subSnapshot x ∧ n.flags &&& 3 = 3) ∧
            (s.meas.legal → ∃ y ∈ t.meas.entries, y.cell = c.cell ∧ y.serving.get x = true)))) ∧
      (∀ c ns f, w.purpose = .beaconRx → (s.sub x).search = .candidate c ns f w.id → w.channel = c.cell.channel →
        (∀ b l, e = .done (.block (.beacon b) l) → b.code = c.cell.code → b.barred = false →
          t = s.searchesBy x (.candidate { c with
              anchor := { s0 := w.start, f0 := b.frame }, params := beaconParams b, lastBeacon := b.frame } ns (b.frame + 512)
            s.cal.counter) w.channel (w.start + 5120) 2) ∧
        (skipped → t = s.searchesBy x (.candidate c ns (f + 64) s.cal.counter) w.channel (w.start + 640) 2) ∧
        (spoilt ∨ (∃ b l, e = .done (.block (.beacon b) l) ∧ (b.barred = true ∨ b.code ≠ c.cell.code)) →
          t = { s with
            engQueue := s.engQueue.filter fun q => decide (q.sub ≠ x)
            subs := s.subs.set x { s.sub x with search := .sampling (ws.map fun w => (w.id, w.channel)) [] }
            cal := { s.cal with windows := ws, counter := s.cal.counter + BitVec.ofNat 32 ws.length } })))

/-- R23, R52, R80: SUB_SET. A value out of range is answered BAD_VALUE, an EMPTY record WRONG_STATE, and nothing changes.
Otherwise it is answered DONE and each value given takes effect; one that is absent stands. Notices turned on make the notice
reference absent; a page guard that the miss count has reached raises the PLANNED PAGE window to PAGE_STARVED. Nothing else
changes. That a notices octet above 1 is out of range is the model's reading (log 17). -/
def Obligations.SubSetChangesWhatItNames : Prop :=
  ∀ (tag sub : Byte) (guard notices : Option Byte) (channels : Option (List (BitVec 16))) (s : State),
    s.accepts tag (.subSet sub guard notices channels) → s.quiet →
    (subOf sub = none ∨ settingsInRange guard notices channels = false →
      exec (.subSet tag sub guard notices channels) s = .next (s.replied tag 0x13 .badValue .none)) ∧
    (∀ x, subOf sub = some x → settingsInRange guard notices channels = true →
      ((s.sub x).state = .empty →
        exec (.subSet tag sub guard notices channels) s = .next (s.replied tag 0x13 .wrongState .none)) ∧
      ((s.sub x).state ≠ .empty →
        exec (.subSet tag sub guard notices channels) s = .next { s.replied tag 0x13 .done .none with
          subs := s.subs.set x { s.sub x with
            guard := (guard.map BitVec.toNat).getD (s.sub x).guard
            notices := (notices.map fun n => decide (n = 1)).getD (s.sub x).notices
            channels := (channels.map fun cs => cs.map BitVec.toNat).getD (s.sub x).channels }
          meas := if notices = some 1 ∧ (s.sub x).notices = false then
              { s.meas with subs := s.meas.subs.set x { s.meas.subs.get x with reference := none } }
            else s.meas
          cal := { s.cal with
            windows := s.cal.windows.map fun w =>
              if (guard.map fun g => decide (g.toNat ≤ (s.sub x).misses)) = some true ∧ w.owner = .sub x ∧ w.purpose = .pageRx ∧
                  w.state = .planned ∧ w.cls = .page then { w with cls := .pageStarved } else w } }))

/-- R42, R79, R101, R133, R150, R166: the queries are answered DONE with what they show, and nothing else changes. SUB_QUERY and
CALL_QUERY that name no subscription or call id are answered BAD_VALUE. Which counts MEAS_QUERY shows, and which record's counter
CALL_QUERY shows in a handover, and which next step STORE_QUERY shows of a block under reclaim, is the model's reading (log 51,
log 68, log 92), as is the count it shows of a block whose header cannot be read (log 97). -/
def Obligations.QueriesChangeNothingButTheReplyQueue : Prop :=
  ∀ (tag : Byte) (s : State), s.quiet →
    (∀ b, s.accepts tag (.subQuery b) →
      (∀ x, subOf b = some x → exec (.subQuery tag b) s = .next (s.replied tag 0x14 .done (.subscription (s.subView x)))) ∧
      (subOf b = none → exec (.subQuery tag b) s = .next (s.replied tag 0x14 .badValue .none))) ∧
    (s.accepts tag .measQuery →
      exec (.measQuery tag) s =
        .next (s.replied tag 0x18 .done (.measurement s.meas.entries (s.measView .A) (s.measView .B)))) ∧
    (s.accepts tag (.callQuery none) →
      exec (.callQuery tag none) s = .next (s.replied tag 0x23 .done (.calls [s.callView .one, s.callView .two]))) ∧
    (∀ b, s.accepts tag (.callQuery (some b)) →
      (∀ i, callIdOf b = some i →
        exec (.callQuery tag (some b)) s = .next (s.replied tag 0x23 .done (.calls [s.callView i]))) ∧
      (callIdOf b = none → exec (.callQuery tag (some b)) s = .next (s.replied tag 0x23 .badValue .none))) ∧
    (s.accepts tag .voiceQuery → exec (.voiceQuery tag) s = .next (s.replied tag 0x29 .done (.voice s.voice))) ∧
    (s.accepts tag .outboxQuery →
      exec (.outboxQuery tag) s = .next (s.replied tag 0x32 .done
        (.outbox (s.text.outbox.map s.outView) s.text.outbox.length s.partsHeld (s.text.table.map s.reasView) s.text.recent
          (s.textView .A) (s.textView .B)))) ∧
    (s.accepts tag .storeQuery → exec (.storeQuery tag) s = .next (s.replied tag 0x3D .done (.storage s.storeView)))

/-- R165: STORE_LIST and STORE_READ change nothing but the reply queue. STORE_LIST with the number 0 is answered BAD_VALUE,
otherwise it lists the first 8 messages of that number or above and tells whether more follow. STORE_READ of a number that no LIVE
slot holds is answered UNKNOWN_ITEM; with a length outside 1..192 or an offset beyond the body BAD_VALUE; otherwise it gives the
octets of the body from the offset, as many as the length and the body allow. That the number is looked up before the other checks
is the model's reading (log 56). -/
def Obligations.MessagesAreListedAndRead : Prop :=
  ∀ (tag : Byte) (n : BitVec 16) (s : State), s.quiet →
    (s.accepts tag (.storeList n) →
      (n = 0 → exec (.storeList tag n) s = .next (s.replied tag 0x38 .badValue .none)) ∧
      (n ≠ 0 → ∃ found : List (Message × Nat),
        found = s.store.liveMessages.filter (fun m => decide (n.toNat ≤ m.1.header.number)) ∧
        exec (.storeList tag n) s = .next (s.replied tag 0x38 .done
          (.listing ((found.take 8).map s.store.listed) (decide (8 < found.length)))))) ∧
    (∀ (offset : BitVec 16) (len : Byte), s.accepts tag (.storeRead n offset len) →
      (s.store.find n.toNat = none →
        exec (.storeRead tag n offset len) s = .next (s.replied tag 0x39 .unknownItem .none)) ∧
      (∀ p m, s.store.find n.toNat = some p → s.store.messageAt p = some m →
        (1 ≤ len.toNat ∧ len.toNat ≤ 192 ∧ offset.toNat ≤ m.body.length →
          exec (.storeRead tag n offset len) s = .next (s.replied tag 0x39 .done
            (.octets ((m.body.drop offset.toNat).take len.toNat)))) ∧
        (len.toNat = 0 ∨ 192 < len.toNat ∨ m.body.length < offset.toNat →
          exec (.storeRead tag n offset len) s = .next (s.replied tag 0x39 .badValue .none))))

/-- R40, R41: SUB_DETACH. A value that names no subscription is answered BAD_VALUE; while a LEAVE purpose is open the answer is
BUSY; in EMPTY it is WRONG_STATE and in DETACHED DONE; in each case nothing changes. In the rest of the rule the subscription has
no call record in use. In SEARCHING, in NO_SERVICE, and in CAMPED while the radio is not free, here without texts, sampled entries
and rounds, the subscription is DETACHED at once: its windows and its request go, it camps nowhere and measures nothing, the retry
timer is stopped, text-waiting is clear, area, key and memory-full-signalled are kept, the answer is DONE, and a SUB notice is
posted with STATE and CELL, and with TEXT_WAITING when that flag was set. In CAMPED with the radio free, and in an access attempt
(here for neither TEXT nor REGISTER) and a confirming read, which end, the request is not answered yet: the subscription is
ENGAGED in an attempt for LEAVE alone, whose first burst stands in slot 8 of the first frame of which that slot lies at least 3
slots ahead, and a SUB notice is posted with STATE. On a connection, here without a call, a registration and a text being sent,
LEAVE alone remains of its purposes and its message is queued, the unsent ENROL, STORE_READY and DONE leave the queue, the
incoming reason ends, and area-changed-in-call is cleared and the guard timer stopped. That LEAVE is taken as open until DETACHED
(log 41), that area-changed-in-call and the guard timer go with a SUB_DETACH on a connection without a registration (log 28), and
that LEAVE is queued on a connection whose DONE was sent already (log 105), is the model's reading. -/
def Obligations.SubDetachByState : Prop :=
  ∀ (tag sub : Byte) (s : State), s.accepts tag (.subDetach sub) → s.quiet →
    (subOf sub = none → exec (.subDetach tag sub) s = .next (s.replied tag 0x12 .badValue .none)) ∧
    (∀ x, subOf sub = some x →
      ((s.sub x).detaching ≠ none → exec (.subDetach tag sub) s = .next (s.replied tag 0x12 .busy .none)) ∧
      ((s.sub x).detaching = none →
        ((s.sub x).state = .empty → exec (.subDetach tag sub) s = .next (s.replied tag 0x12 .wrongState .none)) ∧
        ((s.sub x).state = .detached → exec (.subDetach tag sub) s = .next (s.replied tag 0x12 .done .none)) ∧
        ((∀ i, (s.call i).sub = some x → (s.call i).state = .free) →
          let still := (∀ y, (s.measOf y).rounds = []) ∧ (s.measOf x).resel = .none ∧
            ∀ w ∈ s.cal.windows, w.owner = .sub x → w.purpose ≠ .meas
          ((s.sub x).state = .noService ∨ (s.sub x).state = .searching ∨
              ((s.sub x).state = .camped ∧ s.engaged ≠ none) →
            still → s.connection x = none → (∀ e ∈ s.meas.entries, e.bound = none) →
            (s.meas.entries.map Entry.index).Nodup → (s.sub x.other).target = none →
            (∀ e ∈ s.text.outbox, e.sub ≠ x) → (∀ e ∈ s.text.table, e.sub ≠ x) → (∀ r ∈ s.text.recent, r.sub ≠ x) →
            ∃ t : State, exec (.subDetach tag sub) s = .next t ∧
              t = { s.replied tag 0x12 .done .none with
                subs := s.subs.set x { s.sub x with
                  state := .detached, camped := none, target := none, search := .none, page := none, refresh := none
                  retry := none, regGuard := none, textWaiting := false, areaChanged := false, reason := none }
                engQueue := s.engQueue.filter fun q => decide (q.sub ≠ x)
                cal := { s.cal with
                  windows := (s.cal.windows.filter fun w => decide (¬(w.owner = .sub x ∧ w.state = .planned))).map fun w =>
                    if w.owner = .sub x then { w with withdrawn := true } else w }
                meas := { s.unmeasured x with entries := t.meas.entries }
                link := { (s.replied tag 0x12 .done .none).link with outbox := t.link.outbox } } ∧
              (t.meas.entries.map fun e => (e.cell, e.level)) =
                ((s.meas.entries.filter fun e => e.owner.get x.other || e.serving.get x.other).map fun e => (e.cell, e.level)) ∧
              (∀ e ∈ t.meas.entries, e.owner.get x = false ∧ e.serving.get x = false) ∧
              t.link.outbox = postIn (t.subSnapshot x) (if (s.sub x).textWaiting then 19 else 3) s.link.outbox) ∧
          (∀ k : CampedCell, s.grantsAlone x k →
            ((s.sub x).state = .camped ∧ s.engaged = none ∧ s.holdsOnly x [.pageRx, .beaconRx]) ∨
              ((s.sub x).state = .engaged ∧
                ((s.confirms x = true ∧ s.holdsOnly x [.pageRx, .beaconRx]) ∨
                  ∃ a : Attempt, s.engaged = some { sub := x, stage := .attempt a } ∧ Purpose.text ∉ a.purposes ∧
                    Purpose.register ∉ a.purposes ∧ s.holdsOnly x [.accessTx, .grantRx, .pageRx, .beaconRx])) →
            ∃ (t : State) (start : Slot) (f : FrameNo), exec (.subDetach tag sub) s = .next t ∧
              burstSlot k.anchor s.now start f ∧
              let u : State := { s.reservedFor tag 0x12 with
                subs := s.subs.set x { s.sub x with detaching := some s.link.ticket } }
              t = { u.attempting x k .leave .leave start f with
                link := { u.link with outbox := postIn (t.subSnapshot x) 1 s.link.outbox } }) ∧
          (∀ c : Context, (s.sub x).state = .engaged → s.engaged = some { sub := x, stage := .connected } →
            s.connection x = some c → Purpose.register ∉ c.purposes → s.sendingEntry x = none →
            (∀ q ∈ s.ctx.queue ++ s.ctx.waiting, q.msg ≠ .leave) →
            exec (.subDetach tag sub) s = .next { s.reservedFor tag 0x12 with
              subs := s.subs.set x { s.sub x with regGuard := none, areaChanged := false, detaching := some s.link.ticket }
              text := { s.text with subs := s.text.subs.set x { s.textOf x with incoming := false, idle := .stopped } }
              ctx := ((({ s with
                  ctx := { s.ctx with
                    active := some { c with
                      purposes := c.purposes.filter (fun p => decide (p = .call)) ++ [.leave] } } } : State).removeMsgs
                fun m => m.isEnrol || m.isStoreReady || m.isDone).offer .leave).ctx }))))

/-- R39, R95, R137, R16, R36, R85, R87, R148: how a registration on a connection ends, and what then begins.
REGISTRATION_GUARD_EXPIRY and ENROL_NO, here without a call of the subscription: the result is NO_REPLY, or the cause of the
ENROL_NO, the guard timer is stopped and area-changed-in-call clear; REGISTER and STORE_READY leave the connection's purposes, and
TEXT when no entry has become SENDING on it; a SUB notice is posted with REGISTRATION. Of the queue the unsent STORE_READY go, what
waits moves up, and every other message stands. LEAVE is queued when it is a purpose, no call record is in use and none is queued;
DONE when no purpose remains and it is neither sent nor queued. With an entry that has become SENDING a TEXT purpose goes on: none
being sent, the READY entry that became READY first is SENDING, and with none TEXT leaves unless the incoming reason holds it. The
connection runs on. That STORE_READY and the incoming reason end with TEXT, and that the entries counted are those of this
connection, is the model's reading (log 29). ENROL_OK: the connection's area is the registered area, the key of the message the
paging key, the result OK, the guard timer stopped and area-changed-in-call clear; a SUB notice is posted with REGISTRATION, and
with KEY when the key changed; REGISTER leaves, and the exchanges of the remaining purposes begin. Without a registration open the answers
change nothing. The exchanges of a connection begin in this order: DIAL is offered for a DIALLING or REQUESTING record, which is
OFFERING with a timer of 60,000 slots; RING for an arrived INCOMING one whose RING waited, with its timer set to 60,000 slots, or,
when it was answered, RING and TAKE, and it is ANSWERING with a timer of 20,000 slots; with TEXT the READY entry that became READY
first is SENDING, its first part offered, and with none TEXT leaves unless the incoming reason holds it; with STORE_READY its
message is offered; DONE with no purpose at all. -/
def Obligations.ARegistrationEndsByItsAnswerOrByNone : Prop :=
  (∀ (x : Sub) (c : Context) (s : State), s.connection x = some c → Purpose.register ∈ c.purposes →
    (s.callOf x = none →
      let left : Context :=
        { c with purposes := c.purposes.filter fun p =>
            decide (p ≠ .register ∧ p ≠ .storeReady ∧ (p ≠ .text ∨ s.ctx.textBegun = true)) }
      let absent (m : UpMsg) := ∀ q ∈ s.ctx.queue ++ s.ctx.waiting, q.msg ≠ m
      let more : List UpMsg :=
        if Purpose.leave ∈ left.purposes then (if s.inUse x = false ∧ absent .leave then [.leave] else [])
        else if left.purposes = [] ∧ s.ctx.doneSent = false ∧ absent .done then [.done]
        else []
      let kept := s.ctx.queue.filter fun q => !q.msg.isStoreReady || s.ctx.carries q.id
      let wait := s.ctx.waiting.filter fun q => !q.msg.isStoreReady
      let ended (result : RegResult) (why : NoServiceReason) (t : State) : Prop :=
        let subs := s.subs.set x { s.sub x with registration := some result, regGuard := none, areaChanged := false }
        let u : State := { s with
          subs := subs
          text := if s.ctx.textBegun = true then s.text else { s.text with
            subs := s.text.subs.set x { s.text.subs.get x with incoming := false, idle := .stopped } }
          ctx := { s.ctx with
            active := some left, regFailed := some why
            queue := kept ++ wait.take (4 - kept.length), waiting := wait.drop (4 - kept.length) }
          link := { s.link with outbox := postIn (({ s with subs := subs } : State).subSnapshot x) 4 s.link.outbox } }
        (Purpose.text ∉ left.purposes → t = more.foldl State.offer u) ∧
        (Purpose.text ∈ left.purposes → Purpose.leave ∉ left.purposes →
          (s.sendingEntry x ≠ none → t = u) ∧
          (s.sendingEntry x = none →
            (∀ e, s.readyFirst x e → t = u.sendingNow e) ∧
            ((∀ e ∈ s.text.outbox, e.sub = x → e.state ≠ .ready) →
              ((s.textOf x).incoming = true → t = u) ∧ ((s.textOf x).incoming = false → t = u.leftBy left .text))))
      (∀ u, s.awake = true → s.quiet → (s.sub x).regGuard = some u → (s.now - u).toNat < 2 ^ 31 →
        ∃ t : State, exec (.registrationGuardExpiry x) s = .next t ∧ ended .noReply .noReply t) ∧
      ∀ frame, ended .rejected .rejected (s.received x frame (.enrolNo .rejected)) ∧
        ended .notAllowed .notAllowed (s.received x frame (.enrolNo .notAllowed))) ∧
    (∀ (frame : Slot) (key : BitVec 16),
      let u : State := { s with
        subs := s.subs.set x { s.sub x with
          area := some c.area, key := some key, registration := some .ok, regGuard := none, areaChanged := false }
        ctx := { s.ctx with active := some { c with purposes := c.purposes.filter fun p => decide (p ≠ .register) } } }
      s.received x frame (.enrolOk key) = ({ u with
        link := { s.link with
          outbox := postIn (u.subSnapshot x) (if (s.sub x).key = some key then 4 else 12) s.link.outbox } } :
            State).beginExchanges x)) ∧
  (∀ (x : Sub) (c : Context) (frame : Slot) (s : State), s.connection x = some c → Purpose.register ∉ c.purposes →
    (∀ key, s.received x frame (.enrolOk key) = s) ∧ (∀ why, s.received x frame (.enrolNo why) = s) ∧
    (Purpose.leave ∉ c.purposes → s.sendingEntry x = none →
      (∀ called : State,
        ((s.callOf x = none ∧ called = s) ∨
          (∃ i, s.callOf x = some i ∧
            let r := s.call i
            let answering : CallRec :=
              { r with ringWaits := false, state := .answering, timer := some (slotAdd s.now 20000) }
            called =
              if r.state = .dialling ∨ r.state = .requesting then
                { s.callTold i { r with state := .offering, timer := some (slotAdd s.now 60000) } 1 with
                  ctx := (s.offer (.dial (r.number.getD []))).ctx }
              else if r.state = .incoming ∧ r.ringWaits = true then
                if r.answered = true then
                  { s.callTold i answering 1 with ctx := ((s.offer .ring).offer .take).ctx }
                else
                  { s with
                    calls := (s.setCall i { r with ringWaits := false, timer := some (slotAdd s.now 60000) }).calls
                    ctx := (s.offer .ring).ctx }
              else s)) →
        let begun := s.beginExchanges x
        let absent (m : UpMsg) := ∀ q ∈ s.ctx.queue ++ s.ctx.waiting, q.msg ≠ m
        (c.purposes = [.call] → begun = called) ∧
        (Purpose.text ∈ c.purposes → Purpose.storeReady ∉ c.purposes →
          (∀ e, s.readyFirst x e → begun = called.sendingNow e) ∧
          ((∀ e ∈ s.text.outbox, e.sub = x → e.state ≠ .ready) →
            ((s.textOf x).incoming = true → begun = called) ∧
            ((s.textOf x).incoming = false → begun = called.leftBy c .text))) ∧
        (Purpose.text ∉ c.purposes → Purpose.storeReady ∈ c.purposes → absent .storeReady →
          begun = called.offer .storeReady) ∧
        (∀ e, Purpose.text ∈ c.purposes → Purpose.storeReady ∈ c.purposes → absent .storeReady → s.readyFirst x e →
          begun = (called.sendingNow e).offer .storeReady) ∧
        (c.purposes = [] → begun = called.leftBy c .text))))

/-- R16, R37, R34, R137, R148: RELEASE_TIMER_EXPIRY, and RELEASE received, on a connection that carries no call and no
registration, and sends no text, of a subscription that is not detaching. Here the calendar is empty, the first 20 slots after a
reset are over, and the connection's anchor lies in the past. A RELEASE on a connection on which STORE_READY has been sent clears
memory-full-signalled, with a TEXT notice with MEMORY. The connection ends: both context records are unused and its queue is
empty, the incoming reason and the recent records end, and the mode is NONE. The subscription stays ENGAGED while a BEACON_RX
window of 2 slots reads the connection's cell, which is now its camped cell, in the first frame 0 of a cycle, by the connection's
anchor, that lies at least 3 slots ahead: that a nearer one is left out is the model's reading (log 24). TEXT joins the engagement
queue for a READY entry, and STORE_READY when memory-full-signalled is set and a slot is usable. Nothing else changes. That
STORE_READY is raised then, and that area-changed-in-call is clear, is the model's reading (log 67, log 28), and what the unit
keeps for no connection is its choice (log 64). -/
def Obligations.AReleasedConnectionIsConfirmed : Prop :=
  ∀ (c : Context) (k : CampedCell) (s : State), s.ctx.active = some c →
    s.engaged = some { sub := c.sub, stage := .connected } → (s.sub c.sub).state = .engaged → (s.sub c.sub).camped = some k →
    (s.sub c.sub).detaching = none → s.ctx.regFailed = none → (∀ i, (s.call i).sub = some c.sub → (s.call i).state = .free) →
    s.sendingEntry c.sub = none → Purpose.register ∉ c.purposes → (s.measOf c.sub).rounds = [] →
    (∀ q ∈ s.engQueue, q.sub ≠ c.sub) → s.cal.windows = [] → s.cal.quiet = false → (s.now + 3 - c.s0).toNat < 2 ^ 31 →
    let anchor : Anchor := { s0 := c.s0, f0 := c.f0.getD k.anchor.f0 }
    ∃ (start : Slot) (f : FrameNo),
      3 ≤ (start - s.now).toNat ∧ (start - s.now).toNat < 643 ∧ (start - c.s0).toNat % 10 = 0 ∧
      f = anchor.f0 + BitVec.ofNat 16 ((start - c.s0).toNat / 10) ∧ f.toNat % 64 = 0 ∧
      let confirmed (u : State) : State :=
        let raised : List Purpose :=
          (if ∃ e ∈ s.text.outbox, e.sub = c.sub ∧ e.state = .ready then [.text] else []) ++
            if (u.sub c.sub).memoryFull = true ∧ 0 < s.store.usableCount then [.storeReady] else []
        { u with
          ctx := { CtxUnit.reset with nextMsg := s.ctx.nextMsg }
          engaged := some { sub := c.sub, stage := .confirming s.cal.counter f }
          engQueue := if raised = [] then s.engQueue
            else s.engQueue ++ [{ sub := c.sub, purposes := raised, pageReply := false, moment := s.moments }]
          moments := if raised = [] then s.moments else s.moments + 1
          subs := s.subs.set c.sub { u.sub c.sub with
            camped := some { k with cell := c.cell, anchor := anchor }, regGuard := none, areaChanged := false }
          text := { s.text with
            recent := s.text.recent.filter fun r => decide (r.sub ≠ c.sub)
            subs := s.text.subs.set c.sub { s.textOf c.sub with incoming := false, idle := .stopped, readySent := false } }
          meas := s.unmeasured c.sub
          cal := { s.cal with
            counter := s.cal.counter + 1, windows := [beaconWindow s.cal.counter c.sub c.cell.channel start 2] } }
      (∀ u : Slot, s.awake = true → s.quiet → s.ctx.release = .running u → (s.now - u).toNat < 2 ^ 31 →
        exec .releaseTimerExpiry s = .next (confirmed s)) ∧
      (∀ frame : Slot,
        ((s.textOf c.sub).readySent = false → s.received c.sub frame .release = confirmed s) ∧
        ((s.textOf c.sub).readySent = true →
          let u : State := { s with subs := s.subs.set c.sub { s.sub c.sub with memoryFull := false } }
          s.received c.sub frame .release = confirmed { u with
            link := { s.link with outbox := postIn (u.textSnapshot c.sub) 4 s.link.outbox }
            reports := s.reports ++ [.storeChanged] }))

/-! ## The handover of a connection (R103 to R118) -/

/-- R106, R107, R108, R111, R112, R114, R115: what the dedicated context unit does in a handover of a running connection. A MOVE
out of range places MOVE_FAIL(BAD_ORDER) at the head of the queue and does nothing else: of 4 messages there the newest waits
again (R105), which is the one at the tail by the model's reading (log 75), and a report is replaced by a newer one that waits
(R78), in its place by the model's reading (log 40). Any other MOVE makes the target ACTIVE, with its anchor at the first target
boundary ahead and no counter, and the old record FALLBACK: MOVING begins with the MOVE's deadline under a new reference, the
connection's PLANNED windows go, those of the access alone are planned, the mode is PAUSED, the voice path holds when a call is
CONNECTED, the moving flag of each CONNECTED record is set, and the release timer and the texts' timers are held. That no message
counts as carried from then on is the model's reading (log 88). On success the FALLBACK record is unused, the counter is the link
tolerance, MOVE_DONE is first in the queue, the camped cell is the target's, an entry of the target serves the subscription and no
other does, and the change flag is MOVED. When the deadline passes the old record is ACTIVE again, as it was held, and RETURNING
begins with D = 16. On return MOVE_FAIL(NO_ACCESS) is first in the queue and the change flag is MOVE_FAILED. Success and return
end the handover alike: two frames of DED windows are planned, the mode is DEDICATED, the voice path resumes, the moving flags are
cleared with a CALL notice, and the held timers run on. The rest of the queue is as it was while no neighbour is triggered (a
MEAS_REPORT may join it, R77), and the calls of the other subscription are as they were unless the target's entry takes the place
of one of its last (R63, R64: the round that ends then may lose it its camp; log 94). That an unconfirmed area is read again after
a return (log 30), and that the record made ACTIVE again has the purposes as they stand then (log 74), is the model's reading.

These ends come from the windows of the access (R110, R10). The first valid GRANT with its reference, in the receive window of one
of its frames, ends it in success (MOVING) or in the return (RETURNING), with the anchor renewed from the block that holds it. The
receive window of frame D + 1 that ends without one is the deadline in MOVING and the lost link in RETURNING: with a block that
holds no such GRANT, which renews the anchor but for a grant list of a target whose frame number is known (log 19), bad, FAILED,
or, by the model's reading, SKIPPED (log 31). -/
def Obligations.AMoveExchangesTheContexts : Prop :=
  ∀ (x : Sub) (c : Context) (s : State), s.connection x = some c →
    let head (m : UpMsg) : CtxUnit := { s.ctx with
      queue := { id := s.ctx.nextMsg, msg := m } :: s.ctx.queue.take 3
      waiting :=
        let back := s.ctx.queue.drop 3
        match s.ctx.waiting.find? fun q => q.msg.isReport with
        | some r => (back.map fun q => if q.msg.isReport then { q with msg := r.msg } else q) ++
            s.ctx.waiting.filter fun q => !(q.msg.isReport && back.any fun p => p.msg.isReport)
        | none => back ++ s.ctx.waiting
      nextMsg := s.ctx.nextMsg + 1 }
    let ended (t : State) (m : UpMsg) (counter : Option Nat) (start : Slot) (flag : BitVec 16) (calm settled : Prop) : Prop :=
      t.ctx = { head m with
        active := some { c with counter := counter }, spare := none, handover := .none
        queue := t.ctx.queue, waiting := t.ctx.waiting, nextMsg := t.ctx.nextMsg
        release := s.ctx.release.resume s.now, frames := t.ctx.frames, nextFrame := start + 20, areaRead := t.ctx.areaRead } ∧
      t.ctx.queue.head? = some { id := s.ctx.nextMsg, msg := m } ∧
      (calm → t.ctx.queue = (head m).queue ∧ t.ctx.waiting = ((head m).waiting.filter fun q => !q.msg.isReport) ∧
        t.ctx.nextMsg = s.ctx.nextMsg + 1) ∧
      (t.ctx.frames.map fun f => (f.start, f.rx.isSome, f.tx.isSome)) = [(start, true, true), (start + 10, true, true)] ∧
      (c.areaConfirmed = true ∨ c.f0 = none → t.ctx.areaRead = s.ctx.areaRead) ∧
      (c.areaConfirmed = false → c.f0 ≠ none → t.ctx.areaRead ≠ none) ∧
      (t.measOf x).mode = .dedicated ∧ t.voice = (if s.voiceCall = true then s.voice.resume else s.voice) ∧
      (∀ i, (settled ∨ (s.call i).sub ≠ some x.other →
          t.call i = { s.call i with moving := (s.call i).moving && decide ((s.call i).sub ≠ some x) }) ∧
        ((s.call i).sub = some x → (s.call i).moving = true →
          ∃ n ∈ t.link.outbox, n.snapshot = t.callSnapshot i ∧ n.flags &&& flag = flag)) ∧
      t.text = { s.text with
        outbox := s.text.outbox.map fun e => if e.sub = x then { e with wait := e.wait.resume s.now } else e
        subs := s.text.subs.set x { s.textOf x with idle := (s.textOf x).idle.resume s.now } } ∧
      t.store = s.store ∧ t.power = s.power ∧ t.engaged = s.engaged ∧ t.draws = s.draws
    (∀ (frame : Slot) (channel code rx tx offset deadline : Nat),
      let good := channel ≤ 2047 ∧ code ≤ 4095 ∧ 2 ≤ rx ∧ rx ≤ 9 ∧ 2 ≤ tx ∧ tx ≤ 9 ∧ (rx + 2 ≤ tx ∨ tx + 2 ≤ rx) ∧ offset ≤ 9 ∧
        1 ≤ deadline ∧ deadline ≤ 64
      let t := s.received x frame (.move channel code rx tx offset deadline)
      (¬good → t = { s with ctx := head (.moveFail true) }) ∧
      (good → ∃ (base : Slot) (frames : List AccessFrame),
        ((s.now + 1 - (c.s0 + BitVec.ofNat 32 offset)).toNat < 2 ^ 31 →
          (base - c.s0).toNat % 10 = offset ∧ 1 ≤ (base - s.now).toNat ∧ (base - s.now).toNat ≤ 10) ∧
        t = { s with
          cal := t.cal, reports := t.reports, meas := t.meas, link := t.link, calls := t.calls, draws := s.draws + 1
          ctx := { s.ctx with
            active := some
              { sub := x, cell := { channel := channel, code := code }, area := c.area, areaConfirmed := false, s0 := base
                f0 := none, rx := rx, tx := tx, purposes := c.purposes, counter := none, role := .active }
            spare := some { c with role := .fallback }
            handover := .moving { reference := Config.reference s.draws, deadline := deadline, base := base, frames := frames }
            waiting := s.ctx.waiting.filter fun q => !q.msg.isReport
            frames := [], carrying := [], areaRead := none, release := s.ctx.release.hold s.now }
          voice := if s.voiceCall = true then { s.voice with hold := true } else s.voice
          text := { s.text with
            outbox := s.text.outbox.map fun e => if e.sub = x then { e with wait := e.wait.hold s.now } else e
            subs := s.text.subs.set x { s.textOf x with idle := (s.textOf x).idle.hold s.now } } } ∧
        (frames.map fun f => (f.number, f.tx.isSome, f.rx.isSome)) = [(1, true, false), (2, decide (2 ≤ deadline), true)] ∧
        (t.measOf x).mode = .paused ∧ (t.measOf x).rounds = [] ∧
        (∀ w ∈ t.cal.windows, w.owner = .sub x → w.reporter = .context → w.state = .planned →
          w.purpose = .accessTx ∨ w.purpose = .grantRx) ∧
        ∀ i, t.call i = { s.call i with
          moving := (s.call i).moving || decide ((s.call i).sub = some x ∧ (s.call i).state = .connected) })) ∧
    (∀ (a : Access) (start : Slot), s.ctx.handover = .moving a → s.modesLegal →
      ended (s.moveSucceeded x start) .moveDone (some (s.tolerance x)) start 8 True
        (s.meas.entries.length < 24 ∨ (∃ e ∈ s.meas.entries, e.cell = c.cell) ∨ (s.measOf x.other).rounds = []) ∧
      ((s.moveSucceeded x start).sub x).camped = ((s.sub x).camped.map fun k =>
        { k with cell := c.cell, anchor := { s0 := c.s0, f0 := c.f0.getD k.anchor.f0 } }) ∧
      (∃ n ∈ (s.moveSucceeded x start).link.outbox, n.snapshot = (s.moveSucceeded x start).subSnapshot x ∧ n.flags &&& 2 = 2) ∧
      (s.meas.legal →
        (∃ e ∈ (s.moveSucceeded x start).meas.entries, e.serving.get x = true) ∧
        ∀ e ∈ (s.moveSucceeded x start).meas.entries, (e.serving.get x = true → e.cell = c.cell) ∧ e.trigger.get x = 0)) ∧
    (∀ (a : Access) (old : Context), s.ctx.handover = .moving a → s.ctx.spare = some old →
      ∃ (base : Slot) (frames : List AccessFrame),
        s.moveTimedOut x = { s with
          cal := (s.moveTimedOut x).cal, reports := (s.moveTimedOut x).reports, draws := s.draws + 1
          ctx := { s.ctx with
            active := some { old with role := .active, purposes := c.purposes }, spare := none
            handover := .returning { reference := Config.reference s.draws, deadline := 16, base := base, frames := frames } } } ∧
        ((s.now + 1 - old.s0).toNat < 2 ^ 31 → (base - old.s0).toNat % 10 = 0 ∧ 1 ≤ (base - s.now).toNat ∧
          (base - s.now).toNat ≤ 10)) ∧
    (∀ (a : Access) (start : Slot), s.ctx.handover = .returning a → s.ctx.spare = none →
      ended (s.returned x start) (.moveFail false) c.counter start 16 (∀ e ∈ s.meas.entries, s.triggered x e = false) True ∧
      (s.returned x start).subs = s.subs) ∧
    (∀ (a : Access) (f : AccessFrame) (w : Window), s.ctx.handover = .moving a ∨ s.ctx.handover = .returning a →
      w.owner = .sub x → w.reporter = .context → w.purpose = .grantRx →
      (a.frames.find? fun g => decide (g.tx = some w.id ∨ g.rx = some w.id)) = some f →
      let answers (g : Grant) : Prop := g.reference = a.reference ∧ 2 ≤ g.rx ∧ g.rx ≤ 9 ∧ 2 ≤ g.tx ∧ g.tx ≤ 9 ∧
        (g.rx + 2 ≤ g.tx ∨ g.tx + 2 ≤ g.rx)
      let renewed (fr : FrameNo) : State := { s with
        ctx := { s.ctx with active := some { c with s0 := w.start - BitVec.ofNat 32 c.rx, f0 := some fr } } }
      (∀ (fr : FrameNo) (pre post : List Grant) (g : Grant) (l : Nat), (∀ h ∈ pre, ¬answers h) → answers g →
        let u := renewed fr
        s.handOver w (.done (.block (.grant fr (pre ++ g :: post)) l)) =
          if s.ctx.handover = .moving a then u.moveSucceeded x (slotAdd a.base (10 * f.number))
          else u.returned x (slotAdd a.base (10 * f.number))) ∧
      (∀ e, (∃ l, e = .done (.bad l)) ∨ e = .failed ∨ (∃ k v, e = .skipped k v) → f.number = a.deadline + 1 →
        f.rx = some w.id →
        s.handOver w e = if s.ctx.handover = .moving a then s.moveTimedOut x else s.linkLost x) ∧
      (∀ (b : Block) (l : Nat), (∀ fr gs, b = .grant fr gs → ∀ g ∈ gs, ¬answers g) → f.number = a.deadline + 1 →
        f.rx = some w.id →
        let kept : Prop := s.ctx.handover = .moving a ∧ c.f0 ≠ none ∧ ∃ fr gs, b = .grant fr gs
        let ends (u : State) : Prop :=
          s.handOver w (.done (.block b l)) = if s.ctx.handover = .moving a then u.moveTimedOut x else u.linkLost x
        (kept → ends s) ∧ (¬kept → ends (renewed (blockFrame b)))))

/-! ## Calls (R81 to R102) -/

/-- R83: CALL_DIAL is checked in the order of the table, and the first check that fails is answered: a value out of range
BAD_VALUE, a subscription neither CAMPED nor ENGAGED or with a LEAVE purpose open WRONG_STATE, no record available NO_ROOM, the
other record neither FREE nor BLOCKED BUSY. A refused dial changes nothing. That the LEAVE purpose is open until DETACHED, also
after LEAVE counts as sent, is the model's reading (log 41). -/
def Obligations.ADialIsCheckedInOrder : Prop :=
  ∀ (tag sub : Byte) (number : Digits) (s : State), s.accepts tag (.callDial sub number) → s.quiet →
    let good := subOf sub ≠ none ∧ 1 ≤ number.length ∧ number.length ≤ 20 ∧ ∀ d ∈ number, d.toNat ≤ 9
    (¬good → exec (.callDial tag sub number) s = .next (s.replied tag 0x20 .badValue .none)) ∧
    (good → ∀ x, subOf sub = some x →
      (((s.sub x).state ≠ .camped ∧ (s.sub x).state ≠ .engaged) ∨ (s.sub x).detaching ≠ none →
        exec (.callDial tag sub number) s = .next (s.replied tag 0x20 .wrongState .none)) ∧
      ((s.sub x).state = .camped ∨ (s.sub x).state = .engaged → (s.sub x).detaching = none →
        (s.freeRecord = none → exec (.callDial tag sub number) s = .next (s.replied tag 0x20 .noRoom .none)) ∧
        (∀ i, s.freeRecord = some i → (s.call i.other).state ≠ .free → (s.call i.other).state ≠ .blocked →
          exec (.callDial tag sub number) s = .next (s.replied tag 0x20 .busy .none))))

/-- R82, R84, R34, R35, R85, R117: an accepted CALL_DIAL takes the available record of lower call id, is answered DONE with its
call id, and posts a CALL notice with STATE. On a CAMPED subscription with the radio free, here with nothing else to be granted,
the request is granted at once: the record is REQUESTING and the subscription ENGAGED in an attempt for CALL, whose first burst
stands in slot 8 of the first frame of which that slot lies at least 3 slots ahead; a SUB notice is posted with STATE. On a CAMPED
subscription while the radio is held, and in a confirming read, the record is DIALLING and CALL joins the subscription's request
or makes one. On an ENGAGED one with an access attempt running, the record is REQUESTING and CALL joins the purposes of the
attempt. On a running connection in a handover, or with no registration open and DONE not sent, CALL joins its purposes, an unsent
DONE leaves the queue and DIAL is offered: the record is OFFERING, with a timer of 60,000 slots. With a registration open the
record is DIALLING and CALL joins likewise. Once DONE has been sent, counted as sent or carried by an ORDERED window, outside a
handover, the record is DIALLING and nothing is joined. Nothing else changes. -/
def Obligations.AnAcceptedDialTakesARecord : Prop :=
  ∀ (tag sub : Byte) (number : Digits) (x : Sub) (i : CallId) (s : State), s.accepts tag (.callDial sub number) → s.quiet →
    s.engagedLegal → subOf sub = some x → 1 ≤ number.length → number.length ≤ 20 → (∀ d ∈ number, d.toNat ≤ 9) → (s.sub x).detaching = none →
    s.freeRecord = some i → ((s.call i.other).state = .free ∨ (s.call i.other).state = .blocked) →
    let record (st : CallState) : CallRec :=
      { sub := some x, direction := some .out, state := st, number := some number, cause := none, answered := false
        arrived := false, moving := false, ringWaits := false, timer := none }
    let told (st : CallState) : Link := { (s.replied tag 0x20 .done (.callId i)).link with
      outbox := postIn (.call i x .out st (some number) none false false) 1 s.link.outbox }
    let run := exec (.callDial tag sub number) s
    let waits (u : State) : State := { u with calls := (s.setCall i (record .dialling)).calls, link := told .dialling }
    (∀ k, (s.sub x).state = .camped → s.engaged = none → s.engQueue = [] → s.grantsAlone x k →
      s.holdsOnly x [.pageRx, .beaconRx] →
      ∃ (t : State) (start : Slot) (f : FrameNo), run = .next t ∧ burstSlot k.anchor s.now start f ∧
        t = { s.attempting x k .call .callOut start f with
          calls := (s.setCall i (record .requesting)).calls
          link := { told .requesting with outbox := postIn (t.subSnapshot x) 1 (told .requesting).outbox } }) ∧
    (((s.sub x).state = .camped ∧ s.engaged ≠ none) ∨ s.confirms x = true →
      run = .next (waits (s.queuedFor x .call false))) ∧
    (∀ a, s.engaged = some { sub := x, stage := .attempt a } →
      run = .next { s with
        calls := (s.setCall i (record .requesting)).calls
        engaged := some { sub := x, stage := .attempt { a with purposes := withPurpose .call a.purposes } }
        link := told .requesting }) ∧
    (∀ c, s.engaged = some { sub := x, stage := .connected } → s.connection x = some c →
      (s.ctx.handover ≠ .none ∨ (Purpose.register ∉ c.purposes ∧ s.doneGone = false) →
        run = .next { s with
          calls := (s.setCall i { record .offering with timer := some (slotAdd s.now 60000) }).calls
          ctx := ((s.joinedBy c .call).offer (.dial number)).ctx
          link := told .offering }) ∧
      (s.ctx.handover = .none → Purpose.register ∈ c.purposes → s.doneGone = false →
        run = .next (waits (s.joinedBy c .call))) ∧
      (s.ctx.handover = .none → s.doneGone = true → run = .next (waits s)))

/-- R88: CALL_ANSWER. An id other than 1 and 2 is answered BAD_VALUE, a FREE record UNKNOWN_ITEM, a record in a state other than
INCOMING and BLOCKED WRONG_STATE, a BLOCKED one whose subscription uses the other record BUSY; nothing changes. On an INCOMING
record the answer is DONE: one answered already stands; one not yet arrived, or whose RING waits, which by the model's reading is
not yet ANSWERING (log 33), is marked answered and waits, and the snapshot of a pending CALL notice is renewed; one that arrived,
and whose RING does not wait, has TAKE offered and is ANSWERING with a timer of 20,000 slots, and a CALL notice is posted with
STATE. A BLOCKED record that is answered is INCOMING and answered, with a timer of 60,000 slots and a CALL notice with STATE; a
call of the other subscription, here one that RINGS_OUT, is ANSWERING or CONNECTED, is cleared first with DROP(LOCAL). A page
reply with the purpose CALL is asked for it (R34, R38): on a CAMPED subscription with the radio free, here with nothing else to be
granted, it is granted at once, as an attempt with the purpose PAGE_REPLY, and a SUB notice is posted with STATE; on a CAMPED one
with the radio held, and in a confirming read, it joins the subscription's request or makes one; CALL joins a running access
attempt, and a connection that has not sent DONE, whose unsent DONE leaves the queue. On a connection that has sent DONE (log 86),
and on a subscription that is SEARCHING, has no service (log 70) or is detaching (log 41), nothing is asked, by the model's
reading. Nothing else changes. -/
def Obligations.CallAnswerByState : Prop :=
  ∀ (tag id : Byte) (s : State), s.accepts tag (.callAnswer id) → s.quiet →
    let done : Link := (s.replied tag 0x21 .done .none).link
    (callIdOf id = none → exec (.callAnswer tag id) s = .next (s.replied tag 0x21 .badValue .none)) ∧
    (∀ i, callIdOf id = some i →
      ((s.call i).state = .free → exec (.callAnswer tag id) s = .next (s.replied tag 0x21 .unknownItem .none)) ∧
      ((s.call i).state ∉ [CallState.free, .incoming, .blocked] →
        exec (.callAnswer tag id) s = .next (s.replied tag 0x21 .wrongState .none)) ∧
      ((s.call i).state = .blocked → (s.call i.other).state ≠ .free → (s.call i).sub ≠ none →
        (s.call i.other).sub = (s.call i).sub → exec (.callAnswer tag id) s = .next (s.replied tag 0x21 .busy .none)) ∧
      ((s.call i).state = .incoming →
        ((s.call i).answered = true → exec (.callAnswer tag id) s = .next (s.replied tag 0x21 .done .none)) ∧
        ((s.call i).answered = false → (s.call i).arrived = false ∨ (s.call i).ringWaits = true →
          ∃ t : State, exec (.callAnswer tag id) s = .next t ∧
            t = { s with
              calls := (s.setCall i { s.call i with answered := true }).calls
              link := { done with
                outbox := if ∃ n ∈ s.link.outbox, n.snapshot.key = (NoticeKind.call, callNumber i)
                  then postIn (t.callSnapshot i) 0 s.link.outbox else s.link.outbox } }) ∧
        ((s.call i).answered = false → (s.call i).arrived = true → (s.call i).ringWaits = false →
          ∃ t : State, exec (.callAnswer tag id) s = .next t ∧
            t = { s with
              calls := (s.setCall i { s.call i with
                answered := true, state := .answering, timer := some (slotAdd s.now 20000) }).calls
              ctx := (s.offer .take).ctx
              link := { done with outbox := postIn (t.callSnapshot i) 1 s.link.outbox } })) ∧
      (∀ x, (s.call i).state = .blocked → (s.call i).sub = some x →
        let other := s.call i.other
        let run := exec (.callAnswer tag id) s
        let incoming : CallRec :=
          { s.call i with answered := true, state := .incoming, timer := some (slotAdd s.now 60000) }
        let clears := other.state ∈ [CallState.ringingOut, .answering, .connected] ∧ other.sub = some x.other
        let asks := (s.sub x).detaching = none ∧
          (((s.sub x).state = .camped ∧ s.engaged ≠ none) ∨
            ((s.sub x).state = .engaged ∧ s.confirms x = true))
        (other.state = .free ∨ clears →
          asks ∨ (s.sub x).state = .searching ∨ (s.sub x).state = .noService ∨ (s.sub x).detaching ≠ none →
          ∃ t : State, run = .next t ∧
            t = { (if asks then s.queuedFor x .call true else s) with
              calls := ((s.setCall i incoming).setCall i.other
                (if clears then
                  { other with state := .clearing, cause := some .byHost, ringWaits := false, timer := some (slotAdd s.now 4000) }
                else other)).calls
              ctx := if clears then (s.offer (.drop .byHost)).ctx else s.ctx
              voice := if clears ∧ other.state = .connected then s.voice.stop else s.voice
              link := { done with
                outbox := postIn (t.callSnapshot i) 1
                  (if clears then postIn (t.callSnapshot i.other) 1 s.link.outbox else s.link.outbox) } }) ∧
        (other.state = .free → (s.sub x).detaching = none →
          let told (u : State) : State :=
            let v : State := { u with calls := (s.setCall i incoming).calls }
            { v with link := { done with outbox := postIn (v.callSnapshot i) 1 s.link.outbox } }
          (∀ k, (s.sub x).state = .camped → s.engaged = none → s.engQueue = [] → s.grantsAlone x k →
            s.holdsOnly x [.pageRx, .beaconRx] →
            ∃ (t : State) (start : Slot) (f : FrameNo), run = .next t ∧ burstSlot k.anchor s.now start f ∧
              let u := told (s.attempting x k .call .pageReply start f)
              t = { u with link := { u.link with outbox := postIn (u.subSnapshot x) 1 u.link.outbox } }) ∧
          (∀ a, (s.sub x).state = .engaged → s.engaged = some { sub := x, stage := .attempt a } →
            run = .next (told { s with
              engaged := some { sub := x, stage := .attempt { a with purposes := withPurpose .call a.purposes } } })) ∧
          (∀ c, (s.sub x).state = .engaged → s.engaged = some { sub := x, stage := .connected } → s.connection x = some c →
            run = .next (told (if s.doneGone = true then s else s.joinedBy c .call))))))

/-- R92, R116, R95, R96, R99: CALL_END. An id other than 1 and 2 is answered BAD_VALUE, a FREE record UNKNOWN_ITEM, and nothing
changes. Any other record is answered DONE; outside a handover of its connection a CLEARING one stands. One that is DIALLING,
REQUESTING or BLOCKED, an INCOMING one that has not arrived, and an OFFERING one whose DIAL is unsent, which leaves the queue, is
FREE with cause LOCAL, and its CALL purpose leaves what holds it: of a BLOCKED one only on a running connection, by the model's
reading (log 25). One that is RINGING_OUT, ANSWERING or CONNECTED, an INCOMING one that arrived, and an OFFERING one whose DIAL
was sent, has DROP(LOCAL) offered and is CLEARING with cause LOCAL and a timer of 4000 slots, and the voice port stops when it was
CONNECTED. In a handover every record of the subscription is FREE, with cause LOCAL or, for the one named, CLEARING, with its
own, each with a CALL notice with STATE, and the connection ends: both context records are unused, and the subscription is
SEARCHING, or DETACHED when it was detaching, and the writes of its open reassembly entries, closed INCOMPLETE, are queued then
(R142, R147); a SUB notice is posted with STATE and CELL. What else that end leaves is stated here for a subscription that is not
detaching, while no other request waits, no text is being sent, no round and no reselection read is in progress, and the calendar
holds PLANNED windows of the connection alone: a search begins with one SEARCH window for each channel, the subscription serves
and owns no entry of the table, its mode is NONE, its incoming reason and recent records are gone, and nothing else changes.
Outside a handover a CALL notice is posted with STATE, and nothing else changes. CALL leaves a connection when no record of the subscription is in use: REGISTER then joins it when the area changed in
the call, with ENROL offered, unless it is open there already, by the model's reading (log 87), and otherwise DONE is queued when
no purpose remains. Without a connection it leaves the request and the attempt that hold it, unless another call is under way; that a
request with purposes left stays a page reply is the model's reading (log 73). -/
def Obligations.CallEndByState : Prop :=
  (∀ (tag id : Byte) (s : State), s.accepts tag (.callEnd id) → s.quiet →
    let run := exec (.callEnd tag id) s
    (callIdOf id = none → run = .next (s.replied tag 0x22 .badValue .none)) ∧
    (∀ i, callIdOf id = some i →
      let told (r : CallRec) : State :=
        let u : State := { s.replied tag 0x22 .done .none with calls := (s.setCall i r).calls }
        { u with link := { u.link with outbox := postIn (u.callSnapshot i) 1 u.link.outbox } }
      let freed := told { s.call i with state := .free, cause := some .byHost, moving := false, ringWaits := false, timer := none }
      ((s.call i).state = .free → run = .next (s.replied tag 0x22 .unknownItem .none)) ∧
      (s.ctx.handover = .none ∨ (s.call i).state = .blocked ∨ (∃ x, (s.call i).sub = some x ∧ s.connection x = none) →
        ((s.call i).state = .clearing → run = .next (s.replied tag 0x22 .done .none)) ∧
        (∀ x, (s.call i).sub = some x →
          ((s.call i).state = .blocked → run = if s.connection x = none then .next freed else settle (freed.callGone x)) ∧
          ((s.call i).state = .dialling ∨ (s.call i).state = .requesting ∨
              ((s.call i).state = .incoming ∧ (s.call i).arrived = false) → run = settle (freed.callGone x)) ∧
          ((s.call i).state = .offering → s.unsent UpMsg.isDial = true →
            run = settle ((freed.removeMsgs UpMsg.isDial).callGone x))) ∧
        ((s.call i).state ∈ [CallState.ringingOut, .answering, .connected] ∨
            ((s.call i).state = .incoming ∧ (s.call i).arrived = true) ∨
            ((s.call i).state = .offering ∧ s.unsent UpMsg.isDial = false) →
          run = .next { told { s.call i with
              state := .clearing, cause := some .byHost, ringWaits := false, timer := some (slotAdd s.now 4000) } with
            ctx := (s.offer (.drop .byHost)).ctx
            voice := if (s.call i).state = .connected then s.voice.stop else s.voice })) ∧
      (∀ x c, s.ctx.handover ≠ .none → (s.call i).sub = some x → s.connection x = some c →
        (s.call i).state ≠ .free → (s.call i).state ≠ .blocked →
        ∃ v : State, run = settle v ∧ v.ctx = { CtxUnit.reset with nextMsg := s.ctx.nextMsg } ∧
          (∀ j, (s.call j).sub = some x → (s.call j).state ≠ .free →
            v.call j = { s.call j with
              state := .free, moving := false, ringWaits := false, timer := none
              cause := some (if j = i ∧ (s.call i).state = .clearing then (s.call i).cause.getD .byHost else .byHost) } ∧
            ∃ n ∈ v.link.outbox, n.snapshot = v.callSnapshot j ∧ n.flags &&& 1 = 1) ∧
          (v.sub x).state = (if (s.sub x).detaching = none then .searching else .detached) ∧ (v.sub x).camped = none ∧
          (∃ n ∈ v.link.outbox, n.snapshot = v.subSnapshot x ∧ n.flags &&& 3 = 3) ∧
          (s.replied tag 0x22 .done .none).link.filled <+: v.link.filled ∧
          ((∀ q ∈ s.engQueue, q.sub = x) → ∀ j, (s.call j).sub ≠ some x ∨ (s.call j).state = .free → v.call j = s.call j) ∧
          v.voice = (if (s.call i).state = .connected ∨
              ((s.call i.other).sub = some x ∧ (s.call i.other).state = .connected) then s.voice.stop else s.voice) ∧
          v.store = { s.store with
            queue := s.store.queue ++
              if (s.sub x).detaching = none then []
              else (s.text.table.filter fun e => decide (e.sub = x ∧ e.closing = none)).filterMap fun e =>
                e.slot.map fun p => .write p {
                  header := {
                    number := 0, sub := x, sender := e.sender, time := 0, count := e.count, present := e.parts.map Prod.fst
                    complete := false }
                  body := e.parts.flatMap Prod.snd } } ∧
          v.power = s.power ∧
          ((s.sub x).detaching = none → s.engaged = some { sub := x, stage := .connected } → (∀ q ∈ s.engQueue, q.sub = x) →
            s.sendingEntry x = none → (∀ y, (s.measOf y).rounds = []) → (s.measOf x).resel = .none →
            (∀ e ∈ s.meas.entries, e.bound = none) → (s.meas.entries.map Entry.index).Nodup → (s.sub x.other).target = none →
            (∀ w ∈ s.cal.windows, w.owner = .sub x ∧ w.reporter = .context ∧ w.state = .planned) → s.cal.quiet = false →
            (s.sub x).channels.length ≤ 32 →
            let ws := searchWindows s.cal.counter s.now x (s.sub x).channels
            v = { s with
              calls := v.calls, voice := v.voice, ctx := v.ctx, engaged := none, engQueue := []
              subs := s.subs.set x { s.sub x with
                state := .searching, camped := none, target := none, reason := none, page := none, refresh := none
                regGuard := none, areaChanged := false, search := .sampling (ws.map fun w => (w.id, w.channel)) [] }
              text := { s.text with
                recent := s.text.recent.filter fun r => decide (r.sub ≠ x)
                subs := s.text.subs.set x { s.textOf x with incoming := false, idle := .stopped, readySent := false } }
              meas := { s.unmeasured x with entries := v.meas.entries }
              cal := { s.cal with windows := ws, counter := s.cal.counter + BitVec.ofNat 32 ws.length }
              link := { (s.replied tag 0x22 .done .none).link with outbox := v.link.outbox } } ∧
            (v.meas.entries.map fun e => (e.cell, e.level)) =
              ((s.meas.entries.filter fun e => e.owner.get x.other || e.serving.get x.other).map fun e => (e.cell, e.level)) ∧
            (∀ e ∈ v.meas.entries, e.owner.get x = false ∧ e.serving.get x = false) ∧
            ∀ n : Notice, n.snapshot.key ≠ (v.subSnapshot x).key →
              (∀ j, (s.call j).sub = some x → (s.call j).state ≠ .free → n.snapshot.key ≠ (v.callSnapshot j).key) →
              (n ∈ v.link.outbox ↔ n ∈ s.link.outbox))))) ∧
  (∀ (x : Sub) (s : State),
    (∀ c, s.connection x = some c →
      (s.inUse x = true → s.callGone x = s) ∧
      (s.inUse x = false → Purpose.leave ∉ c.purposes →
        ((s.sub x).areaChanged = false ∨ Purpose.call ∉ c.purposes ∨ Purpose.register ∈ c.purposes →
          s.callGone x = s.leftBy c .call) ∧
        ((s.sub x).areaChanged = true → (s.sub x).detaching = none → Purpose.call ∈ c.purposes →
          Purpose.register ∉ c.purposes →
          s.callGone x = (({ s with
            ctx := { s.ctx with
              active := some { c with purposes := c.purposes.filter (fun p => decide (p ≠ .call)) ++ [.register] } } } :
              State).removeMsgs UpMsg.isDone).offer
            (.enrol ((s.sub x).identity.getD 0) (s.sub x).area)))) ∧
    (s.connection x = none →
      (s.callOf x ≠ none → s.callGone x = s) ∧
      (s.callOf x = none → (∀ a, s.engaged ≠ some { sub := x, stage := .attempt a }) →
        s.callGone x = { s with engQueue := queueWithout x .call s.engQueue }) ∧
      (∀ a, s.callOf x = none → s.engaged = some { sub := x, stage := .attempt a } →
        let rest := a.purposes.filter fun p => decide (p ≠ .call)
        let u : State := { s with engQueue := queueWithout x .call s.engQueue }
        (rest ≠ [] →
          s.callGone x = { u with engaged := some { sub := x, stage := .attempt { a with purposes := rest } } }) ∧
        (rest = [] → s.callGone x = ((u.withdrawAttempt x).backToCamped x).grantIfFree))))

/-- R86, R87, R89, R90, R91, R93, R94, R100: what the timers and the network do to a call. CALL_TIMER_EXPIRY: outside a handover
of the call's connection an OFFERING or RINGING_OUT record has DROP(NO_ANSWER) offered and is CLEARING with cause NO_ANSWER; an
ANSWERING one has DROP(NORMAL) offered and is CLEARING with cause NO_ANSWER; an INCOMING one that arrived has DROP(NO_ANSWER)
offered and is CLEARING with cause NO_ANSWER when it was answered, which by the model's reading can be while RING waits (log 33),
and NOT_ANSWERED otherwise; each with a timer of 4000 slots. In a handover each of these is FREE with cause MOVE_LOST. An INCOMING
one that has not arrived is FREE with cause NO_ANSWER or NOT_ANSWERED, as it was answered or not, a CLEARING one is FREE with its
own cause, a BLOCKED one with cause NOT_ANSWERED. The CALL purpose of a record that is FREE leaves what holds it, of a BLOCKED one
only on a running connection, by the model's reading (log 25). A CALL notice is posted with STATE. The messages of the network on
a connection: PROGRESS makes an OFFERING record RINGING_OUT, with a timer of 120,000 slots, and posts PROGRESSED with STATE. A
JOIN moves the DED windows of the frames after its own that are still PLANNED, here one such frame and nothing else in the
calendar, to its offsets, and makes a record that is OFFERING, RINGING_OUT or ANSWERING CONNECTED, which starts the voice port.
DROP has DROP_OK offered; the record is FREE with the cause it names, a CLEARING one with its own, and one that is still DIALLING,
or no call, stands, by the model's reading (log 32). DROP_OK frees a CLEARING record with its own cause. ARRIVE gives an INCOMING
record that has not arrived its number and posts CALLER; RING is offered and the timer set to 60,000 slots, and, when it was
answered, TAKE follows and it is ANSWERING, with a timer of 20,000 slots, which posts STATE; with a registration open RING waits.
With no call of the connection an ARRIVE has DROP(LOCAL) offered. In every other state PROGRESS, DROP_OK and ARRIVE change nothing
and a JOIN moves the offsets alone, by the model's reading (log 72), and how windows planned for later frames are moved is its
reading too (log 48). -/
def Obligations.TimersAndTheNetworkMoveTheCall : Prop :=
  (∀ (i : CallId) (u : Slot) (x : Sub) (s : State), s.awake = true → s.quiet → (s.call i).timer = some u →
    (s.now - u).toNat < 2 ^ 31 → (s.call i).sub = some x →
    let run := exec (.callTimerExpiry i) s
    let moving := s.ctx.handover ≠ .none ∧ s.connection x ≠ none
    let told (r : CallRec) : State :=
      let v : State := { s with calls := (s.setCall i r).calls }
      { v with link := { v.link with outbox := postIn (v.callSnapshot i) 1 v.link.outbox } }
    let freed (c : CallCause) : State :=
      told { s.call i with state := .free, cause := some c, moving := false, ringWaits := false, timer := none }
    let cleared (c : CallCause) (d : OwnDropCause) : State := { told { s.call i with
        state := .clearing, cause := some c, ringWaits := false, timer := some (slotAdd s.now 4000) } with
      ctx := (s.offer (.drop d)).ctx }
    let unanswered : CallCause := if (s.call i).answered = true then .noAnswer else .notAnswered
    (¬moving →
      ((s.call i).state = .offering ∨ (s.call i).state = .ringingOut → run = .next (cleared .noAnswer .noAnswer)) ∧
      ((s.call i).state = .answering → run = .next (cleared .noAnswer .normal)) ∧
      ((s.call i).state = .incoming → (s.call i).arrived = true → run = .next (cleared unanswered .noAnswer))) ∧
    (moving → (s.call i).state ∈ [CallState.offering, .ringingOut, .answering] ∨
        ((s.call i).state = .incoming ∧ (s.call i).arrived = true) →
      run = settle ((freed .moveLost).callGone x)) ∧
    ((s.call i).state = .incoming → (s.call i).arrived = false → run = settle ((freed unanswered).callGone x)) ∧
    ((s.call i).state = .clearing →
      run = settle ((freed ((s.call i).cause.getD .noAnswer)).callGone x)) ∧
    ((s.call i).state = .blocked →
      run = if s.connection x = none then .next (freed .notAnswered) else settle ((freed .notAnswered).callGone x))) ∧
  (∀ (x : Sub) (c : Context) (frame : Slot) (s : State), s.connection x = some c →
    let net := s.received x frame
    let good (rx tx : Nat) : Prop := 2 ≤ rx ∧ rx ≤ 9 ∧ 2 ≤ tx ∧ tx ≤ 9 ∧ (rx + 2 ≤ tx ∨ tx + 2 ≤ rx)
    let dialled (caller : Option Digits) : Prop :=
      ∀ ds, caller = some ds → 1 ≤ ds.length ∧ ds.length ≤ 20 ∧ ∀ d ∈ ds, d.toNat ≤ 9
    (s.callOf x = none →
      net .progress = s ∧ net .dropOk = s ∧ (good c.rx c.tx → net (.join c.rx c.tx) = s) ∧
      (∀ cause, net (.drop cause) = s.offer .dropOk) ∧
      ∀ caller, dialled caller → net (.arrive caller) = s.offer (.drop .byHost)) ∧
    (∀ i, s.callOf x = some i →
      let r := s.call i
      (net .progress = if r.state = .offering then
          s.callTold i { r with state := .ringingOut, timer := some (slotAdd s.now 120000) } 3
        else s) ∧
      (good c.rx c.tx → net (.join c.rx c.tx) =
        if r.state ∈ [CallState.offering, .ringingOut, .answering] then
          { s.callTold i { r with state := .connected, timer := none } 1 with voice := s.voice.start }
        else s) ∧
      (∀ cause : DropCause,
        let named : CallCause := match cause with
          | .normal => .normal
          | .busyFar => .busyFar
          | .noAnswer => .noAnswer
          | .rejected => .rejected
        net (.drop cause) = if r.state = .dialling then s.offer .dropOk
          else (s.offer .dropOk).callFreed x i (if r.state = .clearing then r.cause.getD named else named)) ∧
      (net .dropOk = if r.state = .clearing then s.callFreed x i (r.cause.getD .normal) else s) ∧
      (∀ caller, dialled caller →
        let here : CallRec := { r with number := caller, arrived := true }
        (r.state ≠ .incoming ∨ r.arrived = true → net (.arrive caller) = s) ∧
        (r.state = .incoming → r.arrived = false →
          (Purpose.register ∈ c.purposes → net (.arrive caller) = s.callTold i { here with ringWaits := true } 4) ∧
          (Purpose.register ∉ c.purposes →
            (r.answered = false → net (.arrive caller) =
              { s.callTold i { here with ringWaits := false, timer := some (slotAdd s.now 60000) } 4 with
                ctx := (s.offer .ring).ctx }) ∧
            (r.answered = true → net (.arrive caller) =
              { s.callTold i
                  { here with ringWaits := false, state := .answering, timer := some (slotAdd s.now 20000) } 5 with
                ctx := ((s.offer .ring).offer .take).ctx }))))) ∧
    (∀ rx tx, ¬good rx tx → net (.join rx tx) = s) ∧
    (∀ (rx tx : Nat) (f g : DedFrame) (v w : Window), good rx tx → (rx ≠ c.rx ∨ tx ≠ c.tx) → s.ctx.frames = [f, g] →
      2 ^ 31 - 1 ≤ (f.start - (frame + 1)).toNat → (g.start - (frame + 1)).toNat < 2 ^ 31 - 1 → g.rx = some v.id →
      g.tx = some w.id → v.id ≠ w.id → s.cal.quiet = false →
      (s.cal.windows = [v, w] ∨ s.cal.windows = [w, v]) → v.state = .planned → w.state = .planned → v.withdrawn = false →
      w.withdrawn = false → 3 ≤ (g.start - s.now).toNat → (g.start - s.now).toNat < 2 ^ 31 - 10 →
      let ded (id : WinId) (p : WinPurpose) (at_ : Nat) : Window :=
        { id := id, owner := .sub c.sub, reporter := .context, purpose := p, cls := .dedicated, channel := c.cell.channel
          start := slotAdd g.start at_, len := 1, requested := slotAdd g.start at_, slack := none, block := none
          state := .planned, withdrawn := false }
      let one := ded s.cal.counter .dedRx rx
      let two := ded (s.cal.counter + 1) .dedTx tx
      net (.join rx tx) = ({ s with
        ctx := { s.ctx with
          active := some { c with rx := rx, tx := tx }
          frames := [f, { g with rx := some s.cal.counter, tx := some (s.cal.counter + 1) }] }
        cal := { s.cal with
          counter := s.cal.counter + 2, windows := if rx < tx then [one, two] else [two, one] } } : State).received x frame
            (.join rx tx)))

/-! ## The voice path (R119 to R133) -/

/-- R129: VOICE_SET. A value out of range is answered BAD_VALUE, before the state is looked at; while a call is CONNECTED the
answer is WRONG_STATE; in both cases nothing changes. Otherwise it is answered DONE, each value given takes effect at once and one
that is absent stands. Nothing else changes. That an octet which names no setting is out of range is the model's reading (log 17).
-/
def Obligations.VoiceSetAppliesWhatItNames : Prop :=
  ∀ (tag : Byte) (clock frame rate polarity idle : Option Byte) (s : State),
    s.accepts tag (.voiceSet clock frame rate polarity idle) → s.quiet →
    let good := (∀ o ∈ clock, o.toNat ≤ 1) ∧ (∀ o ∈ frame, o.toNat ≤ 1) ∧ (∀ o ∈ rate, o.toNat ≤ 2) ∧
      (∀ o ∈ polarity, o.toNat ≤ 1) ∧ ∀ o ∈ idle, o.toNat ≤ 1
    let role (o : Byte) : PortRole := if o = 0 then .drive else .follow
    let old := s.voice.settings
    (¬good → exec (.voiceSet tag clock frame rate polarity idle) s = .next (s.replied tag 0x28 .badValue .none)) ∧
    (good → (∃ i, (s.call i).state = .connected) →
      exec (.voiceSet tag clock frame rate polarity idle) s = .next (s.replied tag 0x28 .wrongState .none)) ∧
    (good → (∀ i, (s.call i).state ≠ .connected) →
      exec (.voiceSet tag clock frame rate polarity idle) s = .next { s.replied tag 0x28 .done .none with
        voice := { s.voice with settings := {
          clock := (clock.map role).getD old.clock
          frame := (frame.map role).getD old.frame
          rate := (rate.map fun o =>
            if o = 0 then ClockRate.khz256 else if o = 1 then .khz512 else .khz1024).getD old.rate
          activeHigh := (polarity.map fun o => decide (o = 0)).getD old.activeHigh
          idleLow := (idle.map fun o => decide (o = 0)).getD old.idleLow } } })

/-- R123, R125, R130, R132, R133: PORT_FRAME_START. A running port begins a frame at a codec's frame sync, and, where the part
drives both the frame sync and the clock, once at each slot value that is a multiple of 10. A frame still in progress, which the
part does not time itself, is counted short. The trim comes first: with more than 8 entries the trim count rises, and the 64th
time the oldest entry goes; with 8 or fewer it is 0. A PLAYING path, and a PRIMING one with 2 entries, takes the oldest entry: a
GOOD or DAMAGED one is played and becomes the repeat store; of any other, and with no entry taken, the frame is one without data.
Nothing else changes. When a frame may begin under each pair of roles is the model's reading (log 57). -/
def Obligations.APortFrameTakesTheOldestEntry : Prop :=
  ∀ s : State, s.awake = true → s.voice.running = true →
    (s.voice.settings.frame = .follow ∨ (s.voice.settings.frame = .drive ∧ s.voice.settings.clock = .drive ∧
      s.now.toNat % 10 = 0 ∧ s.voice.lastFrame ≠ some s.now)) → s.quiet →
    let short := if s.voice.frame ≠ none ∧ (s.voice.settings.frame = .follow ∨ s.voice.settings.clock = .follow) then
        min (s.voice.shortFrames + 1) 65535
      else s.voice.shortFrames
    let v : Voice := { s.voice with shortFrames := short, frame := none }
    let w : Voice := if v.down.length ≤ 8 then { v with trim := 0 }
      else if v.trim < 63 then { v with trim := v.trim + 1 }
      else { v with down := v.down.drop 1, trim := 0, counts := { v.counts with trims := min (v.counts.trims + 1) 65535 } }
    (∀ (e : VoiceEntry) (rest : List VoiceEntry), w.down = e :: rest → (w.playing = true ∨ rest ≠ []) →
      (e.mark = .good →
        exec .portFrameStart s = .next { s with voice := { w with
          playing := true, down := rest, store := some e.octets, repeats := 0, frame := some (0x00 :: e.octets)
          lastFrame := some s.now, counts := { w.counts with outGood := min (w.counts.outGood + 1) 65535 } } }) ∧
      (e.mark = .damaged →
        exec .portFrameStart s = .next { s with voice := { w with
          playing := true, down := rest, store := some e.octets, repeats := 0, frame := some (0x21 :: e.octets)
          lastFrame := some s.now, counts := { w.counts with outDamaged := min (w.counts.outDamaged + 1) 65535 } } }) ∧
      (e.mark ≠ .good → e.mark ≠ .damaged →
        exec .portFrameStart s = .next { s with voice := { { w with playing := true, down := rest }.noData (some e.mark) with
          lastFrame := some s.now } })) ∧
    ((w.down = [] ∨ (w.playing = false ∧ w.down.length < 2)) →
      exec .portFrameStart s = .next { s with voice := { w.noData none with lastFrame := some s.now } })

/-- R124, R131, R133: a frame without data. It carries the repeat store while the repeat count is below 3, and the count rises;
with no store, or with the count at 3, it carries 20 octets of 0 and the count stands. Its mark is HELD in hold and in PRIMING
after a resume, and FILL otherwise. The status octet gives the mark, the new count, 0 for silence, and the source. The counters of
its mark and of silence rise. Nothing else of the voice path changes. The octets of a GOOD or DAMAGED entry that is played become
the repeat store, and the count is 0. -/
def Obligations.AFrameWithoutDataRepeatsTheStore : Prop :=
  ∀ (v : Voice) (source : Option Mark),
    let held := v.hold = true ∨ (v.playing = false ∧ v.resumed = true)
    let counted (silent : Bool) : PortCounts := { v.counts with
      outHeld := if held then min (v.counts.outHeld + 1) 65535 else v.counts.outHeld
      outFill := if held then v.counts.outFill else min (v.counts.outFill + 1) 65535
      silence := if silent then min (v.counts.silence + 1) 65535 else v.counts.silence }
    let octet (repeats : Nat) : Byte :=
      BitVec.ofNat 8 ((if held then 96 else 64) + 8 * repeats + match source with
        | some .good => 0
        | some .damaged => 1
        | some .lost => 2
        | some .signal => 3
        | some .stolen => 4
        | none => 5)
    (∀ octets, v.store = some octets → v.repeats < 3 →
      v.noData source = { v with
        repeats := v.repeats + 1, counts := counted false, frame := some (octet (v.repeats + 1) :: octets) }) ∧
    (v.store = none ∨ 3 ≤ v.repeats →
      v.noData source = { v with counts := counted true, frame := some (octet 0 :: List.replicate 20 0) }) ∧
    (∀ e rest, v.down = e :: rest → (e.mark = .good ∨ e.mark = .damaged) → v.play.store = some e.octets ∧ v.play.repeats = 0)

/-- R127, R122: UPLINK_BLOCK_RECEIVED. The last 20 of the 21 octets of a port frame join the tail of the uplink ring; a ring of 16
first loses its oldest block, and the uplink overflow counter rises. The frame is over. With no frame in progress, or with another
number of octets, nothing changes. That such a block changes nothing is the model's choice (log 16). -/
def Obligations.AnUplinkBlockJoinsTheRing : Prop :=
  ∀ (octets : List Byte) (s : State), s.awake = true → s.voice.running = true → s.quiet →
    (s.voice.frame ≠ none → octets.length = 21 →
      (s.voice.up.length < 16 →
        exec (.uplinkBlockReceived octets) s = .next { s with voice := { s.voice with
          up := s.voice.up ++ [octets.drop 1], frame := none } }) ∧
      (16 ≤ s.voice.up.length →
        exec (.uplinkBlockReceived octets) s = .next { s with voice := { s.voice with
          up := s.voice.up.drop 1 ++ [octets.drop 1], frame := none
          counts := { s.voice.counts with upOverflow := min (s.voice.counts.upOverflow + 1) 65535 } } })) ∧
    (s.voice.frame = none ∨ octets.length ≠ 21 → exec (.uplinkBlockReceived octets) s = .next s)

/-! ## Text transfer (R134 to R150) -/

/-- R135, R136, R137: TEXT_SEND is checked in the order of the table, and the first check that fails is answered; a refused piece
changes nothing. A taken piece is answered DONE. The first piece makes an entry, ASSEMBLING with next part index 2 and a timer of
20,000 slots; a later one joins its entry, whose next index rises and whose timer is set afresh. With the last flag the entry is
READY with its part count, without a timer, takes the ready order, and TEXT is raised. Raised on a subscription that is SEARCHING
or has no service, or after DONE was sent, it changes nothing; while the radio is held it joins the request of a CAMPED one or
makes one; it joins a running access attempt; on a connection it joins the purposes, an unsent DONE leaves the queue, and, when no
registration is open and no entry is SENDING, the entry that became READY first is SENDING and its first part is offered. That a
last flag above 1 is out of range (log 17), and that a LEAVE purpose, during which a piece is WRONG_STATE, is open until DETACHED,
also after LEAVE counts as sent (log 41), is the model's reading. -/
def Obligations.ATextPieceIsCheckedAndStored : Prop :=
  (∀ (tag sub : Byte) (destination : Digits) (reference index last : Byte) (body : List Byte) (s : State),
    s.accepts tag (.textSend sub destination reference index last body) → s.quiet →
    let run := exec (.textSend tag sub destination reference index last body) s
    let answered (st : Status) := run = .next (s.replied tag 0x30 st .none)
    let good := subOf sub ≠ none ∧ 1 ≤ destination.length ∧ destination.length ≤ 20 ∧ (∀ d ∈ destination, d.toNat ≤ 9) ∧
      1 ≤ index.toNat ∧ index.toNat ≤ 8 ∧ body.length ≤ 96 ∧ last.toNat ≤ 1
    let parts := (s.text.outbox.map fun e => e.parts.length).sum
    (¬good → answered .badValue) ∧
    (good → ∀ x, subOf sub = some x →
      ((s.sub x).state = .empty ∨ (s.sub x).state = .detached ∨ (s.sub x).detaching ≠ none → answered .wrongState) ∧
      ((s.sub x).state ≠ .empty → (s.sub x).state ≠ .detached → (s.sub x).detaching = none →
        (s.outEntry x reference = none → 1 < index.toNat → answered .badValue) ∧
        (∀ e, s.outEntry x reference = some e →
          (index.toNat = 1 ∨ e.state ≠ .assembling ∨ e.next ≠ some index.toNat ∨ e.destination ≠ destination) →
          answered .badValue) ∧
        (s.outEntry x reference = none → index.toNat = 1 →
          (8 ≤ s.text.outbox.length ∨ 32 ≤ parts → answered .noRoom) ∧
          (s.text.outbox.length < 8 → parts < 32 →
            let made : OutEntry :=
              { sub := x, destination := destination, reference := reference, next := some 2, count := none, parts := [body]
                state := .assembling, order := 0, attempts := 0, part := none, sends := 0
                assembly := some (slotAdd s.now 20000), wait := .stopped, outcome := none, ended := 0 }
            (last = 0 → run = .next { s.replied tag 0x30 .done .none with
              text := { s.text with outbox := s.text.outbox ++ [made] } }) ∧
            (last = 1 →
              let u : State := { s.replied tag 0x30 .done .none with
                text := { s.text with outbox := s.text.outbox ++
                  [{ made with state := .ready, count := some 1, next := none, assembly := none, order := s.moments }] }
                moments := s.moments + 1 }
              run = settle (u.raiseText x) ∧
              ((s.sub x).state = .searching ∨ (s.sub x).state = .noService → run = .next u)))) ∧
        (∀ e, s.outEntry x reference = some e → 1 < index.toNat → e.state = .assembling → e.next = some index.toNat →
          e.destination = destination →
          (32 ≤ parts ∨ (index.toNat = 8 ∧ last = 0) → answered .noRoom) ∧
          (parts < 32 → last = 0 → index.toNat < 8 →
            run = .next { s.replied tag 0x30 .done .none with
              text := { s.text with outbox := s.text.outbox.map fun f =>
                if f.sub = x ∧ f.reference = reference then
                  { f with
                    parts := f.parts ++ [body], next := some (index.toNat + 1), assembly := some (slotAdd s.now 20000) }
                else f } }) ∧
          (parts < 32 → last = 1 →
            let u : State := { s.replied tag 0x30 .done .none with
              text := { s.text with outbox := s.text.outbox.map fun f =>
                if f.sub = x ∧ f.reference = reference then
                  { f with
                    parts := f.parts ++ [body], state := .ready, count := some (f.parts.length + 1), next := none
                    assembly := none, order := s.moments }
                else f }
              moments := s.moments + 1 }
            run = settle (u.raiseText x) ∧
            ((s.sub x).state = .searching ∨ (s.sub x).state = .noService → run = .next u)))))) ∧
  (∀ (x : Sub) (s : State), (s.sub x).detaching = none →
    ((s.sub x).state = .searching ∨ (s.sub x).state = .noService → s.raiseText x = s) ∧
    ((s.sub x).state = .camped → s.engaged ≠ none →
      ((∀ q ∈ s.engQueue, q.sub ≠ x) → s.raiseText x = { s with
        engQueue := s.engQueue ++ [{ sub := x, purposes := [.text], pageReply := false, moment := s.moments }]
        moments := s.moments + 1 }) ∧
      ((∃ q ∈ s.engQueue, q.sub = x) → s.raiseText x = { s with
        engQueue := s.engQueue.map fun q =>
          if q.sub = x ∧ Purpose.text ∉ q.purposes then { q with purposes := q.purposes ++ [.text] } else q })) ∧
    (∀ a, (s.sub x).state = .engaged → s.engaged = some { sub := x, stage := .attempt a } → Purpose.text ∉ a.purposes →
      s.raiseText x = { s with
        engaged := some { sub := x, stage := .attempt { a with purposes := a.purposes ++ [.text] } } }) ∧
    (∀ c, (s.sub x).state = .engaged → s.engaged = some { sub := x, stage := .connected } → s.connection x = some c →
      (s.doneGone = true → s.raiseText x = s) ∧
      (s.doneGone = false →
        let u : State := ({ s with
          ctx := { s.ctx with
            active := some { c with
              purposes := if Purpose.text ∈ c.purposes then c.purposes else c.purposes ++ [.text] } } } : State).removeMsgs
          UpMsg.isDone
        (Purpose.register ∈ c.purposes ∨ s.sendingEntry x ≠ none → s.raiseText x = u) ∧
        (∀ e, Purpose.register ∉ c.purposes → s.sendingEntry x = none → s.readyFirst x e →
          s.raiseText x = u.sendingNow e))))

/-- R141, R137, R136, R140: TEXT_CANCEL and ASSEMBLY_TIMER_EXPIRY. A value that names no subscription is answered BAD_VALUE, a
reference without an entry UNKNOWN_ITEM, an entry that is neither ASSEMBLING nor READY WRONG_STATE; nothing changes. An ASSEMBLING
entry, and a READY one while another entry of the subscription is READY or SENDING, is removed without an outcome and the answer
is DONE. With the last READY one TEXT leaves as well: a connection, unless the incoming reason holds it there, with DONE queued
when no purpose remains, and the request and the access attempt that hold it; an attempt left without purposes is abandoned, and
the subscription is CAMPED again. When the assembly timer expires the entry is ABANDONED: with room in the outcome list it leaves
the outbox, its outcome joins the list and a TEXT notice is posted with OUTCOME; with none it stays, FAILED. -/
def Obligations.APieceIsCancelledOrAbandoned : Prop :=
  (∀ (tag sub reference : Byte) (s : State), s.accepts tag (.textCancel sub reference) → s.quiet →
    (subOf sub = none → exec (.textCancel tag sub reference) s = .next (s.replied tag 0x31 .badValue .none)) ∧
    (∀ x, subOf sub = some x →
      (s.outEntry x reference = none →
        exec (.textCancel tag sub reference) s = .next (s.replied tag 0x31 .unknownItem .none)) ∧
      (∀ e, s.outEntry x reference = some e →
        (e.state ≠ .assembling → e.state ≠ .ready →
          exec (.textCancel tag sub reference) s = .next (s.replied tag 0x31 .wrongState .none)) ∧
        (e.state = .assembling ∨ (e.state = .ready ∧ ∃ f ∈ s.text.outbox,
            f.sub = x ∧ f.reference ≠ reference ∧ (f.state = .ready ∨ f.state = .sending)) →
          exec (.textCancel tag sub reference) s = .next { s.replied tag 0x31 .done .none with
            text := { s.text with
              outbox := s.text.outbox.filter fun f => decide (¬(f.sub = x ∧ f.reference = reference)) } }) ∧
        (e.state = .ready →
          (∀ f ∈ s.text.outbox, f.sub = x → f.reference ≠ reference → f.state ≠ .ready ∧ f.state ≠ .sending) →
          let run := exec (.textCancel tag sub reference) s
          let u : State := { s.replied tag 0x31 .done .none with
            text := { s.text with
              outbox := s.text.outbox.filter fun f => decide (¬(f.sub = x ∧ f.reference = reference)) } }
          let v : State := { u with engQueue := queueWithout x .text s.engQueue }
          (∀ c, s.connection x = some c →
            (Purpose.text ∉ c.purposes ∨ (s.textOf x).incoming = true → run = .next u) ∧
            (Purpose.text ∈ c.purposes → Purpose.leave ∉ c.purposes → (s.textOf x).incoming = false →
              run = .next (u.leftBy c .text))) ∧
          (s.connection x = none →
            ((∀ a, s.engaged ≠ some { sub := x, stage := .attempt a }) → run = .next v) ∧
            (∀ a, s.engaged = some { sub := x, stage := .attempt a } →
              let rest := a.purposes.filter fun p => decide (p ≠ .text)
              (rest ≠ [] → run = .next { v with engaged := some { sub := x, stage := .attempt { a with purposes := rest } } }) ∧
              (rest = [] → run = settle ((v.withdrawAttempt x).backToCamped x).grantIfFree))))))) ∧
  (∀ (x : Sub) (reference : Byte) (e : OutEntry) (u : Slot) (s : State), s.awake = true → s.quiet →
    (s.text.outbox.filter fun f => decide (f.sub = x ∧ f.reference = reference)) = [e] → e.state = .assembling →
    e.assembly = some u → (s.now - u).toNat < 2 ^ 31 →
    (∀ f ∈ s.text.outbox, f.sub = x → f.state ≠ .sent ∧ f.state ≠ .failed) →
    ((s.textOf x).outcomes.length < 8 →
      ∃ t : State, exec (.assemblyTimerExpiry x reference) s = .next t ∧
        t = { s with
          text := { s.text with
            outbox := s.text.outbox.filter fun f => decide (¬(f.sub = x ∧ f.reference = reference))
            subs := s.text.subs.set x { s.textOf x with
              outcomes := (s.textOf x).outcomes ++ [(reference, .abandoned)] } }
          moments := s.moments + 1
          link := { s.link with outbox := postIn (t.textSnapshot x) 1 s.link.outbox } }) ∧
    (8 ≤ (s.textOf x).outcomes.length →
      exec (.assemblyTimerExpiry x reference) s = .next { s with
        text := { s.text with outbox := s.text.outbox.map fun f =>
          if f.sub = x ∧ f.reference = reference then
            { f with
              state := .failed, outcome := some .abandoned, ended := s.moments, assembly := none, wait := .stopped, part := none
              next := none }
          else f }
        moments := s.moments + 1 }))

/-- R139, R140, R137, R143, R144, R145, R146, R147: the timers and messages of a text in transfer. PART_WAIT_EXPIRY of a part sent
fewer than 3 times: its count of sends rises and the same TEXT_PART is offered again. After the third sending the entry is FAILED
with NO_ACK, here with room in the outcome list: it leaves the outbox, its outcome joins the list and a TEXT notice is posted with
OUTCOME; the next READY entry of a connection with TEXT is then SENDING, and with none left TEXT leaves the connection, unless the
incoming reason holds it there. AGE_TIMER_EXPIRY: the open entry is closed INCOMPLETE, and the write of what it holds into its
reserved slot is queued, the bodies joined in the order of its parts, which is index order in every legal state
(StepsKeepTheStateLegal). IDLE_WAIT_EXPIRY: the wait of 400 slots is set again while the subscription has an open entry; otherwise
the incoming reason ends, and TEXT stays on the connection for an entry that is READY or SENDING and leaves it with none, DONE
being queued when no purpose remains. TEXT_ACK of the part being sent: its unsent repetitions leave the queue, and the next part
is offered, or, after the last, the entry is SENT. TEXT_REFUSE of the text being sent: its unsent parts leave the queue and the
entry is FAILED with the cause it names. Either outcome is kept as that of the third sending, and sending goes on in the same way.
Others change nothing. TEXT_PART: text-waiting is cleared, with a SUB notice with TEXT_WAITING, the incoming reason holds with its
wait set for 400 slots, TEXT joins the connection and an unsent DONE leaves the queue, after DONE was sent or while detaching
neither (log 41), and with TEXT a READY entry may be SENDING. An index above the part count is refused BAD_PART. A part of an open
entry with the same part count is stored in index order and acknowledged, or acknowledged when it was held; a full set closes the
entry COMPLETE and its write is queued; with another part count it is refused. Of a closed entry, and of a message of the recent
list still LIVE, a held part is acknowledged and another refused; of a recent one no longer LIVE each is refused. A first part is
refused MEMORY_FULL when no slot is usable, and memory-full-signalled is set, with a TEXT notice with MEMORY; with 4 entries in
the table it is not answered, and the oldest open entry is closed INCOMPLETE, the slot it was to have being handed back, with
reclaim examined before the rise is reported by the model's reading (log 108); otherwise it makes an entry in the first usable
slot, with an age timer of 120,000 slots, and is acknowledged, and one of part count 1 is closed COMPLETE at once. Nothing else
changes. -/
def Obligations.TheTimersAndMessagesOfATextInTransfer : Prop :=
  (∀ (x : Sub) (u : Slot) (s : State), s.awake = true → s.quiet → (s.now - u).toNat < 2 ^ 31 →
    (∀ e k, s.sendingEntry x = some e → e.wait = .running u → e.part = some k → e.sends < 3 →
      exec (.partWaitExpiry x) s = .next { s with
        text := { s.text with outbox := s.text.outbox.map fun f =>
          if f.sub = x ∧ f.reference = e.reference then { e with sends := e.sends + 1, wait := .stopped } else f }
        ctx := (s.offer (.textPart e.reference.toNat k (e.count.getD 0) e.destination (e.parts[k - 1]?.getD []))).ctx }) ∧
    (∀ e, s.sendingEntry x = some e → e.wait = .running u → 3 ≤ e.sends → (s.textOf x).outcomes.length < 8 →
      (∀ f ∈ s.text.outbox, f.sub = x → f.state ≠ .sent ∧ f.state ≠ .failed) →
      (∀ f ∈ s.text.outbox, f.sub = x → f.reference = e.reference → f = e) →
      (∀ f ∈ s.text.outbox, f.sub = x → f.state = .sending → f = e) → s.text.outbox.Nodup →
      let w : State := { s with
        text := { s.text with
          outbox := s.text.outbox.filter fun f => decide (f ≠ e)
          subs := s.text.subs.set x { s.textOf x with
            outcomes := (s.textOf x).outcomes ++ [(e.reference, .failed .noAck)] } }
        moments := s.moments + 1 }
      let v : State := { w with link := { s.link with outbox := postIn (w.textSnapshot x) 1 s.link.outbox } }
      let run := exec (.partWaitExpiry x) s
      (s.connection x = none → run = .next v) ∧
      (∀ c, s.connection x = some c → Purpose.text ∈ c.purposes →
        (∀ f, Purpose.register ∉ c.purposes → v.readyFirst x f → run = .next (v.sendingNow f)) ∧
        ((∀ f ∈ s.text.outbox, f.sub = x → f.state ≠ .ready) →
          ((s.textOf x).incoming = true → run = .next v) ∧
          ((s.textOf x).incoming = false → Purpose.leave ∉ c.purposes → run = .next (v.leftBy c .text))))) ∧
    (∀ (e : Reassembly) (sender : Digits) (reference : Nat) (p : SlotId),
      (s.text.table.find? fun f => decide (f.sub = x ∧ f.sender = sender ∧ f.reference = reference)) = some e →
      e.closing = none → e.age = some u → e.slot = some p →
      exec (.ageTimerExpiry x sender reference) s = .next { s with
        text := { s.text with table := s.text.table.map fun f =>
          if f.sub = x ∧ f.sender = sender ∧ f.reference = reference then
            { f with closing := some .incomplete, age := none }
          else f }
        store := { s.store with queue := s.store.queue ++ [.write p {
          header := {
            number := 0, sub := x, sender := sender, time := 0, count := e.count, present := e.parts.map Prod.fst
            complete := false }
          body := e.parts.flatMap Prod.snd }] } }) ∧
    ((s.textOf x).idle = .running u →
      ((∃ e ∈ s.text.table, e.sub = x ∧ e.closing = none) →
        exec (.idleWaitExpiry x) s = .next { s with
          text := { s.text with subs := s.text.subs.set x { s.textOf x with idle := .running (slotAdd s.now 400) } } }) ∧
      ((∀ e ∈ s.text.table, e.sub = x → e.closing ≠ none) →
        (∃ e ∈ s.text.outbox, e.sub = x ∧ (e.state = .ready ∨ e.state = .sending)) →
        exec (.idleWaitExpiry x) s = .next { s with
          text := { s.text with subs := s.text.subs.set x { s.textOf x with incoming := false, idle := .stopped } } }) ∧
      ((∀ e ∈ s.text.table, e.sub = x → e.closing ≠ none) →
        (∀ e ∈ s.text.outbox, e.sub = x → e.state ≠ .ready ∧ e.state ≠ .sending) →
        let v : State := { s with
          text := { s.text with subs := s.text.subs.set x { s.textOf x with incoming := false, idle := .stopped } } }
        (s.connection x = none → exec (.idleWaitExpiry x) s = .next v) ∧
        (∀ c, s.connection x = some c →
          (Purpose.text ∉ c.purposes → exec (.idleWaitExpiry x) s = .next v) ∧
          (Purpose.text ∈ c.purposes → Purpose.leave ∉ c.purposes →
            exec (.idleWaitExpiry x) s = .next (v.leftBy c .text)))))) ∧
  (∀ (x : Sub) (c : Context) (frame : Slot) (s : State), s.connection x = some c →
    let net := s.received x frame
    let part (ref k : Nat) (m : UpMsg) : Bool := match m with
      | .textPart r j _ _ _ => decide (r = ref ∧ j = k)
      | _ => false
    (∀ ref k, (∀ e, s.sendingEntry x = some e → e.reference.toNat ≠ ref ∨ e.part ≠ some k) → net (.textAck ref k) = s) ∧
    (∀ ref why, (∀ e, s.sendingEntry x = some e → e.reference.toNat ≠ ref) → net (.textRefuse ref why) = s) ∧
    (∀ e k, s.sendingEntry x = some e → e.part = some k → 1 ≤ k → k ≤ 8 →
      (e.count ≠ some k → net (.textAck e.reference.toNat k) = { s with
        text := { s.text with outbox := s.text.outbox.map fun f =>
          if f.sub = x ∧ f.reference = e.reference then { e with part := some (k + 1), sends := 1, wait := .stopped } else f }
        ctx := ((s.removeMsgs (part e.reference.toNat k)).offer
          (.textPart e.reference.toNat (k + 1) (e.count.getD 0) e.destination (e.parts[k]?.getD []))).ctx }) ∧
      ((s.textOf x).outcomes.length < 8 → (∀ f ∈ s.text.outbox, f.sub = x → f.state ≠ .sent ∧ f.state ≠ .failed) →
        (∀ f ∈ s.text.outbox, f.sub = x → f.reference = e.reference → f = e) →
        (∀ f ∈ s.text.outbox, f.sub = x → f.state = .sending → f = e) → s.text.outbox.Nodup →
        let endedWith (out : TextOutcome) (gone : UpMsg → Bool) (run : State) : Prop :=
          let u : State := s.removeMsgs gone
          let w : State := { u with
            text := { s.text with
              outbox := s.text.outbox.filter fun f => decide (f ≠ e)
              subs := s.text.subs.set x { s.textOf x with outcomes := (s.textOf x).outcomes ++ [(e.reference, out)] } }
            moments := s.moments + 1 }
          let v : State := { w with link := { s.link with outbox := postIn (w.textSnapshot x) 1 s.link.outbox } }
          (Purpose.text ∉ c.purposes → run = v) ∧
          (Purpose.text ∈ c.purposes →
            (∀ f, Purpose.register ∉ c.purposes → v.readyFirst x f → run = v.sendingNow f) ∧
            ((∀ f ∈ s.text.outbox, f.sub = x → f.state ≠ .ready) →
              ((s.textOf x).incoming = true → run = v) ∧
              ((s.textOf x).incoming = false → Purpose.leave ∉ c.purposes → run = v.leftBy c .text)))
        (e.count = some k → endedWith .sent (part e.reference.toNat k) (net (.textAck e.reference.toNat k))) ∧
        ∀ why : RefuseCause, endedWith (.failed (match why with
            | .rejected => .rejected
            | .noRoute => .noRoute
            | .memoryFull => .memoryFull
            | .badPart => .badPart))
          (UpMsg.isPartOf e.reference.toNat) (net (.textRefuse e.reference.toNat why)))) ∧
    (∀ (ref index count : Nat) (sender : Digits) (body : List Byte) (u : State),
      ref ≤ 255 → 1 ≤ index → index ≤ 8 → 1 ≤ count → count ≤ 8 → 1 ≤ sender.length → sender.length ≤ 20 →
      (∀ d ∈ sender, d.toNat ≤ 9) → body.length ≤ 96 →
      let heard (v : State) : State :=
        let w : State := { v with
          subs := s.subs.set x { s.sub x with textWaiting := false }
          text := { v.text with
            subs := s.text.subs.set x { s.textOf x with incoming := true, idle := .running (slotAdd s.now 400) } } }
        { w with
          link := { s.link with
            outbox := if (s.sub x).textWaiting = true then postIn (w.subSnapshot x) 16 s.link.outbox else s.link.outbox } }
      let joins := s.doneGone = false ∧ (s.sub x).detaching = none
      let starts := joins ∧ Purpose.register ∉ c.purposes ∧ s.sendingEntry x = none
      ((¬joins ∧ u = heard s) ∨
        (joins ∧ (¬starts ∨ ∀ e ∈ s.text.outbox, e.sub = x → e.state ≠ .ready) ∧ u = heard (s.joinedBy c .text)) ∨
        (starts ∧ ∃ e, s.readyFirst x e ∧ u = heard ((s.joinedBy c .text).sendingNow e))) →
      let run := net (.textPart ref index count sender body)
      let ack : State := u.offer (.textAck ref index)
      let bad : State := u.offer (.textRefuse ref false)
      let named (e : Reassembly) : Bool := decide (e.sub = x ∧ e.sender = sender ∧ e.reference = ref)
      let write (p : SlotId) (e : Reassembly) (parts : List (Nat × List Byte)) (complete : Bool) : StoreOp := .write p {
        header := {
          number := 0, sub := e.sub, sender := e.sender, time := 0, count := e.count, present := parts.map Prod.fst
          complete := complete }
        body := parts.flatMap Prod.snd }
      (count < index → run = bad) ∧
      (index ≤ count →
        (∀ e, s.text.table.find? named = some e →
          let held := index ∈ e.parts.map Prod.fst
          (e.closing ≠ none → run = if held then ack else bad) ∧
          (e.closing = none → e.count ≠ count → run = bad) ∧
          (e.closing = none → e.count = count →
            (held → run = ack) ∧
            (¬held → (e.parts.map Prod.fst).Pairwise (· < ·) →
              let parts := (e.parts.filter fun q => decide (q.1 < index)) ++ (index, body) ::
                e.parts.filter fun q => decide (index < q.1)
              (s.text.table.filter named = [e] → e.parts.length + 1 ≠ count → run = { ack with
                text := { u.text with table := s.text.table.map fun f => if (named f) then { e with parts := parts } else f } }) ∧
              (∀ p, s.text.table.filter named = [e] → e.parts.length + 1 = count → e.slot = some p → run = { ack with
                text := { u.text with table := s.text.table.map fun f =>
                  if (named f) then { e with parts := parts, closing := some .complete, age := none } else f }
                store := { s.store with queue := s.store.queue ++ [write p e parts true] } })))) ∧
        (s.text.table.find? named = none →
          (∀ r, (s.text.recent.find? fun r => decide (r.sub = x ∧ r.sender = sender ∧ r.reference = ref)) = some r →
            let live := ∃ q ∈ allSlots, s.store.holds r.number q = true ∧
              (s.store.messageAt q).map (fun m => (m.header.sub, m.header.sender)) = some (x, sender)
            (live ∧ index ∈ r.parts → run = ack) ∧ (¬(live ∧ index ∈ r.parts) → run = bad)) ∧
          ((∀ r ∈ s.text.recent, ¬(r.sub = x ∧ r.sender = sender ∧ r.reference = ref)) →
            (allSlots.find? s.store.usable = none →
              let full : State := { u with
                subs := s.subs.set x { s.sub x with textWaiting := false, memoryFull := true }
                text := { u.text with subs := u.text.subs.set x { u.textOf x with readySent := false } } }
              let told : State := { full with
                link := { u.link with outbox := postIn (full.textSnapshot x) 4 u.link.outbox }
                reports := s.reports ++ [.storeChanged] }
              run = (if (s.sub x).memoryFull = true then full else told).offer (.textRefuse ref true)) ∧
            (∀ p, allSlots.find? s.store.usable = some p → 4 ≤ s.text.table.length → s.store.legal →
              let back := s.reports ++ [.storeChanged, .storeChanged, .usableRose]
              ((∀ e ∈ s.text.table, e.closing ≠ none) → run = { u with reports := back }) ∧
              (∀ e q, (s.text.table.find? fun f => decide (f.closing = none)) = some e → e.slot = some q → run = { u with
                text := { u.text with table := s.text.table.map fun f =>
                  if f.sub = e.sub ∧ f.sender = e.sender ∧ f.reference = e.reference then
                    { f with closing := some .incomplete, age := none } else f }
                store := { s.store with queue := s.store.queue ++ [write q e e.parts false] }
                reports := back })) ∧
            (∀ p, allSlots.find? s.store.usable = some p → s.text.table.length < 4 →
              let made : Reassembly :=
                { sub := x, sender := sender, reference := ref, count := count, parts := [(index, body)], closing := none
                  unwritten := false, slot := some p, age := some (slotAdd s.now 120000) }
              let kept : State := { ack with
                text := { u.text with table := s.text.table ++ [made] }
                store := s.store.setState p .reserved, reports := s.reports ++ [.storeChanged] }
              (count ≠ 1 → run = kept) ∧
              (count = 1 → run = { kept with
                text := { u.text with table := s.text.table ++ [{ made with closing := some .complete, age := none }] }
                store := { (s.store.setState p .reserved) with
                  queue := s.store.queue ++ [write p made [(index, body)] true] } })))))))

/-! ## The message store (R151 to R166) -/

/-- R160, R159, R158, R162: STORE_DELETE, STORE_KEEP and STORE_PROTECT are checked in order, and the first check that fails is
answered with nothing changed. A taken request keeps its position of the reply queue until its operation ends, and the operation
joins the end of the store's queue: a DELETED mark, a copy into the first FREE slot of a protected block that is not retired, or a
rewrite of the settings area. A STORE_DELETE joins a mark of the message that waits already. One of a message whose relocation
copy runs is answered DONE at once: the slot is DELETED, its mark goes first, and the copy is dropped when it ends. One of a
message whose relocation copy waits takes that copy out of the queue (R162). A taken STORE_KEEP makes a copy target. The store
examines what it then has. Nothing else changes. That edge and invert octets above 1 are out of range is the model's reading (log
17). -/
def Obligations.StoreRequestsAreCheckedAndQueued : Prop :=
  (∀ (tag : Byte) (n : BitVec 16) (s : State), s.accepts tag (.storeDelete n) → s.quiet →
    let answered (st : Status) := exec (.storeDelete tag n) s = .next (s.replied tag 0x3A st .none)
    (n = 0 → answered .badValue) ∧
    (n ≠ 0 → s.store.find n.toNat = none → answered .unknownItem) ∧
    (∀ p, n ≠ 0 → s.store.find n.toNat = some p →
      (s.store.isProtected p.block = true → answered .protected_) ∧
      (s.store.isProtected p.block = false →
        ((∃ k q t, StoreOp.keepCopy k p q t ∈ s.store.ops) ∨
            (∃ d, s.store.newDescriptor = some d ∧ d.protects p.block = true) → answered .busy) ∧
        ((∀ k q t, StoreOp.keepCopy k p q t ∉ s.store.ops) →
          (∀ d, s.store.newDescriptor = some d → d.protects p.block = false) →
          (∀ k q d, StoreOp.relocCopy k p q d ∉ s.store.ops) →
          ((∀ why, StoreOp.mark p why ∉ s.store.ops) →
            exec (.storeDelete tag n) s = .next { s.reservedFor tag 0x3A with
              store := { s.store with queue := s.store.queue ++ [.mark p (.delete [s.link.ticket])] } }) ∧
          (∀ ts pre post, s.store.queue = pre ++ .mark p (.delete ts) :: post → s.store.running = none →
            (∀ why, StoreOp.mark p why ∉ pre ++ post) →
            exec (.storeDelete tag n) s = .next { s.reservedFor tag 0x3A with
              store := { s.store with queue := pre ++ .mark p (.delete (ts ++ [s.link.ticket])) :: post } })) ∧
        ((∀ k q t, StoreOp.keepCopy k p q t ∉ s.store.ops) →
          (∀ d, s.store.newDescriptor = some d → d.protects p.block = false) →
          (∀ k q d r, s.store.running = some r → r.op = .relocCopy k p q d → (∀ o ∈ s.store.queue, o.isStep = false) →
            ∃ t : State, exec (.storeDelete tag n) s = .next t ∧
              State.examined { s.replied tag 0x3A .done .none with
                store := { (s.store.setState p .deleted) with
                  running := some { r with op := .relocCopy k p q true }
                  queue := .mark p .relocation :: s.store.queue } } t) ∧
          (∀ k q d pre post, s.store.queue = pre ++ .relocCopy k p q d :: post → (∀ o ∈ pre ++ post, o.relocates p = false) →
            (∀ r, s.store.running = some r → r.op.relocates p = false) → (∀ why, StoreOp.mark p why ∉ s.store.ops) →
            (∀ x, (s.sub x).memoryFull = false) → (∀ e ∈ s.text.table, e.unwritten = false) →
            let left : State := { s.reservedFor tag 0x3A with
              store := { s.store with queue := pre ++ post ++ [.mark p (.delete [s.link.ticket])] } }
            ¬left.store.stuck → ∃ t : State, exec (.storeDelete tag n) s = .next t ∧ State.examined left t))))) ∧
  (∀ (tag : Byte) (n : BitVec 16) (s : State), s.accepts tag (.storeKeep n) → s.quiet →
    let answered (st : Status) := exec (.storeKeep tag n) s = .next (s.replied tag 0x3B st .none)
    let target := allSlots.find? fun q => decide (s.store.stateAt q = .free ∧ (∀ o ∈ s.store.ops, o.target ≠ some q) ∧
      s.store.isProtected q.block = true ∧ s.store.isRetired q.block = false)
    (n = 0 → answered .badValue) ∧
    (n ≠ 0 → s.store.find n.toNat = none → answered .unknownItem) ∧
    (∀ p, n ≠ 0 → s.store.find n.toNat = some p →
      (s.store.isProtected p.block = true → answered .done) ∧
      (s.store.isProtected p.block = false →
        ((∃ why, StoreOp.mark p why ∈ s.store.ops) ∨ (∃ k q t, StoreOp.keepCopy k p q t ∈ s.store.ops) ∨
            (∃ k q d, StoreOp.relocCopy k p q d ∈ s.store.ops) → answered .busy) ∧
        ((∀ why, StoreOp.mark p why ∉ s.store.ops) → (∀ k q t, StoreOp.keepCopy k p q t ∉ s.store.ops) →
          (∀ k q d, StoreOp.relocCopy k p q d ∉ s.store.ops) →
          (target = none → answered .noRoom) ∧
          (∀ q, target = some q →
            let left : State := { s.reservedFor tag 0x3B with
              store := { s.store with queue := s.store.queue ++ [.keepCopy n.toNat p q s.link.ticket] } }
            ¬left.store.stuck → ∃ t : State, exec (.storeKeep tag n) s = .next t ∧ State.examined left t))))) ∧
  (∀ (tag edge count invert : Byte) (s : State), s.accepts tag (.storeProtect edge count invert) → s.quiet →
    let answered (st : Status) := exec (.storeProtect tag edge count invert) s = .next (s.replied tag 0x3C st .none)
    let good := edge.toNat ≤ 1 ∧ count.toNat ≤ 16 ∧ invert.toNat ≤ 1
    let d : Descriptor := { high := decide (edge = 1), count := count.toNat, invert := decide (invert = 1) }
    let held (b : Nat) := ∃ i < 8, s.store.stateAt { block := b, slot := i } = .reserved ∨
      (∃ o ∈ s.store.ops, o.target = some { block := b, slot := i }) ∨
      (s.store.stateAt { block := b, slot := i } = .live ∧ ∃ why, StoreOp.mark { block := b, slot := i } why ∈ s.store.ops)
    let busy := (∃ e t, StoreOp.settings e t ∈ s.store.ops) ∨ s.store.reclaim ≠ none ∨
      (∃ k p q t, StoreOp.keepCopy k p q t ∈ s.store.ops) ∨
      ∃ b < 16, d.protects b ≠ s.store.isProtected b ∧ held b
    (¬good → answered .badValue) ∧
    (good → busy → answered .busy) ∧
    (good → ¬busy → exec (.storeProtect tag edge count invert) s = .next { s.reservedFor tag 0x3C with
      store := { s.store with queue := s.store.queue ++ [.settings d s.link.ticket] } }))

/-- R154, R153, R156: STORE_OPERATION_START. With the part in RUN, nothing running and no transmit window ORDERED, the oldest
queued operation that is no step of a reclaim starts, counted from this slot; a step starts when nothing else waits. A write takes
the next number that no LIVE slot holds, passing over the others, and the network time held for its subscription with its camped
cell, or else with the candidate of its search; without either the time is 0. With nothing queued, nothing changes. -/
def Obligations.TheOldestOperationStarts : Prop :=
  ∀ s : State, s.power.state = .run → s.power.held = false → s.store.running = none →
    (∀ w ∈ s.cal.windows, w.state = .ordered → w.purpose ≠ .accessTx ∧ w.purpose ≠ .dedTx) → s.quiet →
    let running (o : StoreOp) : Option Running := some { op := o, accumulated := 0, since := some s.now }
    (∀ o pre post, s.store.queue = pre ++ o :: post →
      ((∀ q ∈ pre, q.isStep = true) ∧ o.isStep = false) ∨ (pre = [] ∧ ∀ q ∈ o :: post, q.isStep = true) →
      (∀ p m, o ≠ .write p m) →
      exec .storeOperationStart s = .next { s with store := { s.store with queue := pre ++ post, running := running o } }) ∧
    (∀ p m pre post, s.store.queue = pre ++ .write p m :: post → (∀ q ∈ pre, q.isStep = true) →
      1 ≤ s.store.nextNumber → s.store.nextNumber ≤ 65535 →
      ∃ k ≤ 128,
        let number (j : Nat) := (s.store.nextNumber - 1 + j) % 65535 + 1
        (∀ j < k, ∃ q ∈ allSlots, s.store.holds (number j) q = true) ∧
        (∀ q ∈ allSlots, s.store.holds (number k) q = false) ∧
        exec .storeOperationStart s = .next { s with store := { s.store with
          queue := pre ++ post
          running := running (.write p { m with header := { m.header with
            number := number k
            time := match (s.sub m.header.sub).camped, (s.sub m.header.sub).search with
              | some c, _ => c.params.time
              | none, .candidate c _ _ _ => c.params.time
              | none, _ => 0 } })
          nextNumber := number k % 65535 + 1 } }) ∧
    (s.store.queue = [] → exec .storeOperationStart s = .next s)

/-- R156, R147, R148, R149, R159, R160, R162, R157, R163, R158: the ends of store operations that have run for their duration. A
verified write makes its slot LIVE: the memory holds the message, its entry leaves the reassembly table, a recent record is added,
and a TEXT notice is posted with RECEIVED. A verified KEEP or relocation copy makes its slot LIVE and its original DELETED, whose
mark goes first; the copy of a message deleted meanwhile is marked DELETED itself. A verified mark makes its slot DELETED; a
request that waits for it is answered DONE, also when it failed. A verified erase, here while no message waits for room, frees the
block, raises its erase count and ends a reclaim of the block; a repair erase makes the block readable. A failed program or mark
retires its slot and posts FAULT: the entry of a failed write takes the next usable slot, or is UNWRITTEN; a failed KEEP copy
takes the next target, or is answered NO_ROOM. A failed erase retires its block, whose RETIRED mark goes first. A rewrite of the
settings area puts the new descriptor in force and answers DONE, with PROTECTION posted, and SETTINGS too when it failed. The
store then examines what it has: behind a relocation's mark the next step of the reclaim is queued. Nothing else changes. What a
failed operation leaves in the memory is free (log 3). The recent record of every write (log 47), the descriptor in force after a
failed rewrite (log 54), the step queued at once (log 81), a settings fault that a rewrite that verifies clears (log 89), a
reservation that stays in a block newly protected (log 90), the mark that stays through an erase (log 91), the header that a
verified RETIRED mark makes readable (log 96), and the FAULT notice posted before the new reservation (log 98) are the model's
reading. -/
def Obligations.StoreOperationsEnd : Prop :=
  ∀ (o : StoreOp) (a : Nat) (u : Slot) (s : State), s.power.state = .run → s.power.held = false → s.power.wait ≠ .stopping →
    s.store.running = some { op := o, accumulated := a, since := some u } → o.duration ≤ a + (s.now - u).toNat → s.quiet →
    let leaves (c : Instr) (v : State) : Prop := ¬v.store.stuck → ∃ t : State, exec c s = .next t ∧ State.examined v t
    let programmed (p : SlotId) (m : Message) (v : SlotState) : Store :=
      { ((s.store.setCell p { begun := true, complete := true, deleted := false, message := some m }).setState p v) with
        running := none }
    let left : Nat := (Config.leftover s.draws).val
    (∀ p m e, o = .write p m → (s.text.table.find? fun f => decide (f.slot = some p)) = some e →
      (∃ v : State, leaves (.slotProgramEnd true) v ∧
        v = { s with
          store := programmed p m .live
          text := { s.text with
            table := s.text.table.filter fun f => decide (f.slot ≠ some p)
            recent :=
              let now : Recent :=
                { sub := e.sub, sender := e.sender, reference := e.reference, parts := e.parts.map Prod.fst
                  number := m.header.number }
              (s.text.recent ++ [now]).drop (s.text.recent.length + 1 - 4)
            subs := s.text.subs.set e.sub { s.textOf e.sub with
              received := min ((s.textOf e.sub).received + 1) 255, latest := some m.header.number
              incomplete := if e.closing = some .incomplete then min ((s.textOf e.sub).incomplete + 1) 255
                else (s.textOf e.sub).incomplete } }
          link := { s.link with outbox := postIn (v.textSnapshot e.sub) 2 s.link.outbox } }) ∧
      (∀ q, allSlots.find? (s.failedAt o p).store.usable = some q →
        leaves (.slotProgramEnd false) { s.failedAt o p with
          store := { ((s.failedAt o p).store.setState q .reserved) with queue := s.store.queue ++ [.write q e.message] }
          text := { s.text with
            table := s.text.table.map fun f =>
              if f.slot = some p then { f with slot := some q, unwritten := false } else f } }) ∧
      (allSlots.find? (s.failedAt o p).store.usable = none →
        ∃ v : State, leaves (.slotProgramEnd false) v ∧
          v = { s.failedAt o p with
            text := { s.text with
              table := s.text.table.map fun f =>
                if f.slot = some p then { f with slot := none, unwritten := true } else f }
            link := { s.link with outbox := postIn (v.textSnapshot e.sub) 8 (s.failedAt o p).link.outbox } })) ∧
    (∀ n src p ticket m, o = .keepCopy n src p ticket → s.store.messageAt src = some m →
      leaves (.slotProgramEnd true) { s with store := { ((programmed p m .live).setState src .deleted) with
        queue := .mark src (.keep ticket) :: s.store.queue } } ∧
      (∀ q, (s.failedAt o p).store.keepTarget = some q →
        leaves (.slotProgramEnd false) { s.failedAt o p with store := { (s.failedAt o p).store with
          queue := s.store.queue ++ [.keepCopy n src q ticket] } }) ∧
      (∀ r rest, (s.failedAt o p).store.keepTarget = none → s.link.reserved = r :: rest → r.ticket = ticket →
        leaves (.slotProgramEnd false) ((s.failedAt o p).filledBy [] r rest .noRoom))) ∧
    (∀ n src p m, s.store.messageAt src = some m →
      (o = .relocCopy n src p false →
        leaves (.slotProgramEnd true) { s with store := { ((programmed p m .live).setState src .deleted) with
          queue := .mark src .relocation :: s.store.queue } }) ∧
      (o = .relocCopy n src p true →
        leaves (.slotProgramEnd true) { s with store := { (programmed p m .deleted) with
          queue := s.store.queue ++ [.mark p .relocation] } }) ∧
      (∀ drop, o = .relocCopy n src p drop → leaves (.slotProgramEnd false) (s.failedAt o p))) ∧
    (∀ p why, o = .mark p why →
      let marked : State := { s with
        store := { ((s.store.setCell p { s.store.cellAt p with deleted := true }).setState p .deleted) with running := none } }
      (why = .relocation ∨ why = .repair →
        leaves (.markProgramEnd true) marked ∧ leaves (.markProgramEnd false) (s.failedAt o p) ∧
        (∀ b, why = .relocation → s.power.operating = true → s.store.reclaim = some b → s.store.queue = [] →
          ¬marked.store.stuck → ∃ t : State, exec (.markProgramEnd true) s = .next t ∧
            t.store.queue = match marked.store.toMove b with
              | [] => if marked.store.countIn b .live = 0 then [.erase b false] else []
              | q :: _ => ((allSlots.find? marked.store.usable).map fun f =>
                  .relocCopy (((s.store.messageAt q).map fun m => m.header.number).getD 0) q f false).toList)) ∧
      (∀ r rest, s.link.reserved = r :: rest → why = .delete [r.ticket] ∨ why = .keep r.ticket →
        leaves (.markProgramEnd true) (marked.filledBy [] r rest .done) ∧
        leaves (.markProgramEnd false) ((s.failedAt o p).filledBy [] r rest .done))) ∧
    (∀ b, o = .retireMark b →
      leaves (.markProgramEnd true) { s with store := { s.store with
        flash := { s.store.flash with blocks := s.store.flash.blocks.modify b fun k => { k with retired := true, readable := true } }
        running := none } } ∧
      ∃ v : State, leaves (.markProgramEnd false) v ∧
        v = { s with
          draws := s.draws + 1
          store := { (s.store.leave o left false) with running := none }
          link := { s.link with outbox := postIn v.storeSnapshot 4 s.link.outbox } }) ∧
    (∀ b repair k, o = .erase b repair → s.store.flash.blocks[b]? = some k → (∀ x, (s.sub x).memoryFull = false) →
      (∀ e ∈ s.text.table, e.unwritten = false) →
      let erased : Store := { s.store with
        flash := { s.store.flash with blocks := s.store.flash.blocks.set b { k with
          erases := if k.readable then min (k.erases + 1) 65535 else 1
          readable := true
          cells := List.replicate 8 .erased } }
        index := s.store.index.set b (List.replicate 8 .free), running := none }
      let failed : Store := { (s.store.leave o left false) with
        index := s.store.index.set b (List.replicate 8 .retired)
        retired := if b ∈ s.store.retired then s.store.retired else s.store.retired ++ [b]
        queue := .retireMark b :: s.store.queue
        running := none }
      (s.store.reclaim ≠ some b → leaves (.blockEraseEnd true) { s with store := erased }) ∧
      (s.store.reclaim = some b →
        ∃ v : State, leaves (.blockEraseEnd true) v ∧
          v = { s with
            store := { erased with reclaim := none, queue := s.store.queue.filter fun q => !q.isStep }
            link := { s.link with outbox := postIn v.storeSnapshot 2 s.link.outbox } }) ∧
      (s.store.reclaim ≠ some b →
        ∃ v : State, leaves (.blockEraseEnd false) v ∧
          v = { s with
            draws := s.draws + 1, store := failed
            link := { s.link with outbox := postIn v.storeSnapshot 4 s.link.outbox } }) ∧
      (s.store.reclaim = some b →
        ∃ v : State, leaves (.blockEraseEnd false) v ∧
          v = { s with
            draws := s.draws + 1
            store := { failed with reclaim := none, queue := .retireMark b :: s.store.queue.filter fun q => !q.isStep }
            link := { s.link with
              outbox := postIn v.storeSnapshot 2
                (postIn ({ s with store := failed } : State).storeSnapshot 4 s.link.outbox) } })) ∧
    (∀ d ticket r rest (verified : Bool), o = .settings d ticket → s.link.reserved = r :: rest → r.ticket = ticket →
      s.store.reclaim = none → (∀ n p q t, StoreOp.keepCopy n p q t ∉ s.store.queue) →
      (∀ b < 16, s.store.isProtected b = true → d.protects b = true) →
      ∃ v : State, leaves (.settingsRewriteEnd verified) (v.filledBy [] r rest .done) ∧
        v = { s with
          store := { s.store with
            flash := if verified then { s.store.flash with settings := some d } else (s.store.leave o left false).flash
            descriptor := d, fault := !verified, running := none }
          draws := if verified then s.draws else s.draws + 1
          link := { s.link with outbox := postIn v.storeSnapshot (if verified then 16 else 24) s.link.outbox } })

/-! ## The radio calendar (R43 to R59) and the measurement unit (R60 to R78) -/

/-- R53, R17, R18, R19, R54, R155, R104, R128, R9, R30, R97, R36: what becomes of windows. WINDOW_ORDERED: the first window
in calendar order that is PLANNED and whose ordering point is reached becomes ORDERED, and its order goes out under the next
number; here for a window that receives, while no erase runs, for an ACCESS_TX of a connection, which suspends a running erase,
for a DED_TX, and for the burst of an access attempt that stands alone. A DED_TX carries the first message of the queue, and a
voice block gives way, which counts only where there is one, by the model's reading (log 46); without a message the oldest voice
block, and without either nothing. A burst of frame f has the first four of the frames f + 1 to f + 5 that are no frame 0 of a
cycle watched by GRANT_RX windows of 2 slots: that they are inserted when the burst is ordered (log 13), and anew for each burst
(log 93), is the model's reading. FRONT_END_RESULT and RESULT_LIMIT, here while no erase runs: the window and its order leave the
calendar, before the owner acts by the model's reading (log 66), and its outcome, DONE or FAILED, goes to its reporting block; of a window withdrawn meanwhile nobody is told, but the
ending counts. A result sets the count of failures to 0 and ends a silence with a RADIO notice; the third failure in succession
makes the front end silent with one. What the block does with it, for three purposes (the search's and the beacon's:
ASearchPlansOneWindowForEachChannel; the accesses of a handover: AMoveExchangesTheContexts). A PAGE window, here of a subscription
that no entry serves, whose refresh is not in that frame, without rounds and pages, and alone in the calendar, counts (a decoded
block clears the misses and raises the downlink counter by 1 up to 10, any other content and a failure clear the misses and lower
it by 2, a skip adds a miss), a block renews the anchor, and the PAGE window of the next occasion is planned, in that order by the
model's reading (log 23). A DED_RX window,
here of a connection in whose frame the DED_TX has not ended, adds its entry to the downlink ring, SIGNAL for a decoded block of
any kind but VOICE by the model's reading (log 76), moves the link counter (a block 2 up, at most to the tolerance, any other
content and a failure 1 down), and samples the serving entry with its level, here with no attempt of the other subscription open on
it, and ends the serving attempt of the subscription's oldest round alone (log 85); a block renews the anchor, and the message of a SIG
block then goes to the block that owns its kind, by the model's reading after the level has entered (log 49). A GRANT_RX window of an attempt, here with the attempt's windows alone in the
calendar, whose block grants the attempt's reference ends it: the anchor is renewed, by the model's reading
(log 19), and the connection begins with the camped
cell, the offsets of the grant, the attempt's purposes and the link tolerance as its counter; two frames of DED windows are
planned, the mode is DEDICATED, and a page reply with TEXT, joined later too by the model's reading (log 104), has the incoming
reason; ENROL is offered when REGISTER is a purpose,
and a REQUESTING record waits as DIALLING, and otherwise the exchanges begin. Nothing else changes. -/
def Obligations.WindowsAreOrderedAndEnd : Prop :=
  (∀ (s : State) (w : Window) (pre post : List Window), s.awake = true → s.quiet → s.cal.windows = pre ++ w :: post →
    (∀ v ∈ pre ++ post, v.id ≠ w.id) →
    (w.state = .planned → (s.now - (w.start - 2)).toNat < 2 ^ 31 →
      (∀ v ∈ pre, v.state ≠ .planned ∨ 2 ^ 31 ≤ (s.now - (v.start - 2)).toNat) →
      let cal (o : Order) (b : Option TxBlock) : Calendar := { s.cal with
        windows := pre ++ { w with state := .ordered, block := b } :: post
        outstanding := s.cal.outstanding ++ [{ number := s.cal.nextOrder, order := o, window := w.id }]
        nextOrder := s.cal.nextOrder + 1 }
      ((∀ r, s.store.running = some r → r.op.isErase = false) →
        (w.purpose = .search ∨ w.purpose = .meas →
          exec .windowOrdered s = .next { s with cal := cal (.sample w.channel w.start) w.block }) ∧
        (w.purpose ∈ [WinPurpose.pageRx, .beaconRx, .grantRx, .dedRx] →
          exec .windowOrdered s = .next { s with
            cal := cal (if w.len = 10 then .acquire w.channel w.start else .receive w.channel w.start w.len) w.block }) ∧
        (w.purpose = .dedTx → w.reporter = .context →
          (∀ q rest, s.ctx.queue = q :: rest →
            exec .windowOrdered s = .next { s with
              cal := cal (.transmit w.channel w.start (.sig q.msg)) (some (.sig q.msg))
              ctx := { s.ctx with carrying := s.ctx.carrying ++ [(w.id, q.id)] }
              voice := if s.voiceCall = true then s.voice.discardUp else s.voice }) ∧
          (∀ b rest, s.ctx.queue = [] → s.voiceCall = true → s.voice.up = b :: rest →
            exec .windowOrdered s = .next { s with
              cal := cal (.transmit w.channel w.start (.voice b)) (some (.voice b)), voice := { s.voice with up := rest } }) ∧
          (s.ctx.queue = [] → s.voiceCall = false ∨ s.voice.up = [] →
            exec .windowOrdered s = .next { s with cal := cal (.transmit w.channel w.start .idle) (some .idle) })) ∧
        (∀ x a c b f, w.purpose = .accessTx → w.reporter = .subscription → w.owner = .sub x → w.block = some b → w.len = 1 →
          s.engaged = some { sub := x, stage := .attempt a } → a.tx = some (w.id, f) → a.watches = [] →
          (s.sub x).camped = some c → c.cell.channel = w.channel → pre = [] → post = [] → w.start = s.now + 2 →
          s.cal.quiet = false →
          (∀ k, 1 ≤ k → k ≤ 5 →
            frameSlot c.anchor (f + BitVec.ofNat 16 k) 0 s.now = w.start + BitVec.ofNat 32 (10 * k - 8)) →
          let watched := (([1, 2, 3, 4, 5].filter fun k => decide ((f + BitVec.ofNat 16 k).toNat % 64 ≠ 0)).take 4).zipIdx.map
            fun p => (s.cal.counter + BitVec.ofNat 32 p.2, p.1)
          exec .windowOrdered s = .next { s with
            engaged := some {
              sub := x
              stage := .attempt { a with watches := watched.map fun p => (p.1, f + BitVec.ofNat 16 p.2) } }
            cal := { cal (.transmit w.channel w.start b) (some b) with
              counter := s.cal.counter + 4
              windows := { w with state := .ordered } :: watched.map fun p => {
                id := p.1, owner := .sub x, reporter := .subscription, purpose := .grantRx, cls := .access
                channel := w.channel, start := w.start + BitVec.ofNat 32 (10 * p.2 - 8), len := 2
                requested := w.start + BitVec.ofNat 32 (10 * p.2 - 8), slack := none, block := none, state := .planned
                withdrawn := false } } })) ∧
      (∀ b t r, w.purpose = .accessTx → w.reporter = .context → w.block = some b → s.store.running = some r →
        r.op.isErase = true → r.since = some t →
        exec .windowOrdered s = .next { s with
          cal := cal (.transmit w.channel w.start b) (some b)
          store := { s.store with
            running := some { r with accumulated := r.accumulated + (s.now - t).toNat, since := none } } })) ∧
    (w.state = .ordered → (∀ r, s.store.running = some r → r.op.isErase = false) →
      let gone : Calendar := { s.cal with
        windows := pre ++ post, outstanding := s.cal.outstanding.filter fun o => decide (o.window ≠ w.id) }
      let told (u : State) (st : WinState) (e : Ended) : Host.Outcome State Fault Refusal :=
        if w.withdrawn = true then .next u else settle (u.handOver { w with state := st } e)
      (∀ number result o, (s.cal.outstanding.find? fun o => decide (o.number = number) && expects o.order result) = some o →
        o.window = w.id →
        exec (.frontEndResult number result) s =
          told (if s.cal.silent = true then { s with
              cal := { gone with failed := 0, silent := false, reason := some .back }
              link := { s.link with outbox := postIn (.radio false .back 0) 1 s.link.outbox } }
            else { s with cal := { gone with failed := 0 } }) .done (.done (accept result))) ∧
      ((s.now - (w.start + BitVec.ofNat 32 (w.len + 2))).toNat < 2 ^ 31 →
        exec (.resultLimit w.id) s =
          told (if s.cal.failed = 2 then { s with
              cal := { gone with failed := 3, silent := true, reason := some .silent }
              link := { s.link with outbox := postIn (.radio true .silent 3) 1 s.link.outbox } }
            else { s with cal := { gone with failed := s.cal.failed + 1 } }) .failed .failed))) ∧
  (∀ (x : Sub) (w : Window) (f : FrameNo) (c : CampedCell) (e : Ended) (s : State),
    w.owner = .sub x → w.reporter = .subscription → w.purpose = .pageRx → (s.sub x).state = .camped →
    (s.sub x).page = some (w.id, f) → (s.sub x).camped = some c → isOccasion c ((s.sub x).key.getD 0) f = true →
    (s.sub x).refresh ≠ some { frame := f, window := none } → (∀ y ∈ s.meas.entries, y.owner.get x = false ∧ y.serving.get x = false) →
    (s.measOf x).mode = .idle → (s.measOf x).rounds = [] → (s.sub x).notices = false → s.cal.windows = [] → s.cal.quiet = false →
    let next := f + BitVec.ofNat 16 (64 * 2 ^ c.params.listen)
    let counted (misses : Nat) (downlink : Int) (anchor : Anchor) : State :=
      let start := frameSlot anchor next 0 s.now
      { s with
        subs := s.subs.set x { s.sub x with
          misses := misses, downlink := downlink, page := some (s.cal.counter, next)
          camped := some { c with anchor := anchor } }
        cal := { s.cal with
          counter := s.cal.counter + 1
          windows := [{
            id := s.cal.counter, owner := .sub x, reporter := .subscription, purpose := .pageRx
            cls := if (s.sub x).guard ≤ misses then .pageStarved else .page
            channel := c.cell.channel, start := start, len := 2, requested := start, slack := none, block := none
            state := .planned, withdrawn := false }] } }
    let ahead (anchor : Anchor) := 3 ≤ (frameSlot anchor next 0 s.now - s.now).toNat ∧
      (frameSlot anchor next 0 s.now - s.now).toNat < 2 ^ 31
    (∀ fr gs l, e = .done (.block (.control fr [] gs) l) → ahead { s0 := w.start, f0 := fr } → 0 < min ((s.sub x).downlink + 1) 10 →
      s.handOver w e = counted 0 (min ((s.sub x).downlink + 1) 10) { s0 := w.start, f0 := fr }) ∧
    ((∃ l, e = .done (.bad l)) ∨ e = .failed → ahead c.anchor → 2 < (s.sub x).downlink →
      s.handOver w e = counted 0 ((s.sub x).downlink - 2) c.anchor) ∧
    ((∃ k v, e = .skipped k v) → ahead c.anchor → 0 < (s.sub x).downlink →
      s.handOver w e = counted (min ((s.sub x).misses + 1) 255) (s.sub x).downlink c.anchor)) ∧
  (∀ (x : Sub) (w : Window) (c : Context) (f g : DedFrame) (t : WinId) (r : Round) (rest : List Round) (n : Nat) (e : Ended)
      (s : State),
    w.owner = .sub x → w.reporter = .context → w.purpose = .dedRx → s.connection x = some c → s.ctx.frames = [f, g] →
    f.rx = some w.id → f.tx = some t → t ≠ w.id → g.rx ≠ some w.id → g.tx ≠ some w.id → g.rx.isSome = true → c.f0 ≠ none →
    c.counter = some n → (s.measOf x).mode = .dedicated → (s.measOf x).rounds = r :: rest → r.attempts ≠ [] →
    let limit := ((s.sub x).camped.map fun k => k.params.tolerance).getD 0
    let moved (m : Nat) (s0 : Slot) (f0 : Option FrameNo) (v : VoiceEntry) (meas : Meas) : State := { s with
      ctx := { s.ctx with
        frames := [{ f with rx := none }, g], active := some { c with counter := some m, s0 := s0, f0 := f0 } }
      voice := s.voice.add v
      meas := meas }
    let sampled (i l : Nat) : Meas := {
      entries := s.meas.entries.map fun y =>
        if y.index = i then { y with level := some (filtered y.level y.depth l), rounds := 0 } else y
      subs := s.meas.subs.set x { s.measOf x with rounds := { r with serving := some (r.serving.getD true) } :: rest } }
    (∀ y l, s.servingEntry x = some y →
      (∀ z, ∀ q ∈ (s.measOf z).rounds, ∀ a ∈ q.attempts, a.entry ≠ y.index) →
      (∀ q ∈ (s.measOf x.other).rounds, q.serving = none →
        ∀ o ∈ s.meas.entries, o.index = y.index → o.serving.get x.other = false) →
      (∀ b, e = .done (.block b l) → (∀ fr m, b ≠ .sig fr (some m)) → 0 < min (n + 2) limit →
        s.handOver w e = moved (min (n + 2) limit) f.start (some (blockFrame b))
          (match b with
            | .voice _ octets => { mark := .good, octets := octets }
            | _ => { mark := .signal, octets := [] })
          (sampled y.index l)) ∧
      (∀ fr m, e = .done (.block (.sig fr (some m)) l) → 0 < min (n + 2) limit →
        let u := (moved (min (n + 2) limit) f.start (some fr) { mark := .signal, octets := [] } (sampled y.index l)).received x
          f.start m
        u.connection x = none ∨ 2 ≤ u.ctx.frames.length ∨ u.ctx.handover ≠ .none → s.handOver w e = u) ∧
      (e = .done (.bad l) → 2 ≤ n →
        s.handOver w e = moved (n - 1) c.s0 c.f0 { mark := .damaged, octets := List.replicate 20 0 } (sampled y.index l))) ∧
    (e = .failed → 2 ≤ n → s.handOver w e = moved (n - 1) c.s0 c.f0 { mark := .lost, octets := [] } s.meas) ∧
    (∀ k v, e = .skipped k v → 1 ≤ n →
      s.handOver w e = moved n c.s0 c.f0 { mark := if v = some .pageStarved then .stolen else .lost, octets := [] } s.meas)) ∧
  (∀ (x : Sub) (w : Window) (k : CampedCell) (a : Attempt) (b fr : FrameNo) (pages : List PageEntry) (pre post : List Grant)
      (g : Grant) (l : Nat) (s : State),
    w.owner = .sub x → w.reporter = .subscription → w.purpose = .grantRx → s.engaged = some { sub := x, stage := .attempt a } →
    (s.sub x).camped = some k → (w.id, b) ∈ a.watches → a.tx.map Prod.fst ≠ some w.id → s.holdsOnly x [.accessTx, .grantRx] →
    s.cal.quiet = false → (s.now - w.start).toNat ≤ 9 →
    (∀ h ∈ pre, h.reference ≠ a.reference) → g.reference = a.reference → 2 ≤ g.rx → g.rx ≤ 9 → 2 ≤ g.tx → g.tx ≤ 9 →
    g.rx + 2 ≤ g.tx ∨ g.tx + 2 ≤ g.rx →
    ∃ t : State,
      t = { s with
        subs := s.subs.set x { s.sub x with camped := some { k with anchor := { s0 := w.start, f0 := fr } } }
        engaged := some { sub := x, stage := .connected }
        ctx := { CtxUnit.reset with
          active := some {
            sub := x, cell := k.cell, area := k.area, areaConfirmed := true, s0 := w.start, f0 := some fr, rx := g.rx, tx := g.tx
            purposes := a.purposes, counter := some k.params.tolerance, role := .active }
          nextMsg := s.ctx.nextMsg, frames := t.ctx.frames, nextFrame := w.start + 30 }
        text := if a.pageReply = true ∧ Purpose.text ∈ a.purposes then { s.text with
            subs := s.text.subs.set x { s.textOf x with incoming := true, idle := .running (slotAdd s.now 400) } }
          else s.text
        cal := t.cal, meas := t.meas, reports := t.reports } ∧
      (t.ctx.frames.map fun f => (f.start, f.rx.isSome, f.tx.isSome)) =
        [(w.start + 10, true, true), (w.start + 20, true, true)] ∧
      (∀ f ∈ t.ctx.frames, ∀ (at_ : Nat) (p : WinPurpose) (id : WinId),
        (f.rx = some id ∧ at_ = g.rx ∧ p = .dedRx) ∨ (f.tx = some id ∧ at_ = g.tx ∧ p = .dedTx) →
        { id := id, owner := .sub x, reporter := .context, purpose := p, cls := .dedicated, channel := k.cell.channel
          start := slotAdd f.start at_, len := 1, requested := slotAdd f.start at_, slack := none, block := none
          state := .planned, withdrawn := false } ∈ t.cal.windows) ∧
      (t.measOf x).mode = .dedicated ∧
      let run := s.handOver w (.done (.block (.control fr pages (pre ++ g :: post)) l))
      (Purpose.register ∉ a.purposes → run = t.beginExchanges x) ∧
      (Purpose.register ∈ a.purposes →
        let ctx := (t.offer (.enrol ((s.sub x).identity.getD 0) (s.sub x).area)).ctx
        ((∀ i, s.callOf x = some i → (s.call i).state ≠ .requesting) → run = { t with ctx := ctx }) ∧
        (∀ i, s.callOf x = some i → (s.call i).state = .requesting →
          run = { t.callTold i { s.call i with state := .dialling, timer := none } 1 with ctx := ctx }))) ∧
  (∀ (v : Voice) (e : VoiceEntry),
    (v.running = false → v.add e = v) ∧
    (v.running = true →
      (v.add e).down = (if v.down.length < 16 then v.down else v.down.drop 1) ++ [e] ∧
      ((v.add e).counts.downOverflow =
        if v.down.length < 16 then v.counts.downOverflow else min (v.counts.downOverflow + 1) 65535)))

/-- R46: two windows conflict exactly when they share a slot, or lie on different channels and the first slot of one is the slot
right after the last slot of the other. Nothing else about them decides it. -/
def Obligations.TwoWindowsConflictExactlyWhen : Prop :=
  ∀ a b : Window, 1 ≤ a.len → a.len ≤ 2 ^ 31 → 1 ≤ b.len → b.len ≤ 2 ^ 31 →
    (conflict a b = true ↔
      (∃ i < a.len, ∃ j < b.len, a.start + BitVec.ofNat 32 i = b.start + BitVec.ofNat 32 j) ∨
      (a.channel ≠ b.channel ∧
        (b.start = a.start + BitVec.ofNat 32 (a.len - 1) + 1 ∨ a.start = b.start + BitVec.ofNat 32 (b.len - 1) + 1)))

/-- R44, R47, R48, R49, R51: settling an insertion against a calendar of at most 32 windows, of which no two conflict, leaves such
a calendar again. No ORDERED window is moved or lost. Every window of the new calendar is the newcomer or one that was there,
either in its place or, where it has slack, at another start within its slack; and every window that is no longer there, and a
newcomer that found no place, is skipped. Who wins: when each window in conflict with the newcomer is PLANNED and of a lower
class, the newcomer takes its start, and each of these, in calendar order, is moved to the earliest later start within its slack
that conflicts with none, the newcomer included, or ends SKIPPED, NO_PLACE when it is movable and DISPLACED when not, with the
newcomer's class. Otherwise, at an equal class as well, the newcomer loses: it is moved in the same way, or ends SKIPPED, NO_PLACE
or OUTCLASSED, with the highest class in conflict with it. A window to be placed in a calendar of 32 takes the place of the
PLANNED one of the lowest class, the latest start and the newest identity, which is EVICTED and stands among the skips in calendar
order, when that class is lower than its own, and is otherwise SKIPPED, FULL, as the last of the skips. That a window moved by the
same insertion is evicted with, and ordered by, the start it was moved to (log 100), and that a newcomer so moved is refused with
that start (log 106), is the model's reading. -/
def Obligations.SettlingKeepsTheCalendarFreeOfConflicts : Prop :=
  ∀ (w : Window) (ws : List Window), conflictFree ws → ws.length ≤ 32 → ((w :: ws).map Window.id).Nodup →
    conflictFree (settleIn w ws).1 ∧ (settleIn w ws).1.length ≤ 32 ∧
    (∀ v ∈ ws, v.state = .ordered → v ∈ (settleIn w ws).1) ∧
    (∀ u ∈ (settleIn w ws).1, ∃ v ∈ w :: ws, u = v ∨
      ∃ k m, v.slack = some k ∧ m ≤ 10 * k ∧ u = { v with start := v.requested + BitVec.ofNat 32 m }) ∧
    (∀ v ∈ w :: ws, (∃ u ∈ (settleIn w ws).1, u.id = v.id) ∨ ∃ k ∈ (settleIn w ws).2, k.window.id = v.id) ∧
    (let rivals := ws.filter fun v => conflict w v
      let wins := ∀ v ∈ rivals, v.state = .planned ∧ w.cls.above v.cls
      (wins → ∃ out skips, displaced w rivals (ws.filter fun v => !conflict w v) out skips ∧
        placedIn w out skips (settleIn w ws)) ∧
      (¬wins →
        (∀ v, w.movesTo ws v → placedIn v ws [] (settleIn w ws)) ∧
        (w.noPlace ws → ∃ v ∈ rivals, (∀ u ∈ rivals, ¬u.cls.above v.cls) ∧
          settleIn w ws = (ws, [{ window := w, cause := w.lostBy .outclassed, winner := some v.cls }]))))

/-- R71, R72, R62, R65, R67, R70, R73, R74, R77, R78: the measurement unit, by its own operations. A sample of at most 200 enters
the filter: an absent level becomes 16 times the sample; a present one moves by the step, the difference divided by 2^k, to the
nearest whole number with halves away from zero, of at most half the difference and a half for k of 1 or more, and the whole of it
for k = 0. It stays between its old value and 16 times the sample, so within 0..3200, and the reported level within 0..200.
Entries are ranked by rank, the highest first, the lower index first at equal rank. A beacon list leaves a subscription serving on
its serving cell alone and owning listed cells alone. A MEAS window that ends with a sample enters it for the entry bound to it,
whose open attempts of both subscriptions, serving attempts included, end with a sample; of one that ends without, the open attempts
bound to it end without one. An evaluation, in any mode, here without a
third floor strike, which would lose the camp, moves the trigger count of each owned entry that was sampled, up to T when it
outranks the serving cell and to 0 otherwise, and counts the rounds without a sample, at 8 of which the level and the triggers go.
The idle trigger makes the triggered entry of highest rank the target, with an acquisition of 10 slots 3 slots ahead. The report
rule offers a MEAS_REPORT of the serving level and up to 3 triggered entries when one became triggered or 8 evaluations have
passed, in place of one that waits. Nothing else changes. That those 8 are counted from the last report or change of mode (log
39), that the newer report takes the place of the one that waits (log 40), that it ends the serving attempt of
every round in progress (log 85), and that an evaluation follows a deletion when that is complete (log 94), is the model's reading. -/
def Obligations.TheFilterMovesTowardsTheSample : Prop :=
  (∀ k sample : Nat, sample ≤ 200 →
    filtered none k sample = 16 * sample ∧
    ∀ f : Nat, f ≤ 3200 →
      let d : Int := 16 * sample - f
      let step : Int := (filtered (some f) k sample : Int) - f
      (2 * 2 ^ k * step.natAbs ≤ 2 * d.natAbs + 2 ^ k ∧ 2 * d.natAbs + 2 ^ k < 2 * 2 ^ k * (step.natAbs + 1) ∧ 0 ≤ step * d) ∧
      (k = 0 → filtered (some f) k sample = 16 * sample) ∧
      (1 ≤ k → 2 * step.natAbs ≤ d.natAbs + 1) ∧
      min f (16 * sample) ≤ filtered (some f) k sample ∧ filtered (some f) k sample ≤ max f (16 * sample) ∧
      filtered (some f) k sample ≤ 3200 ∧ reportedLevel (filtered (some f) k sample) ≤ 200) ∧
  (∀ (x : Sub) (es : List Entry),
    ((ranked x es).Pairwise fun p q => q.2 < p.2 ∨ (p.2 = q.2 ∧ p.1.index ≤ q.1.index)) ∧
    ∀ e n, (e, n) ∈ ranked x es ↔ e ∈ es ∧ ∃ f, e.level = some f ∧ n = (f : Int) + 16 * e.offset.get x) ∧
  (∀ (x : Sub) (serving : CellId) (list : List Neighbour) (s : State), s.meas.legal →
    ∀ e ∈ (s.applyList x serving list).meas.entries,
      (e.serving.get x = true → e.cell = serving) ∧ (e.owner.get x = true → ∃ n ∈ list, n.cell = e.cell)) ∧
  (∀ (w : Window) (y : Entry) (s : State), w.reporter = .measurement → w.purpose = .meas →
    (s.meas.entries.filter fun e => decide (e.bound = some w.id)) = [y] → (s.meas.entries.map Entry.index).Nodup →
    (∀ u ∈ s.cal.windows, u.id ≠ w.id) →
    (∀ x, ∀ r ∈ (s.measOf x).rounds, ∀ a ∈ r.attempts, a.entry = y.index → a.ended = none → a.window = none ∨ a.window = some w.id) →
    let over_ (entries : List Entry) (sampled : SampleTry → Bool) (serving : Sub → Bool) (got : Bool) (t : State) : Prop :=
      let after (x : Sub) : MeasSub := { s.measOf x with
        rounds := (s.measOf x).rounds.map fun r => { r with
          attempts := r.attempts.map fun a => if sampled a = true ∧ a.ended = none then { a with ended := some got } else a
          serving := if serving x = true ∧ r.serving = none then some got else r.serving }
        dedWindows := (s.measOf x).dedWindows.filter fun v => decide (v ≠ w.id) }
      t = { s with reports := t.reports, meas := { entries := entries, subs := { a := after .A, b := after .B } } }
    (∀ l, over_
      (s.meas.entries.map fun e => if e.index = y.index then
        { e with bound := none, level := some (filtered e.level e.depth l), rounds := 0 } else e)
      (fun a => decide (a.entry = y.index)) y.serving.get true (s.handOver w (.done (.sample l)))) ∧
    (∀ e, e = .failed ∨ (∃ k v, e = .skipped k v) →
      over_ (s.meas.entries.map fun e => if e.index = y.index then { e with bound := none } else e)
        (fun a => decide (a.window = some w.id)) (fun _ => false) false (s.handOver w e))) ∧
  (∀ (x : Sub) (r : Round) (s : State), ((s.measOf x).mode = .idle → (s.sub x).strikes < 2 ∨ (s.sub x).state ≠ .camped) →
    (s.evaluate x r).meas.entries = s.meas.entries.map fun e =>
      let sampled := ∃ a ∈ r.attempts, a.entry = e.index ∧ a.ended = some true
      let counted : Entry := match s.servingRank x, e.rankFor x with
        | some k, some n =>
          if e.owner.get x = true ∧ sampled then
            { e with trigger := e.trigger.set x (if k < n then min (e.trigger.get x + 1) (s.timeToTrigger x) else 0) }
          else e
        | _, _ => e
      let got : Option Bool := if e.serving.get x = true then some (decide (r.serving = some true))
        else (r.attempts.find? fun a => decide (a.entry = e.index)).map fun a => decide (a.ended = some true)
      match got with
      | none => counted
      | some true => { counted with rounds := 0 }
      | some false =>
        if 7 ≤ e.rounds then { counted with rounds := 8, level := none, trigger := .both 0 }
        else { counted with rounds := e.rounds + 1 }) ∧
  (∀ (x : Sub) (s : State),
    ((s.sub x).target ≠ none → s.idleTrigger x = s) ∧
    ((s.sub x).target = none →
      ((∀ e ∈ s.meas.entries, s.triggered x e = true → e.level = none) → s.idleTrigger x = s) ∧
      (∀ e n, e ∈ s.meas.entries → s.triggered x e = true → e.rankFor x = some n →
        (∀ f ∈ s.meas.entries, ∀ m, s.triggered x f = true → f.rankFor x = some m → f ≠ e →
          m < n ∨ (m = n ∧ e.index < f.index)) → s.cal.windows = [] → s.cal.quiet = false →
        s.idleTrigger x = { s with
          subs := s.subs.set x { s.sub x with target := some e.index }
          meas := { s.meas with subs := s.meas.subs.set x { s.measOf x with resel := .acquiring s.cal.counter false } }
          cal := { s.cal with
            counter := s.cal.counter + 1
            windows := [{
              id := s.cal.counter, owner := .sub x, reporter := .measurement, purpose := .beaconRx, cls := .beacon
              channel := e.cell.channel, start := s.now + 3, len := 10, requested := s.now + 3, slack := none, block := none
              state := .planned, withdrawn := false }] } }))) ∧
  (∀ (x : Sub) (fresh : Bool) (l : Nat) (s : State), s.servingLevel x = some l →
    let triggered := ranked x (s.meas.entries.filter (s.triggered x))
    let report : UpMsg :=
      .measReport l ((triggered.take 3).map fun p => { cell := p.1.cell, level := (p.1.reported).getD 0 })
    let m := s.measOf x
    let counted (since : Option Nat) (passed : Nat) : State := { s with
      meas := { s.meas with subs := s.meas.subs.set x { m with sinceReport := since, evaluations := passed } } }
    (triggered = [] → s.reportRule x fresh = counted none (min (m.evaluations + 1) 8)) ∧
    (triggered ≠ [] → fresh = false → m.evaluations < 7 →
      s.reportRule x fresh = counted (m.sinceReport.map fun n => min (n + 1) 8) (m.evaluations + 1)) ∧
    (triggered ≠ [] → fresh = true ∨ 7 ≤ m.evaluations →
      ((∀ q ∈ s.ctx.waiting, q.msg.isReport = false) →
        s.reportRule x fresh = { counted (some 0) 0 with ctx := (s.offer report).ctx }) ∧
      ((∃ q ∈ s.ctx.waiting, q.msg.isReport = true) →
        s.reportRule x fresh = { counted (some 0) 0 with
          ctx := { s.ctx with
            waiting := s.ctx.waiting.map fun q => if q.msg.isReport then { q with msg := report } else q } })))
end

