-- ==== Sys2Proof/Laws/State.lean ====
section
/-! SUPPORT. What each update of one block leaves of every field of the state, and the two values of a pair held for the
subscriptions. All true by computation, all tagged for `simp`. -/

namespace Sys2Proof

@[simp] theorem Two.get_set_same {α : Type} (t : Two α) (x : Sub) (v : α) : (t.set x v).get x = v := by cases x <;> rfl
@[simp] theorem Two.get_set_other {α : Type} (t : Two α) (x : Sub) (v : α) : (t.set x v).get x.other = t.get x.other := by
  cases x <;> rfl
@[simp] theorem Two.get_both {α : Type} (v : α) (x : Sub) : (Two.both v).get x = v := by cases x <;> rfl
@[simp] theorem Sub.other_other (x : Sub) : x.other.other = x := by cases x <;> rfl
@[simp] theorem Sub.other_ne (x : Sub) : x.other ≠ x := by cases x <;> decide

namespace Machine

/-! ### modSub -/

@[simp] theorem State.modSub_pending (s : State) (x : Sub) (f : SubRec → SubRec) : (s.modSub x f).pending = s.pending := rfl
@[simp] theorem State.modSub_reports (s : State) (x : Sub) (f : SubRec → SubRec) : (s.modSub x f).reports = s.reports := rfl
@[simp] theorem State.modSub_now (s : State) (x : Sub) (f : SubRec → SubRec) : (s.modSub x f).now = s.now := rfl
@[simp] theorem State.modSub_draws (s : State) (x : Sub) (f : SubRec → SubRec) : (s.modSub x f).draws = s.draws := rfl
@[simp] theorem State.modSub_moments (s : State) (x : Sub) (f : SubRec → SubRec) : (s.modSub x f).moments = s.moments := rfl
@[simp] theorem State.modSub_cal (s : State) (x : Sub) (f : SubRec → SubRec) : (s.modSub x f).cal = s.cal := rfl
@[simp] theorem State.modSub_subs (s : State) (x : Sub) (f : SubRec → SubRec) : (s.modSub x f).subs = s.subs.set x (f (s.subs.get x)) := rfl
@[simp] theorem State.modSub_engQueue (s : State) (x : Sub) (f : SubRec → SubRec) : (s.modSub x f).engQueue = s.engQueue := rfl
@[simp] theorem State.modSub_engaged (s : State) (x : Sub) (f : SubRec → SubRec) : (s.modSub x f).engaged = s.engaged := rfl
@[simp] theorem State.modSub_meas (s : State) (x : Sub) (f : SubRec → SubRec) : (s.modSub x f).meas = s.meas := rfl
@[simp] theorem State.modSub_calls (s : State) (x : Sub) (f : SubRec → SubRec) : (s.modSub x f).calls = s.calls := rfl
@[simp] theorem State.modSub_ctx (s : State) (x : Sub) (f : SubRec → SubRec) : (s.modSub x f).ctx = s.ctx := rfl
@[simp] theorem State.modSub_voice (s : State) (x : Sub) (f : SubRec → SubRec) : (s.modSub x f).voice = s.voice := rfl
@[simp] theorem State.modSub_text (s : State) (x : Sub) (f : SubRec → SubRec) : (s.modSub x f).text = s.text := rfl
@[simp] theorem State.modSub_store (s : State) (x : Sub) (f : SubRec → SubRec) : (s.modSub x f).store = s.store := rfl
@[simp] theorem State.modSub_power (s : State) (x : Sub) (f : SubRec → SubRec) : (s.modSub x f).power = s.power := rfl
@[simp] theorem State.modSub_link (s : State) (x : Sub) (f : SubRec → SubRec) : (s.modSub x f).link = s.link := rfl

/-! ### modMeas -/

@[simp] theorem State.modMeas_pending (s : State) (x : Sub) (f : MeasSub → MeasSub) : (s.modMeas x f).pending = s.pending := rfl
@[simp] theorem State.modMeas_reports (s : State) (x : Sub) (f : MeasSub → MeasSub) : (s.modMeas x f).reports = s.reports := rfl
@[simp] theorem State.modMeas_now (s : State) (x : Sub) (f : MeasSub → MeasSub) : (s.modMeas x f).now = s.now := rfl
@[simp] theorem State.modMeas_draws (s : State) (x : Sub) (f : MeasSub → MeasSub) : (s.modMeas x f).draws = s.draws := rfl
@[simp] theorem State.modMeas_moments (s : State) (x : Sub) (f : MeasSub → MeasSub) : (s.modMeas x f).moments = s.moments := rfl
@[simp] theorem State.modMeas_cal (s : State) (x : Sub) (f : MeasSub → MeasSub) : (s.modMeas x f).cal = s.cal := rfl
@[simp] theorem State.modMeas_subs (s : State) (x : Sub) (f : MeasSub → MeasSub) : (s.modMeas x f).subs = s.subs := rfl
@[simp] theorem State.modMeas_engQueue (s : State) (x : Sub) (f : MeasSub → MeasSub) : (s.modMeas x f).engQueue = s.engQueue := rfl
@[simp] theorem State.modMeas_engaged (s : State) (x : Sub) (f : MeasSub → MeasSub) : (s.modMeas x f).engaged = s.engaged := rfl
@[simp] theorem State.modMeas_meas (s : State) (x : Sub) (f : MeasSub → MeasSub) : (s.modMeas x f).meas = { s.meas with subs := s.meas.subs.set x (f (s.meas.subs.get x)) } := rfl
@[simp] theorem State.modMeas_calls (s : State) (x : Sub) (f : MeasSub → MeasSub) : (s.modMeas x f).calls = s.calls := rfl
@[simp] theorem State.modMeas_ctx (s : State) (x : Sub) (f : MeasSub → MeasSub) : (s.modMeas x f).ctx = s.ctx := rfl
@[simp] theorem State.modMeas_voice (s : State) (x : Sub) (f : MeasSub → MeasSub) : (s.modMeas x f).voice = s.voice := rfl
@[simp] theorem State.modMeas_text (s : State) (x : Sub) (f : MeasSub → MeasSub) : (s.modMeas x f).text = s.text := rfl
@[simp] theorem State.modMeas_store (s : State) (x : Sub) (f : MeasSub → MeasSub) : (s.modMeas x f).store = s.store := rfl
@[simp] theorem State.modMeas_power (s : State) (x : Sub) (f : MeasSub → MeasSub) : (s.modMeas x f).power = s.power := rfl
@[simp] theorem State.modMeas_link (s : State) (x : Sub) (f : MeasSub → MeasSub) : (s.modMeas x f).link = s.link := rfl

/-! ### modText -/

@[simp] theorem State.modText_pending (s : State) (x : Sub) (f : TextSub → TextSub) : (s.modText x f).pending = s.pending := rfl
@[simp] theorem State.modText_reports (s : State) (x : Sub) (f : TextSub → TextSub) : (s.modText x f).reports = s.reports := rfl
@[simp] theorem State.modText_now (s : State) (x : Sub) (f : TextSub → TextSub) : (s.modText x f).now = s.now := rfl
@[simp] theorem State.modText_draws (s : State) (x : Sub) (f : TextSub → TextSub) : (s.modText x f).draws = s.draws := rfl
@[simp] theorem State.modText_moments (s : State) (x : Sub) (f : TextSub → TextSub) : (s.modText x f).moments = s.moments := rfl
@[simp] theorem State.modText_cal (s : State) (x : Sub) (f : TextSub → TextSub) : (s.modText x f).cal = s.cal := rfl
@[simp] theorem State.modText_subs (s : State) (x : Sub) (f : TextSub → TextSub) : (s.modText x f).subs = s.subs := rfl
@[simp] theorem State.modText_engQueue (s : State) (x : Sub) (f : TextSub → TextSub) : (s.modText x f).engQueue = s.engQueue := rfl
@[simp] theorem State.modText_engaged (s : State) (x : Sub) (f : TextSub → TextSub) : (s.modText x f).engaged = s.engaged := rfl
@[simp] theorem State.modText_meas (s : State) (x : Sub) (f : TextSub → TextSub) : (s.modText x f).meas = s.meas := rfl
@[simp] theorem State.modText_calls (s : State) (x : Sub) (f : TextSub → TextSub) : (s.modText x f).calls = s.calls := rfl
@[simp] theorem State.modText_ctx (s : State) (x : Sub) (f : TextSub → TextSub) : (s.modText x f).ctx = s.ctx := rfl
@[simp] theorem State.modText_voice (s : State) (x : Sub) (f : TextSub → TextSub) : (s.modText x f).voice = s.voice := rfl
@[simp] theorem State.modText_text (s : State) (x : Sub) (f : TextSub → TextSub) : (s.modText x f).text = { s.text with subs := s.text.subs.set x (f (s.text.subs.get x)) } := rfl
@[simp] theorem State.modText_store (s : State) (x : Sub) (f : TextSub → TextSub) : (s.modText x f).store = s.store := rfl
@[simp] theorem State.modText_power (s : State) (x : Sub) (f : TextSub → TextSub) : (s.modText x f).power = s.power := rfl
@[simp] theorem State.modText_link (s : State) (x : Sub) (f : TextSub → TextSub) : (s.modText x f).link = s.link := rfl

/-! ### modCtx -/

@[simp] theorem State.modCtx_pending (s : State) (f : CtxUnit → CtxUnit) : (s.modCtx f).pending = s.pending := rfl
@[simp] theorem State.modCtx_reports (s : State) (f : CtxUnit → CtxUnit) : (s.modCtx f).reports = s.reports := rfl
@[simp] theorem State.modCtx_now (s : State) (f : CtxUnit → CtxUnit) : (s.modCtx f).now = s.now := rfl
@[simp] theorem State.modCtx_draws (s : State) (f : CtxUnit → CtxUnit) : (s.modCtx f).draws = s.draws := rfl
@[simp] theorem State.modCtx_moments (s : State) (f : CtxUnit → CtxUnit) : (s.modCtx f).moments = s.moments := rfl
@[simp] theorem State.modCtx_cal (s : State) (f : CtxUnit → CtxUnit) : (s.modCtx f).cal = s.cal := rfl
@[simp] theorem State.modCtx_subs (s : State) (f : CtxUnit → CtxUnit) : (s.modCtx f).subs = s.subs := rfl
@[simp] theorem State.modCtx_engQueue (s : State) (f : CtxUnit → CtxUnit) : (s.modCtx f).engQueue = s.engQueue := rfl
@[simp] theorem State.modCtx_engaged (s : State) (f : CtxUnit → CtxUnit) : (s.modCtx f).engaged = s.engaged := rfl
@[simp] theorem State.modCtx_meas (s : State) (f : CtxUnit → CtxUnit) : (s.modCtx f).meas = s.meas := rfl
@[simp] theorem State.modCtx_calls (s : State) (f : CtxUnit → CtxUnit) : (s.modCtx f).calls = s.calls := rfl
@[simp] theorem State.modCtx_ctx (s : State) (f : CtxUnit → CtxUnit) : (s.modCtx f).ctx = f s.ctx := rfl
@[simp] theorem State.modCtx_voice (s : State) (f : CtxUnit → CtxUnit) : (s.modCtx f).voice = s.voice := rfl
@[simp] theorem State.modCtx_text (s : State) (f : CtxUnit → CtxUnit) : (s.modCtx f).text = s.text := rfl
@[simp] theorem State.modCtx_store (s : State) (f : CtxUnit → CtxUnit) : (s.modCtx f).store = s.store := rfl
@[simp] theorem State.modCtx_power (s : State) (f : CtxUnit → CtxUnit) : (s.modCtx f).power = s.power := rfl
@[simp] theorem State.modCtx_link (s : State) (f : CtxUnit → CtxUnit) : (s.modCtx f).link = s.link := rfl

/-! ### modVoice -/

@[simp] theorem State.modVoice_pending (s : State) (f : Voice → Voice) : (s.modVoice f).pending = s.pending := rfl
@[simp] theorem State.modVoice_reports (s : State) (f : Voice → Voice) : (s.modVoice f).reports = s.reports := rfl
@[simp] theorem State.modVoice_now (s : State) (f : Voice → Voice) : (s.modVoice f).now = s.now := rfl
@[simp] theorem State.modVoice_draws (s : State) (f : Voice → Voice) : (s.modVoice f).draws = s.draws := rfl
@[simp] theorem State.modVoice_moments (s : State) (f : Voice → Voice) : (s.modVoice f).moments = s.moments := rfl
@[simp] theorem State.modVoice_cal (s : State) (f : Voice → Voice) : (s.modVoice f).cal = s.cal := rfl
@[simp] theorem State.modVoice_subs (s : State) (f : Voice → Voice) : (s.modVoice f).subs = s.subs := rfl
@[simp] theorem State.modVoice_engQueue (s : State) (f : Voice → Voice) : (s.modVoice f).engQueue = s.engQueue := rfl
@[simp] theorem State.modVoice_engaged (s : State) (f : Voice → Voice) : (s.modVoice f).engaged = s.engaged := rfl
@[simp] theorem State.modVoice_meas (s : State) (f : Voice → Voice) : (s.modVoice f).meas = s.meas := rfl
@[simp] theorem State.modVoice_calls (s : State) (f : Voice → Voice) : (s.modVoice f).calls = s.calls := rfl
@[simp] theorem State.modVoice_ctx (s : State) (f : Voice → Voice) : (s.modVoice f).ctx = s.ctx := rfl
@[simp] theorem State.modVoice_voice (s : State) (f : Voice → Voice) : (s.modVoice f).voice = f s.voice := rfl
@[simp] theorem State.modVoice_text (s : State) (f : Voice → Voice) : (s.modVoice f).text = s.text := rfl
@[simp] theorem State.modVoice_store (s : State) (f : Voice → Voice) : (s.modVoice f).store = s.store := rfl
@[simp] theorem State.modVoice_power (s : State) (f : Voice → Voice) : (s.modVoice f).power = s.power := rfl
@[simp] theorem State.modVoice_link (s : State) (f : Voice → Voice) : (s.modVoice f).link = s.link := rfl

/-! ### modPower -/

@[simp] theorem State.modPower_pending (s : State) (f : Power → Power) : (s.modPower f).pending = s.pending := rfl
@[simp] theorem State.modPower_reports (s : State) (f : Power → Power) : (s.modPower f).reports = s.reports := rfl
@[simp] theorem State.modPower_now (s : State) (f : Power → Power) : (s.modPower f).now = s.now := rfl
@[simp] theorem State.modPower_draws (s : State) (f : Power → Power) : (s.modPower f).draws = s.draws := rfl
@[simp] theorem State.modPower_moments (s : State) (f : Power → Power) : (s.modPower f).moments = s.moments := rfl
@[simp] theorem State.modPower_cal (s : State) (f : Power → Power) : (s.modPower f).cal = s.cal := rfl
@[simp] theorem State.modPower_subs (s : State) (f : Power → Power) : (s.modPower f).subs = s.subs := rfl
@[simp] theorem State.modPower_engQueue (s : State) (f : Power → Power) : (s.modPower f).engQueue = s.engQueue := rfl
@[simp] theorem State.modPower_engaged (s : State) (f : Power → Power) : (s.modPower f).engaged = s.engaged := rfl
@[simp] theorem State.modPower_meas (s : State) (f : Power → Power) : (s.modPower f).meas = s.meas := rfl
@[simp] theorem State.modPower_calls (s : State) (f : Power → Power) : (s.modPower f).calls = s.calls := rfl
@[simp] theorem State.modPower_ctx (s : State) (f : Power → Power) : (s.modPower f).ctx = s.ctx := rfl
@[simp] theorem State.modPower_voice (s : State) (f : Power → Power) : (s.modPower f).voice = s.voice := rfl
@[simp] theorem State.modPower_text (s : State) (f : Power → Power) : (s.modPower f).text = s.text := rfl
@[simp] theorem State.modPower_store (s : State) (f : Power → Power) : (s.modPower f).store = s.store := rfl
@[simp] theorem State.modPower_power (s : State) (f : Power → Power) : (s.modPower f).power = f s.power := rfl
@[simp] theorem State.modPower_link (s : State) (f : Power → Power) : (s.modPower f).link = s.link := rfl

/-! ### modLink -/

@[simp] theorem State.modLink_pending (s : State) (f : Link → Link) : (s.modLink f).pending = s.pending := rfl
@[simp] theorem State.modLink_reports (s : State) (f : Link → Link) : (s.modLink f).reports = s.reports := rfl
@[simp] theorem State.modLink_now (s : State) (f : Link → Link) : (s.modLink f).now = s.now := rfl
@[simp] theorem State.modLink_draws (s : State) (f : Link → Link) : (s.modLink f).draws = s.draws := rfl
@[simp] theorem State.modLink_moments (s : State) (f : Link → Link) : (s.modLink f).moments = s.moments := rfl
@[simp] theorem State.modLink_cal (s : State) (f : Link → Link) : (s.modLink f).cal = s.cal := rfl
@[simp] theorem State.modLink_subs (s : State) (f : Link → Link) : (s.modLink f).subs = s.subs := rfl
@[simp] theorem State.modLink_engQueue (s : State) (f : Link → Link) : (s.modLink f).engQueue = s.engQueue := rfl
@[simp] theorem State.modLink_engaged (s : State) (f : Link → Link) : (s.modLink f).engaged = s.engaged := rfl
@[simp] theorem State.modLink_meas (s : State) (f : Link → Link) : (s.modLink f).meas = s.meas := rfl
@[simp] theorem State.modLink_calls (s : State) (f : Link → Link) : (s.modLink f).calls = s.calls := rfl
@[simp] theorem State.modLink_ctx (s : State) (f : Link → Link) : (s.modLink f).ctx = s.ctx := rfl
@[simp] theorem State.modLink_voice (s : State) (f : Link → Link) : (s.modLink f).voice = s.voice := rfl
@[simp] theorem State.modLink_text (s : State) (f : Link → Link) : (s.modLink f).text = s.text := rfl
@[simp] theorem State.modLink_store (s : State) (f : Link → Link) : (s.modLink f).store = s.store := rfl
@[simp] theorem State.modLink_power (s : State) (f : Link → Link) : (s.modLink f).power = s.power := rfl
@[simp] theorem State.modLink_link (s : State) (f : Link → Link) : (s.modLink f).link = f s.link := rfl

/-! ### modCal -/

@[simp] theorem State.modCal_pending (s : State) (f : Calendar → Calendar) : (s.modCal f).pending = s.pending := rfl
@[simp] theorem State.modCal_reports (s : State) (f : Calendar → Calendar) : (s.modCal f).reports = s.reports := rfl
@[simp] theorem State.modCal_now (s : State) (f : Calendar → Calendar) : (s.modCal f).now = s.now := rfl
@[simp] theorem State.modCal_draws (s : State) (f : Calendar → Calendar) : (s.modCal f).draws = s.draws := rfl
@[simp] theorem State.modCal_moments (s : State) (f : Calendar → Calendar) : (s.modCal f).moments = s.moments := rfl
@[simp] theorem State.modCal_cal (s : State) (f : Calendar → Calendar) : (s.modCal f).cal = f s.cal := rfl
@[simp] theorem State.modCal_subs (s : State) (f : Calendar → Calendar) : (s.modCal f).subs = s.subs := rfl
@[simp] theorem State.modCal_engQueue (s : State) (f : Calendar → Calendar) : (s.modCal f).engQueue = s.engQueue := rfl
@[simp] theorem State.modCal_engaged (s : State) (f : Calendar → Calendar) : (s.modCal f).engaged = s.engaged := rfl
@[simp] theorem State.modCal_meas (s : State) (f : Calendar → Calendar) : (s.modCal f).meas = s.meas := rfl
@[simp] theorem State.modCal_calls (s : State) (f : Calendar → Calendar) : (s.modCal f).calls = s.calls := rfl
@[simp] theorem State.modCal_ctx (s : State) (f : Calendar → Calendar) : (s.modCal f).ctx = s.ctx := rfl
@[simp] theorem State.modCal_voice (s : State) (f : Calendar → Calendar) : (s.modCal f).voice = s.voice := rfl
@[simp] theorem State.modCal_text (s : State) (f : Calendar → Calendar) : (s.modCal f).text = s.text := rfl
@[simp] theorem State.modCal_store (s : State) (f : Calendar → Calendar) : (s.modCal f).store = s.store := rfl
@[simp] theorem State.modCal_power (s : State) (f : Calendar → Calendar) : (s.modCal f).power = s.power := rfl
@[simp] theorem State.modCal_link (s : State) (f : Calendar → Calendar) : (s.modCal f).link = s.link := rfl

/-! ### modStore -/

@[simp] theorem State.modStore_pending (s : State) (f : Store → Store) : (s.modStore f).pending = s.pending := rfl
@[simp] theorem State.modStore_reports (s : State) (f : Store → Store) : (s.modStore f).reports = s.reports := rfl
@[simp] theorem State.modStore_now (s : State) (f : Store → Store) : (s.modStore f).now = s.now := rfl
@[simp] theorem State.modStore_draws (s : State) (f : Store → Store) : (s.modStore f).draws = s.draws := rfl
@[simp] theorem State.modStore_moments (s : State) (f : Store → Store) : (s.modStore f).moments = s.moments := rfl
@[simp] theorem State.modStore_cal (s : State) (f : Store → Store) : (s.modStore f).cal = s.cal := rfl
@[simp] theorem State.modStore_subs (s : State) (f : Store → Store) : (s.modStore f).subs = s.subs := rfl
@[simp] theorem State.modStore_engQueue (s : State) (f : Store → Store) : (s.modStore f).engQueue = s.engQueue := rfl
@[simp] theorem State.modStore_engaged (s : State) (f : Store → Store) : (s.modStore f).engaged = s.engaged := rfl
@[simp] theorem State.modStore_meas (s : State) (f : Store → Store) : (s.modStore f).meas = s.meas := rfl
@[simp] theorem State.modStore_calls (s : State) (f : Store → Store) : (s.modStore f).calls = s.calls := rfl
@[simp] theorem State.modStore_ctx (s : State) (f : Store → Store) : (s.modStore f).ctx = s.ctx := rfl
@[simp] theorem State.modStore_voice (s : State) (f : Store → Store) : (s.modStore f).voice = s.voice := rfl
@[simp] theorem State.modStore_text (s : State) (f : Store → Store) : (s.modStore f).text = s.text := rfl
@[simp] theorem State.modStore_store (s : State) (f : Store → Store) : (s.modStore f).store = f s.store := rfl
@[simp] theorem State.modStore_power (s : State) (f : Store → Store) : (s.modStore f).power = s.power := rfl
@[simp] theorem State.modStore_link (s : State) (f : Store → Store) : (s.modStore f).link = s.link := rfl

/-! ### report -/

@[simp] theorem State.report_pending (s : State) (r : Report) : (s.report r).pending = s.pending := rfl
@[simp] theorem State.report_reports (s : State) (r : Report) : (s.report r).reports = s.reports ++ [r] := rfl
@[simp] theorem State.report_now (s : State) (r : Report) : (s.report r).now = s.now := rfl
@[simp] theorem State.report_draws (s : State) (r : Report) : (s.report r).draws = s.draws := rfl
@[simp] theorem State.report_moments (s : State) (r : Report) : (s.report r).moments = s.moments := rfl
@[simp] theorem State.report_cal (s : State) (r : Report) : (s.report r).cal = s.cal := rfl
@[simp] theorem State.report_subs (s : State) (r : Report) : (s.report r).subs = s.subs := rfl
@[simp] theorem State.report_engQueue (s : State) (r : Report) : (s.report r).engQueue = s.engQueue := rfl
@[simp] theorem State.report_engaged (s : State) (r : Report) : (s.report r).engaged = s.engaged := rfl
@[simp] theorem State.report_meas (s : State) (r : Report) : (s.report r).meas = s.meas := rfl
@[simp] theorem State.report_calls (s : State) (r : Report) : (s.report r).calls = s.calls := rfl
@[simp] theorem State.report_ctx (s : State) (r : Report) : (s.report r).ctx = s.ctx := rfl
@[simp] theorem State.report_voice (s : State) (r : Report) : (s.report r).voice = s.voice := rfl
@[simp] theorem State.report_text (s : State) (r : Report) : (s.report r).text = s.text := rfl
@[simp] theorem State.report_store (s : State) (r : Report) : (s.report r).store = s.store := rfl
@[simp] theorem State.report_power (s : State) (r : Report) : (s.report r).power = s.power := rfl
@[simp] theorem State.report_link (s : State) (r : Report) : (s.report r).link = s.link := rfl

/-! ### setCall -/

@[simp] theorem State.setCall_pending (s : State) (i : CallId) (r : CallRec) : (s.setCall i r).pending = s.pending := by cases i <;> rfl
@[simp] theorem State.setCall_reports (s : State) (i : CallId) (r : CallRec) : (s.setCall i r).reports = s.reports := by cases i <;> rfl
@[simp] theorem State.setCall_now (s : State) (i : CallId) (r : CallRec) : (s.setCall i r).now = s.now := by cases i <;> rfl
@[simp] theorem State.setCall_draws (s : State) (i : CallId) (r : CallRec) : (s.setCall i r).draws = s.draws := by cases i <;> rfl
@[simp] theorem State.setCall_moments (s : State) (i : CallId) (r : CallRec) : (s.setCall i r).moments = s.moments := by cases i <;> rfl
@[simp] theorem State.setCall_cal (s : State) (i : CallId) (r : CallRec) : (s.setCall i r).cal = s.cal := by cases i <;> rfl
@[simp] theorem State.setCall_subs (s : State) (i : CallId) (r : CallRec) : (s.setCall i r).subs = s.subs := by cases i <;> rfl
@[simp] theorem State.setCall_engQueue (s : State) (i : CallId) (r : CallRec) : (s.setCall i r).engQueue = s.engQueue := by cases i <;> rfl
@[simp] theorem State.setCall_engaged (s : State) (i : CallId) (r : CallRec) : (s.setCall i r).engaged = s.engaged := by cases i <;> rfl
@[simp] theorem State.setCall_meas (s : State) (i : CallId) (r : CallRec) : (s.setCall i r).meas = s.meas := by cases i <;> rfl
@[simp] theorem State.setCall_ctx (s : State) (i : CallId) (r : CallRec) : (s.setCall i r).ctx = s.ctx := by cases i <;> rfl
@[simp] theorem State.setCall_voice (s : State) (i : CallId) (r : CallRec) : (s.setCall i r).voice = s.voice := by cases i <;> rfl
@[simp] theorem State.setCall_text (s : State) (i : CallId) (r : CallRec) : (s.setCall i r).text = s.text := by cases i <;> rfl
@[simp] theorem State.setCall_store (s : State) (i : CallId) (r : CallRec) : (s.setCall i r).store = s.store := by cases i <;> rfl
@[simp] theorem State.setCall_power (s : State) (i : CallId) (r : CallRec) : (s.setCall i r).power = s.power := by cases i <;> rfl
@[simp] theorem State.setCall_link (s : State) (i : CallId) (r : CallRec) : (s.setCall i r).link = s.link := by cases i <;> rfl
@[simp] theorem State.setCall_call (s : State) (i : CallId) (r : CallRec) : (s.setCall i r).call i = r := by cases i <;> rfl
@[simp] theorem State.setCall_call_other (s : State) (i : CallId) (r : CallRec) : (s.setCall i r).call i.other = s.call i.other := by
  cases i <;> rfl

/-! ### Records -/

@[simp] theorem State.modSub_sub (s : State) (x : Sub) (f : SubRec → SubRec) : (s.modSub x f).sub x = f (s.sub x) :=
  Two.get_set_same _ _ _
@[simp] theorem State.modSub_sub_other (s : State) (x : Sub) (f : SubRec → SubRec) :
    (s.modSub x f).sub x.other = s.sub x.other := Two.get_set_other _ _ _
@[simp] theorem State.modMeas_measOf (s : State) (x : Sub) (f : MeasSub → MeasSub) :
    (s.modMeas x f).measOf x = f (s.measOf x) := Two.get_set_same _ _ _
@[simp] theorem State.modText_textOf (s : State) (x : Sub) (f : TextSub → TextSub) :
    (s.modText x f).textOf x = f (s.textOf x) := Two.get_set_same _ _ _

end Machine

end Sys2Proof
end

