-- ==== Sys2Proof/Laws/Calendar.lean ====
section
/-! SUPPORT. The radio calendar: distances between slots near each other, conflict, the place of a window in calendar order, and
what a re-placement can answer (R43 to R49); the frame of a refresh (R28) and the messages that wait again (R78, R105). -/

namespace Sys2Proof.Machine

open Sys2Proof

/-- The distance between two slots less than 1000 ahead of one moment. -/
theorem slotsTo_slotAdd (now : Slot) (a b : Nat) (ha : a < 1000) (hb : b < 1000) :
    slotsTo (slotAdd now a) (slotAdd now b) = if a ≤ b then b - a else 2 ^ 32 + b - a := by
  unfold slotsTo slotAdd
  have : now + BitVec.ofNat 32 b - (now + BitVec.ofNat 32 a) = BitVec.ofNat 32 b - BitVec.ofNat 32 a := by bv_omega
  rw [this, BitVec.toNat_sub]
  simp only [BitVec.toNat_ofNat]
  split <;> omega

/-- Conflict does not depend on which window is named first (R46). -/
theorem conflict_comm (a b : Window) : conflict a b = conflict b a := by
  unfold conflict shareSlot backToBack
  rw [Bool.eq_iff_iff]
  simp only [Bool.or_eq_true, Bool.and_eq_true, decide_eq_true_eq, ne_eq]
  constructor
  · rintro ((h | h) | ⟨hc, h | h⟩)
    · exact .inl (.inr h)
    · exact .inl (.inl h)
    · exact .inr ⟨fun e => hc e.symm, .inr h⟩
    · exact .inr ⟨fun e => hc e.symm, .inl h⟩
  · rintro ((h | h) | ⟨hc, h | h⟩)
    · exact .inl (.inr h)
    · exact .inl (.inl h)
    · exact .inr ⟨fun e => hc e.symm, .inr h⟩
    · exact .inr ⟨fun e => hc e.symm, .inl h⟩

/-- A window put in its place adds itself and nothing else. -/
theorem mem_place (w u : Window) (ws : List Window) : u ∈ place w ws ↔ u = w ∨ u ∈ ws := by
  induction ws with
  | nil => simp [place]
  | cons a l ih =>
    unfold place
    split
    · exact List.mem_cons
    · simp only [List.mem_cons, ih]; tauto

/-- The calendar is one window longer. -/
theorem length_place (w : Window) (ws : List Window) : (place w ws).length = ws.length + 1 := by
  induction ws with
  | nil => rfl
  | cons a l ih => unfold place; split <;> simp [ih]

/-- A window after all others goes to the end. -/
theorem place_last (w : Window) (ws : List Window) (h : ∀ v ∈ ws, before w v = false) : place w ws = ws ++ [w] := by
  induction ws with
  | nil => rfl
  | cons a l ih =>
    unfold place; rw [h a List.mem_cons_self]; simp [ih fun v hv => h v (List.mem_cons_of_mem _ hv)]

/-- A window that conflicts with none keeps a calendar free of conflicts. -/
theorem conflictFree_place (w : Window) (ws : List Window) (hf : conflictFree ws) (h : ∀ v ∈ ws, conflict w v = false) :
    conflictFree (place w ws) := by
  unfold conflictFree at *
  induction ws with
  | nil => simp [place]
  | cons a l ih =>
    rw [List.pairwise_cons] at hf
    unfold place
    split
    · exact List.pairwise_cons.2 ⟨h, List.pairwise_cons.2 hf⟩
    · refine List.pairwise_cons.2 ⟨fun v hv => ?_, ih hf.2 fun v hv => h v (List.mem_cons_of_mem _ hv)⟩
      rcases (mem_place w v l).1 hv with rfl | hv
      · rw [conflict_comm]; exact h a List.mem_cons_self
      · exact hf.1 v hv

/-- A window that conflicts with none, after all others, in a calendar with room: it takes its place and nothing is skipped. -/
theorem settleIn_clear (w : Window) (ws : List Window) (h : ∀ v ∈ ws, conflict w v = false)
    (hb : ∀ v ∈ ws, before w v = false) (hl : ws.length < 32) : settleIn w ws = (ws ++ [w], []) := by
  have hr : (ws.filter fun v => conflict w v) = [] := by rw [List.filter_eq_nil_iff]; intro v hv; simp [h v hv]
  have hk : (ws.filter fun v => !conflict w v) = ws := by rw [List.filter_eq_self]; intro v hv; simp [h v hv]
  unfold settleIn
  simp only [hr, hk, List.all_nil, if_true, replaceEach, enter, calendarRoom, hl, place_last w ws hb]
  simp

/-- R48: what a re-placement answers: the window at another start within its slack, in conflict with none. -/
theorem replaceIn_some {ws : List Window} {w u : Window} (h : replaceIn ws w = some u) :
    ∃ k m, w.slack = some k ∧ m ≤ 10 * k ∧ u = { w with start := slotAdd w.requested m } ∧ ∀ v ∈ ws, conflict u v = false := by
  unfold replaceIn at h
  split at h
  · cases h
  next k hk =>
    rw [Option.map_eq_some_iff] at h
    obtain ⟨m, hm, rfl⟩ := h
    have hin := List.mem_of_find?_eq_some hm
    have hp := List.find?_some hm
    simp only [Bool.and_eq_true, List.all_eq_true] at hp
    rw [List.mem_range] at hin
    exact ⟨k, m, hk, by omega, rfl, fun v hv => by simpa using hp.2 v hv⟩

/-- A withdrawal that names no window changes nothing (R55). -/
theorem State.withdrawAll_none (s : State) (p : Window → Bool) (h : ∀ w ∈ s.cal.windows, p w = false) : s.withdrawAll p = s := by
  unfold State.withdrawAll State.modCal
  have h1 : (s.cal.windows.filter fun w => !(p w && w.isPlanned)) = s.cal.windows := by
    rw [List.filter_eq_self]; intro w hw; simp [h w hw]
  have h2 : (s.cal.windows.map fun w => if p w then { w with withdrawn := true } else w) = s.cal.windows := by
    conv_rhs => rw [← List.map_id s.cal.windows]
    apply List.map_congr_left; intro w hw; simp [h w hw]
  simp only [h1, h2]

/-- With no erase running, the store's erase is as it is (R155). -/
theorem State.syncErase_none {s : State} (h : ∀ r, s.store.running = some r → r.op.isErase = false) : s.syncErase = s := by
  unfold State.syncErase
  split
  next r hr => rw [h r hr]; rfl
  next => rfl

/-- R28: what the frame of a planned refresh is: the frame asked for, or one whose read is still to come. -/
theorem SubRec.refreshFrame_cases (r : SubRec) (c : CampedCell) (f : FrameNo) :
    r.refreshFrame c f = f ∨
      (isOccasion c (r.key.getD 0) (r.refreshFrame c f) && r.pagePast (r.refreshFrame c f)) = false := by
  unfold SubRec.refreshFrame
  cases h : List.find? _ _ with
  | none => exact .inl rfl
  | some g =>
    have hg := List.find?_some (p := fun g => !(isOccasion c (r.key.getD 0) g && r.pagePast g)) h
    exact .inr ((Bool.not_eq_true' _).mp hg)

/-- R78: at most one report waits after messages wait again, when at most one waited and at most one comes. -/
theorem waitAgain_reports (back waiting : List Queued) (hb : back.countP (fun q => q.msg.isReport) ≤ 1)
    (hw : waiting.countP (fun q => q.msg.isReport) ≤ 1) :
    (waitAgain back waiting).countP (fun q => q.msg.isReport) ≤ 1 := by
  unfold waitAgain
  split
  next r hr =>
    have hm : r.msg.isReport = true := List.find?_some (p := fun q : Queued => q.msg.isReport) hr
    split
    · have h1 : ∀ q : Queued, (if q.msg.isReport = true then { q with msg := r.msg } else q).msg.isReport = q.msg.isReport := by
        intro q; split <;> simp_all
      have h2 : (waiting.filter fun q => !q.msg.isReport).countP (fun q => q.msg.isReport) = 0 := by
        rw [List.countP_eq_zero]; intro q hq; simp_all
      rw [List.countP_append, h2, List.countP_map]
      simpa [Function.comp_def, h1] using hb
    next h =>
      have : back.countP (fun q => q.msg.isReport) = 0 := by rw [List.countP_eq_zero]; simpa using h
      rw [List.countP_append]; omega
  next hr =>
    have : waiting.countP (fun q => q.msg.isReport) = 0 := by
      rw [List.countP_eq_zero]; simpa using hr
    rw [List.countP_append]; omega

end Sys2Proof.Machine
end

