-- ==== Sys2Proof/Laws/Still.lean ====
section
/-! SUPPORT. What the blocks leave alone when they act on one another: the queue of commands, the power controller, the slot
counter, what the command link has taken in, the number of reply positions in use, the settings of the voice port, and the
non-volatile memory with the protection in force. One lemma for each function of the blocks. -/

namespace Sys2Proof.Machine

open Sys2Proof

/-- The parts of the state that no block changes while it acts for another. -/
structure Still where
  pending : List Instr
  power : Power
  now : Slot
  receiver : Receiver
  inbox : List Tagged
  sending : Option Sending
  clrdy : Bool
  used : Nat
  settings : VoiceSettings
  flash : Flash
  descriptor : Descriptor
  fault : Bool

/-- These parts of a state. -/
def State.still (s : State) : Still :=
  { pending := s.pending, power := s.power, now := s.now, receiver := s.link.receiver, inbox := s.link.inbox,
    sending := s.link.sending, clrdy := s.link.clrdy, used := s.link.used, settings := s.voice.settings,
    flash := s.store.flash, descriptor := s.store.descriptor, fault := s.store.fault }

/-- What every turn of a fold keeps, the fold keeps. -/
theorem foldl_keeps {σ α γ : Type} (v : σ → γ) (f : σ → α → σ) (l : List α) (p : σ) (h : ∀ p a, v (f p a) = v p) :
    v (l.foldl f p) = v p := by
  induction l generalizing p with
  | nil => rfl
  | cons a l ih => exact (ih _).trans (h p a)

/-! ### Updates -/

theorem State.modSub_still (s : State) (x f) : (s.modSub x f).still = s.still := rfl

theorem State.modCal_still (s : State) (f) : (s.modCal f).still = s.still := rfl

theorem State.modMeas_still (s : State) (x f) : (s.modMeas x f).still = s.still := rfl

theorem State.modText_still (s : State) (x f) : (s.modText x f).still = s.still := rfl

theorem State.modCtx_still (s : State) (f) : (s.modCtx f).still = s.still := rfl

theorem State.report_still (s : State) (r) : (s.report r).still = s.still := rfl

theorem State.post_still (s : State) (a b) : (s.post a b).still = s.still := rfl

theorem State.postSub_still (s : State) (a b) : (s.postSub a b).still = s.still := rfl

theorem State.reportSkips_still (s : State) (ks : List Skip) : (s.reportSkips ks).still = s.still :=
  foldl_keeps State.still _ ks s fun _ _ => rfl

theorem State.setCall_still (s : State) (i : CallId) (r : CallRec) : (s.setCall i r).still = s.still := by cases i
    <;> rfl

theorem State.withdrawOpt_still (s : State) (z0 : Option WinId) : (s.withdrawOpt z0).still = s.still := by cases z0
    <;> rfl

theorem State.answer_still (s : State) (ticket : Nat) (st : Status) (res : Result) : (s.answer ticket st res).still
    = s.still := by
  unfold State.answer
  split
  next r h =>
    have hl := List.length_eraseP_of_mem (p := fun q => decide (q.ticket = ticket)) (List.mem_of_find?_eq_some h)
        (List.find?_some (p := fun q : Reserved => decide (q.ticket = ticket)) h)
    have hpos : 0 < s.link.reserved.length := List.length_pos_of_mem (List.mem_of_find?_eq_some h)
    simp only [State.still, State.fill, State.modLink, Link.used, List.length_append, List.length_cons,
        List.length_nil, hl]
    congr 1; omega
  next => rfl

theorem State.refuse_still (s : State) (ticket : Nat) (st : Status) : (s.refuse ticket st).still = s.still :=
    s.answer_still ..

theorem Voice.start_settings (v : Voice) : v.start.settings = v.settings := by unfold Voice.start; split <;> rfl

theorem Voice.stop_settings (v : Voice) : v.stop.settings = v.settings := by unfold Voice.stop; split <;> rfl

theorem Voice.add_settings (v : Voice) (e) : (v.add e).settings = v.settings := by unfold Voice.add; grind

theorem Voice.enterHold_settings (v : Voice) : v.enterHold.settings = v.settings := rfl

theorem Voice.resume_settings (v : Voice) : v.resume.settings = v.settings := by unfold Voice.resume; split <;> rfl

theorem Voice.discardUp_settings (v : Voice) : v.discardUp.settings = v.settings := by unfold Voice.discardUp; split
    <;> rfl

theorem State.modVoice_settings (s : State) (f : Voice → Voice) (h : (f s.voice).settings = s.voice.settings) :
    (s.modVoice f).still = s.still := by
  simp [State.still, State.modVoice, h]

theorem State.voiceStart_still (s : State) : (s.modVoice Voice.start).still = s.still := s.modVoice_settings _
    (Voice.start_settings _)

theorem State.voiceStop_still (s : State) : (s.modVoice Voice.stop).still = s.still := s.modVoice_settings _
    (Voice.stop_settings _)

theorem State.voiceAdd_still (s : State) (e : VoiceEntry) : (s.modVoice fun v => v.add e).still = s.still :=
  s.modVoice_settings _ (Voice.add_settings _ _)

theorem State.voiceHold_still (s : State) : (s.modVoice Voice.enterHold).still = s.still := rfl

theorem State.voiceResume_still (s : State) : (s.modVoice Voice.resume).still = s.still := s.modVoice_settings _
    (Voice.resume_settings _)

theorem State.voiceDiscard_still (s : State) : (s.modVoice Voice.discardUp).still = s.still := s.modVoice_settings _
    (Voice.discardUp_settings _)

theorem State.voiceUp_still (s : State) (rest : List (List Byte)) : (s.modVoice fun v => { v with up := rest
    }).still = s.still := rfl

theorem State.insert_still (s : State) (i : Insertion) : (s.insert i).2.still = s.still := by
  unfold State.insert; grind [State.modCal_still, State.report_still, State.reportSkips_still]

/-! ### Shared operations -/

theorem State.draw_still (s : State) : (s.draw).2.still = s.still := rfl

theorem State.moment_still (s : State) : (s.moment).2.still = s.still := rfl

theorem State.postCall_still (s : State) (i : CallId) (flags : BitVec 16) : (s.postCall i flags).still = s.still :=
    rfl

theorem State.postText_still (s : State) (x : Sub) (flags : BitVec 16) : (s.postText x flags).still = s.still := rfl

theorem State.postRadio_still (s : State) (why : RadioReason) : (s.postRadio why).still = s.still := rfl

theorem State.linkLoss_still (s : State) (r : LinkReason) : (s.linkLoss r).still = s.still := rfl

theorem State.offer_still (s : State) (m : UpMsg) : (s.offer m).still = s.still := rfl

theorem State.placeHead_still (s : State) (m : UpMsg) : (s.placeHead m).still = s.still := rfl

theorem State.removeMsgs_still (s : State) (p : UpMsg → Bool) : (s.removeMsgs p).still = s.still := rfl

/-! ### The radio calendar -/

theorem State.withdraw_still (s : State) (id : WinId) : (s.withdraw id).still = s.still := rfl

theorem State.withdrawAll_still (s : State) (p : Window → Bool) : (s.withdrawAll p).still = s.still := rfl

theorem State.raiseStarved_still (s : State) (x : Sub) : (s.raiseStarved x).still = s.still := by
  unfold State.raiseStarved; grind [State.modCal_still, State.still]

theorem State.syncErase_still (s : State) : (s.syncErase).still = s.still := by
  unfold State.syncErase; grind [State.modStore, State.storeNow, State.still]

theorem State.orderWindow_still (s : State) (w : Window) (block : Option TxBlock) : (s.orderWindow w block).still =
    s.still := rfl

theorem State.radioDone_still (s : State) : (s.radioDone).still = s.still := by
  unfold State.radioDone; grind [State.modCal_still, State.postRadio_still, State.still]

theorem State.radioFailed_still (s : State) : (s.radioFailed).still = s.still := by
  unfold State.radioFailed; grind [State.modCal_still, State.postRadio_still, State.still]

theorem State.removeWindow_still (s : State) (id : WinId) : (s.removeWindow id).still = s.still := by
  unfold State.removeWindow; grind [State.modCal_still, State.syncErase_still, State.still]

/-! ### The message store -/

theorem State.postStore_still (s : State) (flags : BitVec 16) : (s.postStore flags).still = s.still := rfl

theorem State.reserve_still (s : State) : (s.reserve).2.still = s.still := by
  unfold State.reserve; split <;> rfl

theorem State.handBack_still (s : State) (p : SlotId) : (s.handBack p).still = s.still := rfl

theorem State.queueOp_still (s : State) (o : StoreOp) : (s.queueOp o).still = s.still := rfl

theorem State.queueFirst_still (s : State) (o : StoreOp) : (s.queueFirst o).still = s.still := rfl

theorem State.examineReclaim_still (s : State) : (s.examineReclaim).still = s.still := by
  unfold State.examineReclaim
  split
  · split <;> rfl
  · rfl

theorem State.examineSpace_still (s : State) : (s.examineSpace).still = s.still := by
  unfold State.examineSpace; grind [State.postStore_still, State.modStore, State.storeNow, State.still]

theorem State.endReclaim_still (s : State) : (s.endReclaim).still = s.still := rfl

theorem State.requeue_still (s : State) (f : List StoreOp → List StoreOp) : (s.requeue f).still = s.still := by
  unfold State.requeue
  dsimp only
  split <;> rfl

theorem State.planReclaim_still (s : State) : (s.planReclaim).still = s.still := by
  unfold State.planReclaim
  repeat' split
  all_goals rfl

theorem State.beginOp_still (s : State) (o : StoreOp) : (s.beginOp o).still = s.still := by
  unfold State.beginOp; grind [State.modStore, State.storeNow, State.still]

theorem State.startNext_still (s : State) : (s.startNext).still = s.still := by
  unfold State.startNext
  split
  · exact (State.beginOp_still _ _).trans rfl
  · rfl

/-! ### The neighbour table -/

theorem State.mapEntries_still (s : State) (f : Entry → Entry) : (s.mapEntries f).still = s.still := rfl

theorem State.modEntry_still (s : State) (i : Nat) (f : Entry → Entry) : (s.modEntry i f).still = s.still := rfl

theorem State.recompute_still (s : State) : (s.recompute).still = s.still := rfl

theorem State.dropTries_still (s : State) (x : Sub) (i : Nat) : (s.dropTries x i).still = s.still := by
  unfold State.dropTries; grind [State.modMeas_still, State.report_still, State.still]

theorem State.endResel_still (s : State) (x : Sub) : (s.endResel x).still = s.still := by
  unfold State.endResel; grind [State.modSub_still, State.modMeas_still, State.withdraw_still, State.still]

theorem State.endReselAt_still (s : State) (x : Sub) (i : Nat) : (s.endReselAt x i).still = s.still := by
  unfold State.endReselAt; grind [State.endResel_still]

theorem State.deleteEntry_still (s : State) (e : Entry) : (s.deleteEntry e).still = s.still := by
  unfold State.deleteEntry; grind [State.withdrawOpt_still, State.dropTries_still, State.endReselAt_still,
      State.still]

theorem State.deleteIdle_still (s : State) (keep : Option CellId) : (s.deleteIdle keep).still = s.still := by
  exact foldl_keeps State.still _ _ _ State.deleteEntry_still

theorem State.leaveOwner_still (s : State) (x : Sub) (i : Nat) : (s.leaveOwner x i).still = s.still := by
  unfold State.leaveOwner; grind [State.modEntry_still, State.dropTries_still, State.endReselAt_still, State.still]

theorem State.makeEntry_still (s : State) (i : Nat) (c : CellId) (owner serving : Two Bool) (offset : Two Int) :
    (s.makeEntry i c owner serving offset).still = s.still := rfl

theorem State.zeroTriggers_still (s : State) (x : Sub) : (s.zeroTriggers x).still = s.still := rfl

theorem State.paramsChanged_still (s : State) (x : Sub) : (s.paramsChanged x).still = s.still := by
  unfold State.paramsChanged; grind [State.mapEntries_still, State.recompute_still, State.still]

theorem State.noteLost_still (s : State) (x : Sub) (lost : Nat) : (s.noteLost x lost).still = s.still := by
  unfold State.noteLost; grind [State.modSub_still, State.postSub_still, State.still]

theorem State.unbind_still (s : State) (w : WinId) : (s.unbind w).still = s.still := by
  unfold State.unbind; grind [State.withdraw_still, State.mapEntries_still, State.still]

theorem State.dropReports_still (s : State) : (s.dropReports).still = s.still := rfl

theorem State.setMode_still (s : State) (x : Sub) (mode : Mode) : (s.setMode x mode).still = s.still := by
  unfold State.setMode
  have h : ∀ (l : List WinId) (s : State), (l.foldl State.unbind s).still = s.still := fun _ _ =>
    foldl_keeps State.still _ _ _ State.unbind_still
  grind [State.modMeas_still, State.dropReports_still]

theorem State.campsNoMore_still (s : State) (x : Sub) : (s.campsNoMore x).still = s.still := by
  unfold State.campsNoMore; grind [State.mapEntries_still, State.recompute_still, State.endResel_still,
      State.deleteIdle_still, State.setMode_still, State.still]

/-! ### Call records -/

theorem State.modCall_still (s : State) (i : CallId) (f : CallRec → CallRec) : (s.modCall i f).still = s.still := by
  unfold State.modCall; grind [State.setCall_still]

theorem State.enterCall_still (s : State) (i : CallId) (st : CallState) (flags : BitVec 16) : (s.enterCall i st
    flags).still = s.still := by
  unfold State.enterCall; grind [State.postCall_still, State.modCall_still, State.voiceStop_still, State.still]

theorem State.renewCall_still (s : State) (i : CallId) : (s.renewCall i).still = s.still := by
  unfold State.renewCall; grind [State.postCall_still]

theorem State.takeRecord_still (s : State) (i : CallId) (x : Sub) (d : Direction) (number : Option Digits) (st :
    CallState) : (s.takeRecord i x d number st).still = s.still := by
  unfold State.takeRecord; grind [State.setCall_still, State.enterCall_still]

theorem State.freeCall_still (s : State) (i : CallId) (c : CallCause) : (s.freeCall i c).still = s.still := by
  unfold State.freeCall; grind [State.modCall_still, State.enterCall_still, State.still]

theorem State.clearCall_still (s : State) (i : CallId) (c : CallCause) : (s.clearCall i c).still = s.still := by
  unfold State.clearCall; grind [State.modCall_still, State.enterCall_still, State.still]

theorem State.freeCalls_still (s : State) (x : Sub) (p : CallRec → Bool) (c : CallCause) : (s.freeCalls x p c).still
    = s.still := by
  exact foldl_keeps State.still _ _ _ fun s i => by grind [State.freeCall_still]

/-! ### The subscription controller -/

theorem State.insertBeacon_still (s : State) (x : Sub) (channel : Nat) (start : Slot) (len : Nat) : (s.insertBeacon
    x channel start len).2.still = s.still := by
  unfold State.insertBeacon; grind [State.insert_still]

theorem State.beginSearch_still (s : State) (x : Sub) : (s.beginSearch x).still = s.still := by
  unfold State.beginSearch
  exact foldl_keeps (fun q : State × List (WinId × Nat) => q.1.still) _ _ (s, []) fun q n => State.insert_still q.1 _

theorem State.stopSearch_still (s : State) (x : Sub) : (s.stopSearch x).still = s.still := rfl

theorem State.enterNoService_still (s : State) (x : Sub) (why : NoServiceReason) (flags : BitVec 16) :
    (s.enterNoService x why flags).still = s.still := rfl

theorem State.exhausted_still (s : State) (x : Sub) : (s.exhausted x).still = s.still := rfl

theorem State.tryChannel_still (s : State) (x : Sub) (scan : List (Nat × Nat)) (position : Nat) : (s.tryChannel x
    scan position).still = s.still := by
  unfold State.tryChannel; grind [State.modSub_still, State.insertBeacon_still, State.exhausted_still, State.still]

theorem State.scanEnd_still (s : State) (x : Sub) (scan : List (Nat × Nat)) : (s.scanEnd x scan).still = s.still :=
    by
  unfold State.scanEnd; grind [State.tryChannel_still]

theorem State.insertPage_still (s : State) (x : Sub) (c : CampedCell) (f : FrameNo) (start : Slot) : (s.insertPage x
    c f start).still = s.still := by
  unfold State.insertPage; grind [State.modSub_still, State.insert_still, State.still]

theorem State.planPage_still (s : State) (x : Sub) : (s.planPage x).still = s.still := by
  unfold State.planPage; grind [State.insertPage_still]

theorem State.planPageAfter_still (s : State) (x : Sub) (f : FrameNo) : (s.planPageAfter x f).still = s.still := by
  unfold State.planPageAfter; grind [State.insertPage_still, State.planPage_still]

theorem State.planRefresh_still (s : State) (x : Sub) (f : FrameNo) : (s.planRefresh x f).still = s.still := by
  unfold State.planRefresh; grind [State.modSub_still, State.insertBeacon_still, State.still]

theorem State.replanRefresh_still (s : State) (x : Sub) : (s.replanRefresh x).still = s.still := by
  unfold State.replanRefresh; grind [State.planRefresh_still]

theorem State.dropPaging_still (s : State) (x : Sub) : (s.dropPaging x).still = s.still := rfl

theorem State.modPurposes_still (s : State) (x : Sub) (f : List Purpose → List Purpose) : (s.modPurposes x f).still
    = s.still := by
  unfold State.modPurposes; grind [State.modCtx_still, State.still]

theorem State.settleConn_still (s : State) (x : Sub) : (s.settleConn x).still = s.still := by
  unfold State.settleConn; grind [State.offer_still]

theorem State.offerEnrol_still (s : State) (x : Sub) : (s.offerEnrol x).still = s.still := rfl

theorem State.leaveConn_still (s : State) (x : Sub) (p : Purpose) : (s.leaveConn x p).still = s.still := by
  unfold State.leaveConn; grind [State.modPurposes_still, State.settleConn_still]

theorem State.disengage_still (s : State) (x : Sub) : (s.disengage x).still = s.still := rfl

theorem State.backToCamped_still (s : State) (x : Sub) : (s.backToCamped x).still = s.still := by
  unfold State.backToCamped; grind [State.disengage_still, State.modSub_still, State.postSub_still, State.planPage_still,
      State.replanRefresh_still, State.still]

theorem State.withdrawAttempt_still (s : State) (x : Sub) : (s.withdrawAttempt x).still = s.still := rfl

theorem State.setStage_still (s : State) (x : Sub) (st : Stage) : (s.setStage x st).still = s.still := rfl

theorem State.insertBurst_still (s : State) (x : Sub) (a : Attempt) (f : FrameNo) (start : Slot) : (s.insertBurst x
    a f start).still = s.still := by
  unfold State.insertBurst; grind [State.insert_still, State.setStage_still, State.still]

theorem State.clearTextWaiting_still (s : State) (x : Sub) : (s.clearTextWaiting x).still = s.still := by
  unfold State.clearTextWaiting; grind [State.modSub_still, State.postSub_still, State.still]

theorem State.adoptCandidate_still (s : State) (x : Sub) : (s.adoptCandidate x).still = s.still := by
  unfold State.adoptCandidate; grind [State.modSub_still, State.stopSearch_still, State.still]

theorem State.dialGranted_still (s : State) (x : Sub) (ps : List Purpose) : (s.dialGranted x ps).still = s.still :=
    by
  unfold State.dialGranted; grind [State.enterCall_still]

theorem State.grant_still (s : State) (q : EngRequest) : (s.grant q).still = s.still := by
  unfold State.grant; grind [State.modSub_still, State.draw_still, State.postSub_still, State.endResel_still,
      State.setMode_still, State.dropPaging_still, State.setStage_still, State.insertBurst_still,
      State.clearTextWaiting_still, State.adoptCandidate_still, State.dialGranted_still, State.still]

theorem State.grantIfFree_still (s : State) : (s.grantIfFree).still = s.still := by
  unfold State.grantIfFree; grind [State.grant_still, State.still]

theorem State.joinQueue_still (s : State) (x : Sub) (ps : List Purpose) (page : Bool) : (s.joinQueue x ps
    page).still = s.still := by
  unfold State.joinQueue; grind [State.moment_still, State.still]

theorem State.ask_still (s : State) (x : Sub) (ps : List Purpose) (page : Bool) : (s.ask x ps page).2.still =
    s.still := by
  unfold State.ask; grind [State.removeMsgs_still, State.modPurposes_still, State.setStage_still,
      State.grantIfFree_still, State.joinQueue_still, State.still]

theorem State.dropRequest_still (s : State) (x : Sub) : (s.dropRequest x).still = s.still := rfl

theorem State.leaveQueue_still (s : State) (x : Sub) (p : Purpose) : (s.leaveQueue x p).still = s.still := rfl

theorem State.purposeLeaves_still (s : State) (x : Sub) (p : Purpose) : (s.purposeLeaves x p).still = s.still := by
  unfold State.purposeLeaves; grind [State.leaveConn_still, State.backToCamped_still, State.withdrawAttempt_still,
      State.setStage_still, State.grantIfFree_still, State.leaveQueue_still, State.still]

theorem State.callGone_still (s : State) (x : Sub) : (s.callGone x).still = s.still := by
  unfold State.callGone; grind [State.removeMsgs_still, State.modPurposes_still, State.settleConn_still,
      State.offerEnrol_still, State.purposeLeaves_still]

theorem State.freeAndLeave_still (s : State) (i : CallId) (c : CallCause) : (s.freeAndLeave i c).still = s.still :=
    by
  unfold State.freeAndLeave; grind [State.freeCall_still, State.callGone_still]

theorem State.lostService_still (s : State) (x : Sub) : (s.lostService x).still = s.still := by
  unfold State.lostService; grind [State.freeCalls_still, State.dropRequest_still]

theorem State.toSearching_still (s : State) (x : Sub) : (s.toSearching x).still = s.still := by
  unfold State.toSearching; grind [State.modSub_still, State.postSub_still, State.campsNoMore_still,
      State.beginSearch_still, State.dropPaging_still, State.still]

theorem State.campLoss_still (s : State) (x : Sub) : (s.campLoss x).still = s.still := by
  unfold State.campLoss; grind [State.campsNoMore_still, State.freeCalls_still, State.dropPaging_still,
      State.lostService_still, State.toSearching_still]

theorem State.raiseReady_still (s : State) (x : Sub) : (s.raiseReady x).still = s.still := by
  unfold State.raiseReady; grind [State.ask_still]

theorem State.raiseCall_still (s : State) (x : Sub) : (s.raiseCall x).still = s.still := by
  unfold State.raiseCall; grind [State.ask_still, State.enterCall_still]

theorem State.raiseWaiting_still (s : State) (x : Sub) : (s.raiseWaiting x).still = s.still := by
  unfold State.raiseWaiting; grind [State.raiseReady_still, State.raiseCall_still]

/-! ### Evaluation, beacon lists and camping -/

theorem State.idleTrigger_still (s : State) (x : Sub) : (s.idleTrigger x).still = s.still := by
  unfold State.idleTrigger; grind [State.modSub_still, State.modMeas_still, State.insert_still, State.still]

theorem State.offerReport_still (s : State) (m : UpMsg) : (s.offerReport m).still = s.still := by
  unfold State.offerReport; grind [State.modCtx_still, State.offer_still, State.still]

theorem State.reportRule_still (s : State) (x : Sub) (fresh : Bool) : (s.reportRule x fresh).still = s.still := by
  unfold State.reportRule; grind [State.modMeas_still, State.offerReport_still, State.still]

theorem State.examineMeas_still (s : State) (x : Sub) : (s.examineMeas x).still = s.still := by
  unfold State.examineMeas; grind [State.post_still]

theorem State.floorStrike_still (s : State) (x : Sub) : (s.floorStrike x).still = s.still := by
  unfold State.floorStrike; grind [State.modSub_still, State.campLoss_still, State.still]

theorem State.evaluate_still (s : State) (x : Sub) (r : Round) : (s.evaluate x r).still = s.still := by
  unfold State.evaluate; grind [State.mapEntries_still, State.idleTrigger_still, State.reportRule_still,
      State.examineMeas_still, State.floorStrike_still]

theorem State.evaluateOver_still (s : State) (x : Sub) (z : Nat) : (s.evaluateOver x z).still = s.still := by
  induction z generalizing s with
  | zero => rfl
  | succ n ih => unfold State.evaluateOver; grind [State.modMeas_still, State.evaluate_still]

theorem State.endRounds_still (s : State) (x : Sub) : (s.endRounds x).still = s.still := State.evaluateOver_still ..

theorem State.evict_still (s : State) (v : Entry) : (s.evict v).still = s.still := by
  unfold State.evict; grind [State.deleteEntry_still, State.endRounds_still]

theorem State.addEntry_still (s : State) (victim : Option Entry) (c : CellId) (owner serving : Two Bool) (offset :
    Two Int) : ∀ t, s.addEntry victim c owner serving offset = some t → t.still = s.still := by
  unfold State.addEntry; grind [State.evict_still, State.makeEntry_still]

theorem State.joinServing_still (s : State) (x : Sub) (c : CellId) : (s.joinServing x c).still = s.still := by
  unfold State.joinServing
  split
  · rfl
  · cases h : s.addEntry (s.servingVictim x) c (.both false) ((Two.both false).set x true) (.both 0) with
    | none => rfl
    | some t => exact State.addEntry_still _ _ _ _ _ _ t h

theorem State.joinOwner_still (s : State) (x : Sub) (n : Neighbour) : (s.joinOwner x n).still = s.still := by
  unfold State.joinOwner; grind [State.modEntry_still, State.still]

theorem State.addListed_still (s : State) (x : Sub) (n : Neighbour) (lost : Nat) : (s.addListed x n lost).1.still =
    s.still := by
  unfold State.addListed; grind [State.addEntry_still]

theorem State.leaveUnlisted_still (s : State) (x : Sub) (serving : CellId) (list : List Neighbour) :
    (s.leaveUnlisted x serving list).still = s.still := by
  unfold State.leaveUnlisted
  have h2 : ∀ (l : List Entry) (s : State), (l.foldl (fun s e => s.leaveOwner x e.index) s).still = s.still := fun _ _ =>
    foldl_keeps State.still _ _ _ fun s _ => State.leaveOwner_still s ..
  grind [State.mapEntries_still, State.deleteIdle_still, State.endRounds_still]

theorem State.joinListed_still (s : State) (x : Sub) (previous : Option CellId) (serving : CellId) (list : List Neighbour) :
    (s.joinListed x previous serving list).still = s.still := by
  unfold State.joinListed
  have h5 : ∀ (s : State), (list.foldl (fun s n => s.joinOwner x n) s).still = s.still := fun _ =>
    foldl_keeps State.still _ _ _ fun s _ => State.joinOwner_still s ..
  have h6 : ∀ (p : State × Nat), (list.foldl (fun (p : State × Nat) n => p.1.addListed x n p.2) p).1.still = p.1.still :=
    fun p => foldl_keeps (fun q : State × Nat => q.1.still) _ _ p fun q n => State.addListed_still q.1 x n q.2
  grind [State.joinServing_still, State.zeroTriggers_still, State.paramsChanged_still, State.noteLost_still]

theorem State.applyList_still (s : State) (x : Sub) (serving : CellId) (list : List Neighbour) : (s.applyList x
    serving list).still = s.still := by
  unfold State.applyList; grind [State.leaveUnlisted_still, State.joinListed_still]

theorem State.moveServing_still (s : State) (x : Sub) (c : CellId) : (s.moveServing x c).still = s.still := by
  unfold State.moveServing; grind [State.mapEntries_still, State.recompute_still, State.deleteIdle_still,
      State.joinServing_still, State.zeroTriggers_still, State.still]

theorem State.camp_still (s : State) (x : Sub) (c : CampedCell) (neighbours : List Neighbour) : (s.camp x c
    neighbours).still = s.still := by
  unfold State.camp; grind [State.modSub_still, State.modMeas_still, State.postSub_still, State.applyList_still,
      State.setMode_still, State.planPage_still, State.planRefresh_still, State.dropPaging_still, State.ask_still,
      State.raiseWaiting_still, State.still]

/-! ### The measurement unit -/

theorem State.endTries_still (s : State) (x : Sub) (i : Nat) (serves : Bool) : (s.endTries x i serves).still = s.still := by
  unfold State.endTries; grind [State.modMeas_still, State.report_still]

theorem State.sampleEntered_still (s : State) (i sample : Nat) (dedicated : Option Sub) :
    (s.sampleEntered i sample dedicated).still = s.still := by
  unfold State.sampleEntered
  have h : ∀ (l : List WinId) (s : State), (l.foldl State.unbind s).still = s.still := fun _ _ =>
    foldl_keeps State.still _ _ _ State.unbind_still
  grind [State.endTries_still, State.modEntry_still]

theorem State.measWindowOver_still (s : State) (w : WinId) (e : Ended) : (s.measWindowOver w e).still = s.still := by
  unfold State.measWindowOver
  have h : ∀ (l : List Entry) (n : Nat) (s : State), (l.foldl (fun s f => s.sampleEntered f.index n none) s).still = s.still :=
    fun _ n _ => foldl_keeps State.still _ _ _ fun s f => State.sampleEntered_still s f.index n none
  refine (State.modMeas_still _ _ _).trans ((State.modMeas_still _ _ _).trans ?_)
  split
  · exact (h _ _ _).trans (State.mapEntries_still _ _)
  · rfl

theorem State.measWindowEnded_still (s : State) (w : Window) (e : Ended) : (s.measWindowEnded w e).still = s.still :=
  (State.report_still _ _).trans ((State.report_still _ _).trans (State.measWindowOver_still ..))

theorem State.endIfSkipped_still (s : State) (x : Sub) (w : WinId) : (s.endIfSkipped x w).still = s.still := by
  unfold State.endIfSkipped
  split
  · exact (State.report_still _ _).trans ((State.endRounds_still _ _).trans ((State.measWindowOver_still ..).trans rfl))
  · rfl

theorem State.passTry_still (s : State) (x : Sub) (i : Nat) (w : Option WinId) : (s.passTry x i w).still = s.still
    := rfl

theorem State.reachTry_still (s : State) (x : Sub) (t : SampleTry) (start : Slot) (slack : Nat) : (s.reachTry x t
    start slack).2.still = s.still := by
  unfold State.reachTry; grind [State.insert_still, State.modEntry_still, State.passTry_still, State.still]

theorem State.planBatch_still (s : State) (x : Sub) (page : Slot) (z : List SampleTry) (y : Nat) : (s.planBatch x
    page z y).still = s.still := by
  induction z generalizing s y with
  | nil => rfl
  | cons t rest ih => unfold State.planBatch; grind [State.reachTry_still]

theorem State.holdDedicated_still (s : State) (x : Sub) : (s.holdDedicated x).still = s.still := State.modMeas_still _ _ _

theorem State.planDedicated_still (s : State) (x : Sub) (z : Nat) : (s.planDedicated x z).still = s.still := by
  induction z generalizing s with
  | zero => rfl
  | succ n ih => unfold State.planDedicated; grind [State.reachTry_still, State.modMeas_still,
      State.holdDedicated_still, State.endIfSkipped_still]

theorem State.measDedicated_still (s : State) (x : Sub) : (s.measDedicated x).still = s.still := by
  unfold State.measDedicated; grind [State.modMeas_still, State.setMode_still, State.planDedicated_still,
      State.still]

theorem State.checkRounds_still (s : State) (x : Sub) : (s.checkRounds x).still = s.still := by
  unfold State.checkRounds; grind [State.planDedicated_still, State.endRounds_still]

theorem State.measPageEnded_still (s : State) (x : Sub) (start : Slot) (level : Option Nat) : (s.measPageEnded x
    start level).still = s.still := by
  unfold State.measPageEnded; grind [State.modMeas_still, State.setMode_still, State.sampleEntered_still,
      State.planBatch_still, State.checkRounds_still, State.still]

theorem State.measDedEnded_still (s : State) (x : Sub) (level : Option Nat) : (s.measDedEnded x level).still =
    s.still := by
  unfold State.measDedEnded; grind [State.modMeas_still, State.sampleEntered_still, State.planDedicated_still,
      State.evaluate_still, State.still]

theorem State.reselFailed_still (s : State) (x : Sub) : (s.reselFailed x).still = s.still := by
  unfold State.reselFailed; grind [State.modSub_still, State.modMeas_still, State.modEntry_still, State.still]

theorem State.insertResel_still (s : State) (x : Sub) (channel : Nat) (start : Slot) (len : Nat) : (s.insertResel x
    channel start len).2.still = s.still := by
  unfold State.insertResel; grind [State.insert_still]

theorem State.reselEnded_still (s : State) (x : Sub) (w : Window) (e : Ended) : (s.reselEnded x w e).still = s.still
    := by
  unfold State.reselEnded; grind [State.modMeas_still, State.camp_still, State.reselFailed_still,
      State.insertResel_still, State.still]

/-! ### The text transfer unit -/

theorem State.modOut_still (s : State) (p : OutEntry → Bool) (f : OutEntry → OutEntry) : (s.modOut p f).still =
    s.still := rfl

theorem State.flushOutcomes_still (s : State) (x : Sub) : (s.flushOutcomes x).still = s.still := by
  unfold State.flushOutcomes; grind [State.modText_still, State.postText_still, State.still]

theorem State.endEntry_still (s : State) (x : Sub) (ref : Byte) (o : TextOutcome) : (s.endEntry x ref o).still =
    s.still := by
  unfold State.endEntry; grind [State.moment_still, State.modOut_still, State.flushOutcomes_still, State.still]

theorem State.offerPart_still (s : State) (e : OutEntry) : (s.offerPart e).still = s.still := by
  unfold State.offerPart; grind [State.offer_still]

theorem State.startSending_still (s : State) (x : Sub) : (s.startSending x).still = s.still := by
  unfold State.startSending; grind [State.modOut_still, State.modCtx_still, State.offerPart_still, State.still]

theorem State.textMayLeave_still (s : State) (x : Sub) : (s.textMayLeave x).still = s.still := by
  unfold State.textMayLeave; grind [State.leaveConn_still]

theorem State.raiseText_still (s : State) (x : Sub) : (s.raiseText x).still = s.still := by
  unfold State.raiseText; grind [State.ask_still, State.startSending_still]

theorem State.afterSending_still (s : State) (x : Sub) : (s.afterSending x).still = s.still := by
  unfold State.afterSending; grind [State.startSending_still, State.textMayLeave_still]

theorem State.textAccessFailed_still (s : State) (x : Sub) : (s.textAccessFailed x).still = s.still := by
  exact foldl_keeps State.still _ _ _ fun s e => by grind [State.modOut_still, State.endEntry_still]

theorem State.textConnEnded_still (s : State) (x : Sub) : (s.textConnEnded x).still = s.still := by
  unfold State.textConnEnded; grind [State.modText_still, State.modOut_still, State.endEntry_still, State.still]

theorem State.holdIncoming_still (s : State) (x : Sub) : (s.holdIncoming x).still = s.still := rfl

theorem State.beginIncoming_still (s : State) (x : Sub) : (s.beginIncoming x).still = s.still := by
  unfold State.beginIncoming; grind [State.holdIncoming_still, State.removeMsgs_still, State.modPurposes_still,
      State.startSending_still]

theorem State.modTable_still (s : State) (p : Reassembly → Bool) (f : Reassembly → Reassembly) : (s.modTable p
    f).still = s.still := rfl

theorem State.askWrite_still (s : State) (e : Reassembly) : (s.askWrite e).still = s.still := by
  unfold State.askWrite; grind [State.queueOp_still]

theorem State.closeEntry_still (s : State) (e : Reassembly) (how : Closing) : (s.closeEntry e how).still = s.still
    := by
  unfold State.closeEntry; grind [State.modTable_still, State.askWrite_still, State.still]

theorem State.setMemoryFull_still (s : State) (x : Sub) : (s.setMemoryFull x).still = s.still := by
  unfold State.setMemoryFull; grind [State.modSub_still, State.modText_still, State.report_still,
      State.postText_still, State.still]

theorem State.clearMemoryFull_still (s : State) (x : Sub) : (s.clearMemoryFull x).still = s.still := rfl

theorem State.firstPart_still (s : State) (x : Sub) (ref index count : Nat) (sender : Digits) (body : List Byte) :
    (s.firstPart x ref index count sender body).still = s.still := by
  unfold State.firstPart; grind [State.offer_still, State.reserve_still, State.handBack_still,
      State.closeEntry_still, State.setMemoryFull_still, State.still]

theorem State.matchedPart_still (s : State) (e : Reassembly) (ref index count : Nat) (body : List Byte) :
    (s.matchedPart e ref index count body).still = s.still := by
  unfold State.matchedPart; grind [State.offer_still, State.modTable_still, State.closeEntry_still, State.still]

theorem State.textPartReceived_still (s : State) (x : Sub) (ref index count : Nat) (sender : Digits) (body : List
    Byte) : (s.textPartReceived x ref index count sender body).still = s.still := by
  unfold State.textPartReceived; grind [State.holdIncoming_still, State.offer_still, State.clearTextWaiting_still, State.beginIncoming_still,
      State.firstPart_still, State.matchedPart_still]

theorem State.writeDone_still (s : State) (p : SlotId) (number : Nat) : (s.writeDone p number).still = s.still := by
  unfold State.writeDone; grind [State.modText_still, State.postText_still, State.still]

theorem State.writeFailed_still (s : State) (p : SlotId) (fresh : Option SlotId) : (s.writeFailed p fresh).still =
    s.still := by
  unfold State.writeFailed; grind [State.postText_still, State.modTable_still, State.askWrite_still, State.still]

theorem State.offerStoreReady_still (s : State) (x : Sub) : (s.offerStoreReady x).still = s.still := by
  unfold State.offerStoreReady; grind [State.offer_still]

theorem State.raiseStoreReady_still (s : State) (x : Sub) : (s.raiseStoreReady x).still = s.still := by
  unfold State.raiseStoreReady; grind [State.ask_still, State.offerStoreReady_still]

theorem State.giveSlot_still (s : State) (e : Reassembly) : (s.giveSlot e).still = s.still := by
  unfold State.giveSlot; grind [State.reserve_still, State.modTable_still, State.askWrite_still, State.still]

theorem State.usableRose_still (s : State) : (s.usableRose).still = s.still := by
  unfold State.usableRose
  have h : ∀ (l : List Reassembly) (s : State), (l.foldl State.giveSlot s).still = s.still := fun _ _ =>
    foldl_keeps State.still _ _ _ State.giveSlot_still
  grind [State.raiseStoreReady_still]

theorem State.textDetached_still (s : State) (x : Sub) : (s.textDetached x).still = s.still := by
  unfold State.textDetached
  have h1 : ∀ (l : List OutEntry) (s : State),
      (l.foldl (fun s e => s.endEntry x e.reference (.failed .detached)) s).still = s.still := fun _ _ =>
    foldl_keeps State.still _ _ _ fun s _ => State.endEntry_still s ..
  have h2 : ∀ (l : List Reassembly) (s : State), (l.foldl (fun s e => s.closeEntry e .incomplete) s).still = s.still :=
    fun _ _ => foldl_keeps State.still _ _ _ fun s _ => State.closeEntry_still s ..
  grind [State.modCtx_still, State.still]

/-! ### The connection -/

theorem State.regDropped_still (s : State) (x : Sub) : (s.regDropped x).still = s.still := by
  unfold State.regDropped; grind [State.modSub_still, State.postSub_still, State.still]

theorem State.dropConnection_still (s : State) (x : Sub) : (s.dropConnection x).still = s.still := by
  unfold State.dropConnection; grind [State.modText_still, State.modCtx_still, State.withdrawAll_still,
      State.setMode_still, State.textConnEnded_still, State.regDropped_still, State.still]

theorem State.endCalls_still (s : State) (x : Sub) (p : CallRec → Bool) (c : CallCause) : (s.endCalls x p c).still =
    s.still := by
  exact foldl_keeps State.still _ _ _ fun s i => by grind [State.freeCall_still]

theorem State.becomeDetached_still (s : State) (x : Sub) : (s.becomeDetached x).still = s.still := by
  unfold State.becomeDetached; grind [State.modSub_still, State.postSub_still, State.refuse_still,
      State.withdrawAll_still, State.campsNoMore_still, State.dropRequest_still, State.textDetached_still,
      State.still]

theorem State.engagedToSearch_still (s : State) (x : Sub) : (s.engagedToSearch x).still = s.still := by
  unfold State.engagedToSearch; grind [State.disengage_still, State.grantIfFree_still, State.lostService_still, State.toSearching_still,
      State.still]

theorem State.engagedToNoService_still (s : State) (x : Sub) (why : NoServiceReason) : (s.engagedToNoService x
    why).still = s.still := by
  unfold State.engagedToNoService; grind [State.disengage_still, State.modSub_still, State.campsNoMore_still, State.enterNoService_still,
      State.grantIfFree_still, State.lostService_still, State.still]

theorem State.planConfirm_still (s : State) (x : Sub) (f : FrameNo) (start : Slot) : (s.planConfirm x f start).still
    = s.still := by
  unfold State.planConfirm; grind [State.insertBeacon_still, State.setStage_still]

theorem State.confirmCamp_still (s : State) (x : Sub) (c : Context) : (s.confirmCamp x c).still = s.still := by
  unfold State.confirmCamp; grind [State.raiseReady_still, State.modSub_still, State.engagedToSearch_still, State.planConfirm_still,
      State.still]

theorem State.releaseConnection_still (s : State) (x : Sub) (byNetwork : Bool) : (s.releaseConnection x
    byNetwork).still = s.still := by
  unfold State.releaseConnection; grind [State.disengage_still, State.grantIfFree_still, State.clearMemoryFull_still,
      State.dropConnection_still, State.endCalls_still, State.becomeDetached_still, State.engagedToNoService_still,
      State.confirmCamp_still]

theorem State.loseConnection_still (s : State) (x : Sub) (c : CallCause) : (s.loseConnection x c).still = s.still :=
    by
  unfold State.loseConnection; grind [State.disengage_still, State.grantIfFree_still, State.dropConnection_still, State.endCalls_still,
      State.becomeDetached_still, State.engagedToSearch_still]

theorem State.linkLost_still (s : State) (x : Sub) : (s.linkLost x).still = s.still := by
  unfold State.linkLost; grind [State.loseConnection_still]

theorem State.insertDed_still (s : State) (c : Context) (p : WinPurpose) (start : Slot) : (s.insertDed c p
    start).2.still = s.still := by
  unfold State.insertDed; grind [State.insert_still]

theorem State.planFrame_still (s : State) : (s.planFrame).still = s.still := by
  unfold State.planFrame; grind [State.modCtx_still, State.insertDed_still, State.still]

theorem State.topFrames_still (s : State) : (s.topFrames).still = s.still := by
  unfold State.topFrames; grind [State.planFrame_still]

theorem State.reinsert_still (s : State) (c : Context) (p : WinPurpose) (start : Slot) (moved : Bool) (old : Option
    WinId) : (s.reinsert c p start moved old).2.still = s.still := by
  unfold State.reinsert; grind [State.insertDed_still]

theorem State.moveSlots_still (s : State) (at_ : Slot) (rx tx : Nat) : (s.moveSlots at_ rx tx).still = s.still := by
  unfold State.moveSlots
  split
  · rfl
  · split
    · rfl
    · refine (State.modCtx_still _ _).trans ((foldl_keeps (fun q : State × List DedFrame => q.1.still) _ _ _ ?_).trans
        ((foldl_keeps State.still _ _ _ ?_).trans (State.modCtx_still _ _)))
      · exact fun q f => (State.reinsert_still _ _ _ _ _ _).trans (State.reinsert_still _ _ _ _ _ _)
      · exact fun s f => by grind [State.withdrawOpt_still]

theorem State.setTxBlock_still (s : State) (w : WinId) : (s.setTxBlock w).2.still = s.still := by
  unfold State.setTxBlock
  split
  · dsimp only; split
    · exact (State.voiceDiscard_still _).trans rfl
    · rfl
  · split
    · split <;> rfl
    · rfl

theorem State.offerDial_still (s : State) (i : CallId) : (s.offerDial i).still = s.still := by
  unfold State.offerDial; grind [State.offer_still, State.enterCall_still]

theorem State.ringNow_still (s : State) (i : CallId) : (s.ringNow i).still = s.still := by
  unfold State.ringNow; grind [State.offer_still, State.modCall_still, State.enterCall_still, State.still]

theorem State.beginExchanges_still (s : State) (x : Sub) : (s.beginExchanges x).still = s.still := by
  unfold State.beginExchanges; grind [State.settleConn_still, State.startSending_still, State.textMayLeave_still,
      State.offerStoreReady_still, State.offerDial_still, State.ringNow_still]

theorem State.connectionBegins_still (s : State) (x : Sub) (a : Attempt) (g : Grant) (start : Slot) :
    (s.connectionBegins x a g start).still = s.still := by
  unfold State.connectionBegins; grind [State.holdIncoming_still, State.modCtx_still, State.enterCall_still, State.offerEnrol_still,
      State.withdrawAttempt_still, State.setStage_still, State.measDedicated_still, State.beginIncoming_still,
      State.topFrames_still, State.beginExchanges_still, State.still]

theorem State.accessFails_still (s : State) (x : Sub) (a : Attempt) : (s.accessFails x a).still = s.still := by
  unfold State.accessFails; grind [State.disengage_still, State.modSub_still, State.freeCalls_still, State.backToCamped_still,
      State.grantIfFree_still, State.raiseText_still, State.textAccessFailed_still, State.becomeDetached_still,
      State.engagedToNoService_still, State.still]

theorem State.attemptOn_still (s : State) (x : Sub) (a : Attempt) : (s.attemptOn x a).still = s.still := by
  unfold State.attemptOn; grind [State.setStage_still, State.accessFails_still]

theorem State.watchBurst_still (s : State) (x : Sub) (id : WinId) : (s.watchBurst x id).still = s.still := by
  have h : ∀ (c : CampedCell) (fs : List FrameNo) (p : State × List (WinId × FrameNo)),
      (fs.foldl (fun (p : State × List (WinId × FrameNo)) g =>
        let (w, s) := p.1.insert
          { owner := .sub x, reporter := .subscription, purpose := .grantRx, channel := c.cell.channel,
            start := frameSlot c.anchor g 0 p.1.now, len := 2, slack := none, block := none }
        (s, if p.2.any fun q => decide (q.1 = w) then p.2 else p.2 ++ [(w, g)])) p).1.still = p.1.still :=
    fun c fs p => foldl_keeps (fun q : State × List (WinId × FrameNo) => q.1.still) _ _ p
      fun q g => State.insert_still q.1 _
  unfold State.watchBurst
  split
  · split
    · split
      · exact (State.setStage_still _ _ _).trans (h _ _ _)
      · rfl
    · rfl
  · rfl

theorem State.nextBurst_still (s : State) (x : Sub) (a : Attempt) (f : FrameNo) : (s.nextBurst x a f).still =
    s.still := by
  unfold State.nextBurst; grind [State.draw_still, State.insertBurst_still, State.attemptOn_still, State.still]

theorem State.refreshAnchor_still (s : State) (x : Sub) (start : Slot) (f : FrameNo) : (s.refreshAnchor x start
    f).still = s.still := rfl

theorem State.attemptEnded_still (s : State) (x : Sub) (w : Window) (e : Ended) : (s.attemptEnded x w e).still =
    s.still := by
  unfold State.attemptEnded
  repeat' split
  all_goals grind [State.connectionBegins_still, State.attemptOn_still, State.nextBurst_still, State.refreshAnchor_still]

theorem State.registered_still (s : State) (x : Sub) (key : BitVec 16) : (s.registered x key).still = s.still := by
  unfold State.registered; grind [State.modSub_still, State.postSub_still, State.modPurposes_still,
      State.beginExchanges_still, State.still]

theorem State.regRefused_still (s : State) (x : Sub) (why : NoServiceReason) : (s.regRefused x why).still = s.still
    := by
  unfold State.regRefused; grind [State.modSub_still, State.modText_still, State.modCtx_still, State.postSub_still,
      State.offer_still, State.removeMsgs_still, State.freeCall_still, State.clearCall_still,
      State.modPurposes_still, State.settleConn_still, State.afterSending_still, State.still]

theorem State.sentHook_still (s : State) (x : Sub) (m : UpMsg) : (s.sentHook x m).still = s.still := by
  unfold State.sentHook; grind [State.modSub_still, State.modText_still, State.modCtx_still,
      State.modPurposes_still, State.settleConn_still, State.leaveConn_still, State.modOut_still,
      State.beginIncoming_still, State.still]

theorem State.uncarry_still (s : State) (w : WinId) : (s.uncarry w).still = s.still := rfl

theorem State.messageSent_still (s : State) (x : Sub) (w : WinId) : (s.messageSent x w).still = s.still := by
  unfold State.messageSent; grind [State.modCtx_still, State.sentHook_still, State.uncarry_still]

theorem State.dedTxEnded_still (s : State) (x : Sub) (w : Window) (e : Ended) : (s.dedTxEnded x w e).still = s.still
    := by
  unfold State.dedTxEnded; grind [State.modCtx_still, State.topFrames_still, State.messageSent_still,
      State.uncarry_still, State.voiceDiscard_still, State.still]

theorem State.localClear_still (s : State) (i : CallId) (c : CallCause) : (s.localClear i c).still = s.still := by
  unfold State.localClear; grind [State.offer_still, State.removeMsgs_still, State.freeCall_still,
      State.clearCall_still, State.freeAndLeave_still]

theorem State.clearAll_still (s : State) (x : Sub) (c : CallCause) : (s.clearAll x c).still = s.still := by
  exact foldl_keeps State.still _ _ _ fun s i => by grind [State.localClear_still]

theorem State.callTimerExpired_still (s : State) (i : CallId) : (s.callTimerExpired i).still = s.still := by
  unfold State.callTimerExpired; grind [State.offer_still, State.modCall_still, State.freeCall_still,
      State.clearCall_still, State.freeAndLeave_still, State.still]

theorem State.joined_still (s : State) (x : Sub) : (s.joined x).still = s.still := by
  unfold State.joined; grind [State.enterCall_still, State.voiceStart_still]

theorem State.dropped_still (s : State) (x : Sub) (c : DropCause) : (s.dropped x c).still = s.still := by
  unfold State.dropped; grind [State.offer_still, State.freeAndLeave_still]

theorem State.arrived_still (s : State) (x : Sub) (caller : Option Digits) : (s.arrived x caller).still = s.still :=
    by
  unfold State.arrived; grind [State.postCall_still, State.offer_still, State.modCall_still, State.ringNow_still,
      State.still]

theorem State.progressed_still (s : State) (x : Sub) : (s.progressed x).still = s.still := by
  unfold State.progressed; grind [State.enterCall_still]

theorem State.dropConfirmed_still (s : State) (x : Sub) : (s.dropConfirmed x).still = s.still := by
  unfold State.dropConfirmed; grind [State.freeAndLeave_still]

theorem State.textAcked_still (s : State) (x : Sub) (ref index : Nat) : (s.textAcked x ref index).still = s.still :=
    by
  unfold State.textAcked; grind [State.removeMsgs_still, State.modOut_still, State.endEntry_still,
      State.offerPart_still, State.afterSending_still, State.still]

theorem State.textRefused_still (s : State) (x : Sub) (ref : Nat) (c : RefuseCause) : (s.textRefused x ref c).still
    = s.still := by
  unfold State.textRefused; grind [State.removeMsgs_still, State.endEntry_still, State.afterSending_still]

theorem State.partWaitExpired_still (s : State) (x : Sub) : (s.partWaitExpired x).still = s.still := by
  unfold State.partWaitExpired; grind [State.modOut_still, State.endEntry_still, State.offerPart_still,
      State.afterSending_still, State.still]

/-! ### Handover -/

theorem State.modAccess_still (s : State) (f : Access → Access) : (s.modAccess f).still = s.still := by
  unfold State.modAccess; grind [State.modCtx_still, State.still]

theorem State.insertAccess_still (s : State) (c : Context) (wanted : Bool) (p : WinPurpose) (start : Slot) (b :
    Option TxBlock) : (s.insertAccess c wanted p start b).2.still = s.still := by
  unfold State.insertAccess; grind [State.insert_still]

theorem State.planAccess_still (s : State) (n : Nat) : (s.planAccess n).still = s.still := by
  unfold State.planAccess; grind [State.modAccess_still, State.insertAccess_still, State.still]

theorem State.beginAccess_still (s : State) : (s.beginAccess).still = s.still := by
  unfold State.beginAccess; grind [State.planAccess_still]

theorem State.withdrawAccess_still (s : State) (x : Sub) : (s.withdrawAccess x).still = s.still := rfl

theorem State.insertAreaRead_still (s : State) (c : Context) (start : Slot) : (s.insertAreaRead c start).still =
    s.still := by
  unfold State.insertAreaRead; grind [State.modCtx_still, State.insert_still, State.still]

theorem State.planAreaRead_still (s : State) : (s.planAreaRead).still = s.still := by
  unfold State.planAreaRead; grind [State.insertAreaRead_still]

theorem State.readAreaAgain_still (s : State) (start : Slot) : (s.readAreaAgain start).still = s.still := by
  unfold State.readAreaAgain; grind [State.insertAreaRead_still]

theorem State.setAnchor_still (s : State) (start : Slot) (f : FrameNo) : (s.setAnchor start f).still = s.still :=
    rfl

theorem State.areaReadEnded_still (s : State) (x : Sub) (w : Window) (e : Ended) : (s.areaReadEnded x w e).still =
    s.still := by
  unfold State.areaReadEnded; grind [State.modSub_still, State.modCtx_still, State.postSub_still,
      State.readAreaAgain_still, State.setAnchor_still]

theorem State.holdText_still (s : State) (x : Sub) : (s.holdText x).still = s.still := rfl

theorem State.resumeText_still (s : State) (x : Sub) : (s.resumeText x).still = s.still := rfl

theorem State.setMoving_still (s : State) (x : Sub) : (s.setMoving x).still = s.still := by
  exact foldl_keeps State.still _ _ _ fun s i => by grind [State.postCall_still, State.modCall_still]

theorem State.clearMoving_still (s : State) (x : Sub) (flag : BitVec 16) : (s.clearMoving x flag).still = s.still :=
    by
  exact foldl_keeps State.still _ _ _ fun s i => by grind [State.postCall_still, State.modCall_still]

theorem State.beginMove_still (s : State) (x : Sub) (c : Context) (cell : CellId) (rx tx offset deadline : Nat) :
    (s.beginMove x c cell rx tx offset deadline).still = s.still := by
  unfold State.beginMove; grind [State.modCtx_still, State.draw_still, State.withdrawAll_still, State.setMode_still,
      State.beginAccess_still, State.holdText_still, State.setMoving_still, State.voiceHold_still, State.still]

theorem State.moveOrdered_still (s : State) (x : Sub) (channel code rx tx offset deadline : Nat) : (s.moveOrdered x
    channel code rx tx offset deadline).still = s.still := by
  unfold State.moveOrdered; grind [State.placeHead_still, State.beginMove_still]

theorem State.endHandover_still (s : State) (x : Sub) (flag : BitVec 16) : (s.endHandover x flag).still = s.still :=
    by
  unfold State.endHandover; grind [State.modCtx_still, State.measDedicated_still, State.resumeText_still,
      State.clearMoving_still, State.voiceResume_still, State.still]

theorem State.moveSucceeded_still (s : State) (x : Sub) (start : Slot) : (s.moveSucceeded x start).still = s.still
    := by
  unfold State.moveSucceeded; grind [State.modSub_still, State.modCtx_still, State.postSub_still,
      State.placeHead_still, State.moveServing_still, State.topFrames_still, State.withdrawAccess_still,
      State.planAreaRead_still, State.endHandover_still, State.still]

theorem State.moveTimedOut_still (s : State) (x : Sub) : (s.moveTimedOut x).still = s.still := by
  unfold State.moveTimedOut; grind [State.modCtx_still, State.draw_still, State.beginAccess_still,
      State.withdrawAccess_still, State.still]

theorem State.returned_still (s : State) (x : Sub) (start : Slot) : (s.returned x start).still = s.still := by
  unfold State.returned; grind [State.modCtx_still, State.placeHead_still, State.topFrames_still,
      State.withdrawAccess_still, State.planAreaRead_still, State.endHandover_still, State.still]

theorem State.learnFrame_still (s : State) (start : Slot) (f : FrameNo) (replaces : Bool) :
    (s.learnFrame start f replaces).still = s.still := rfl

theorem State.accessGoesOn_still (s : State) (x : Sub) (a : Access) (f : AccessFrame) (w : Window) : (s.accessGoesOn
    x a f w).still = s.still := by
  unfold State.accessGoesOn; grind [State.linkLost_still, State.modAccess_still, State.planAccess_still,
      State.moveTimedOut_still, State.still]

theorem State.accessEnded_still (s : State) (x : Sub) (w : Window) (e : Ended) : (s.accessEnded x w e).still =
    s.still := by
  unfold State.accessEnded
  repeat' split
  all_goals grind [State.moveSucceeded_still, State.returned_still, State.learnFrame_still, State.accessGoesOn_still]

theorem State.abandonHandover_still (s : State) (x : Sub) (i : CallId) : (s.abandonHandover x i).still = s.still :=
    by
  unfold State.abandonHandover; grind [State.freeCall_still, State.freeCalls_still, State.loseConnection_still]

theorem State.received_still (s : State) (x : Sub) (frame : Slot) (m : DownMsg) : (s.received x frame m).still =
    s.still := by
  unfold State.received; grind [State.textPartReceived_still, State.releaseConnection_still, State.moveSlots_still,
      State.registered_still, State.regRefused_still, State.joined_still, State.dropped_still, State.arrived_still,
      State.progressed_still, State.dropConfirmed_still, State.textAcked_still, State.textRefused_still,
      State.moveOrdered_still]

theorem State.dedRxEnded_still (s : State) (x : Sub) (w : Window) (e : Ended) : (s.dedRxEnded x w e).still = s.still
    := by
  have h (s : State) : (s.modVoice fun v => v.add (entryFor e)).still = s.still := s.voiceAdd_still _
  unfold State.dedRxEnded
  repeat' split
  all_goals grind [State.modCtx_still, State.measDedEnded_still, State.linkLost_still, State.topFrames_still,
    State.received_still, State.setAnchor_still, State.planAreaRead_still]

/-! ### Outcomes -/

theorem State.searchEnded_still (s : State) (x : Sub) (w : Window) (e : Ended) : (s.searchEnded x w e).still =
    s.still := by
  unfold State.searchEnded; grind [State.modSub_still, State.scanEnd_still, State.still]

theorem State.planCandidate_still (s : State) (x : Sub) (c : CampedCell) (ns : List Neighbour) (f : FrameNo) (start
    : Slot) : (s.planCandidate x c ns f start).still = s.still := by
  unfold State.planCandidate; grind [State.modSub_still, State.insertBeacon_still, State.still]

theorem State.candidateFound_still (s : State) (x : Sub) (c : CampedCell) (ns : List Neighbour) : (s.candidateFound
    x c ns).still = s.still := by
  unfold State.candidateFound; grind [State.ask_still, State.camp_still, State.planCandidate_still]

theorem State.acquisitionEnded_still (s : State) (x : Sub) (scan : List (Nat × Nat)) (position : Nat) (again : Bool)
    (w : Window) (e : Ended) : (s.acquisitionEnded x scan position again w e).still = s.still := by
  unfold State.acquisitionEnded; grind [State.modSub_still, State.insertBeacon_still, State.tryChannel_still,
      State.still]

theorem State.scanReadEnded_still (s : State) (x : Sub) (scan : List (Nat × Nat)) (position : Nat) (a : Anchor) (f :
    FrameNo) (again : Bool) (w : Window) (e : Ended) : (s.scanReadEnded x scan position a f again w e).still =
    s.still := by
  unfold State.scanReadEnded; grind [State.modSub_still, State.insertBeacon_still, State.tryChannel_still,
      State.candidateFound_still, State.still]

theorem State.candidateRead_still (s : State) (x : Sub) (c : CampedCell) (ns : List Neighbour) (f : FrameNo) (w :
    Window) (e : Ended) : (s.candidateRead x c ns f w e).still = s.still := by
  unfold State.candidateRead; grind [State.beginSearch_still, State.dropRequest_still, State.planCandidate_still,
      State.still]

theorem State.relisten_still (s : State) (x : Sub) : (s.relisten x).still = s.still := by
  unfold State.relisten; grind [State.withdraw_still, State.planPage_still]

theorem State.recover_still (s : State) (x : Sub) : (s.recover x).still = s.still := by
  unfold State.recover; grind [State.withdrawOpt_still, State.planRefresh_still]

theorem State.servingBeacon_still (s : State) (x : Sub) (b : Beacon) (w : Window) : (s.servingBeacon x b w).still =
    s.still := by
  unfold State.servingBeacon; grind [State.modSub_still, State.postSub_still, State.applyList_still,
      State.planRefresh_still, State.ask_still, State.campLoss_still, State.relisten_still, State.still]

theorem State.notBeacon_still (s : State) (x : Sub) (start : Slot) (b : Block) : (s.notBeacon x start b).still =
    s.still := by
  unfold State.notBeacon; grind [State.planRefresh_still, State.refreshAnchor_still]

theorem State.refreshEnded_still (s : State) (x : Sub) (f : FrameNo) (w : Window) (e : Ended) : (s.refreshEnded x f
    w e).still = s.still := by
  unfold State.refreshEnded; grind [State.planRefresh_still, State.servingBeacon_still, State.notBeacon_still]

theorem State.confirmEnded_still (s : State) (x : Sub) (f : FrameNo) (w : Window) (e : Ended) : (s.confirmEnded x f
    w e).still = s.still := by
  unfold State.confirmEnded; grind [State.disengage_still, State.grantIfFree_still, State.camp_still, State.engagedToSearch_still,
      State.planConfirm_still, State.still]

theorem State.beaconEnded_still (s : State) (x : Sub) (w : Window) (e : Ended) : (s.beaconEnded x w e).still =
    s.still := by
  unfold State.beaconEnded; grind [State.acquisitionEnded_still, State.scanReadEnded_still,
      State.candidateRead_still, State.refreshEnded_still, State.confirmEnded_still]

theorem State.setTextWaiting_still (s : State) (x : Sub) : (s.setTextWaiting x).still = s.still := by
  unfold State.setTextWaiting; grind [State.modSub_still, State.postSub_still, State.still]

theorem State.examinePages_still (s : State) (x : Sub) (pages : List PageEntry) : (s.examinePages x pages).still =
    s.still := by
  unfold State.examinePages; grind [State.takeRecord_still, State.ask_still, State.setTextWaiting_still]

theorem State.pageBlock_still (s : State) (x : Sub) (f : FrameNo) (w : Window) (e : Ended) : (s.pageBlock x f w
    e).still = s.still := by
  unfold State.pageBlock; grind [State.modSub_still, State.paramsChanged_still, State.planRefresh_still,
      State.refreshAnchor_still, State.recover_still, State.servingBeacon_still, State.notBeacon_still]

theorem State.pageEnded_still (s : State) (x : Sub) (w : Window) (outcome : Ended) : (s.pageEnded x w outcome).still
    = s.still := by
  unfold State.pageEnded; grind [State.modSub_still, State.planPageAfter_still, State.campLoss_still,
      State.measPageEnded_still, State.examinePages_still, State.pageBlock_still]

theorem State.toSubscription_still (s : State) (x : Sub) (w : Window) (e : Ended) : (s.toSubscription x w e).still =
    s.still := by
  unfold State.toSubscription; grind [State.attemptEnded_still, State.searchEnded_still, State.beaconEnded_still,
      State.pageEnded_still]

theorem State.toContext_still (s : State) (x : Sub) (w : Window) (e : Ended) : (s.toContext x w e).still = s.still
    := by
  unfold State.toContext; grind [State.dedTxEnded_still, State.areaReadEnded_still, State.accessEnded_still,
      State.dedRxEnded_still]

theorem State.handOver_still (s : State) (w : Window) (e : Ended) : (s.handOver w e).still = s.still := by
  unfold State.handOver; grind [State.measWindowEnded_still, State.reselEnded_still, State.toSubscription_still,
      State.toContext_still]

theorem State.takeReport_still (s : State) (z : Report) : (s.takeReport z).still = s.still := by
  unfold State.takeReport; grind [State.planReclaim_still, State.examineReclaim_still, State.examineSpace_still, State.checkRounds_still,
      State.usableRose_still, State.handOver_still]

/-! ### Requests of the subscription controller -/

theorem State.load_still (s : State) (x : Sub) (identity : BitVec 32) (cs : List (BitVec 16)) : (s.load x identity
    cs).still = s.still := by
  unfold State.load; grind [State.modSub_still, State.postSub_still, State.clearMemoryFull_still]

theorem State.applySettings_still (s : State) (x : Sub) (guard notices : Option Byte) (channels : Option (List
    (BitVec 16))) : (s.applySettings x guard notices channels).still = s.still := by
  unfold State.applySettings; grind [State.modSub_still, State.modMeas_still, State.raiseStarved_still, State.still]

theorem State.detachCamped_still (s : State) (x : Sub) : (s.detachCamped x).still = s.still := by
  unfold State.detachCamped; grind [State.freeCalls_still, State.grantIfFree_still, State.joinQueue_still,
      State.dropRequest_still, State.becomeDetached_still]

theorem State.leaveEngaged_still (s : State) (x : Sub) : (s.leaveEngaged x).still = s.still := by
  unfold State.leaveEngaged; grind [State.disengage_still, State.modSub_still, State.postSub_still, State.grantIfFree_still,
      State.dropRequest_still, State.still]

theorem State.detachAttempt_still (s : State) (x : Sub) (a : Attempt) : (s.detachAttempt x a).still = s.still := by
  unfold State.detachAttempt; grind [State.modSub_still, State.freeCalls_still, State.withdrawAttempt_still,
      State.textAccessFailed_still, State.detachCamped_still, State.leaveEngaged_still, State.still]

theorem State.detachConnected_still (s : State) (x : Sub) : (s.detachConnected x).still = s.still := by
  unfold State.detachConnected; grind [State.modText_still, State.removeMsgs_still, State.modPurposes_still,
      State.settleConn_still, State.textDetached_still, State.regDropped_still, State.clearAll_still, State.still]

theorem State.detach_still (s : State) (x : Sub) (t : Nat) : (s.detach x t).still = s.still := by
  unfold State.detach; grind [State.modSub_still, State.refuse_still, State.withdraw_still, State.freeCalls_still,
      State.stopSearch_still, State.becomeDetached_still, State.detachCamped_still, State.leaveEngaged_still,
      State.detachAttempt_still, State.detachConnected_still, State.still]

/-! ### Requests of the call controller -/

theorem State.dialMoving_still (s : State) (i : CallId) (x : Sub) : (s.dialMoving i x).still = s.still := by
  unfold State.dialMoving; grind [State.modPurposes_still, State.removeMsgs_still, State.offerDial_still]

theorem State.dial_still (s : State) (i : CallId) (x : Sub) (number : Digits) : (s.dial i x number).still = s.still
    := by
  unfold State.dial; grind [State.dialMoving_still, State.enterCall_still, State.takeRecord_still, State.ask_still, State.offerDial_still]

theorem State.answerIncoming_still (s : State) (i : CallId) : (s.answerIncoming i).still = s.still := by
  unfold State.answerIncoming; grind [State.offer_still, State.modCall_still, State.enterCall_still,
      State.renewCall_still, State.arrived_still, State.still]

theorem State.answerBlocked_still (s : State) (i : CallId) (x : Sub) : (s.answerBlocked i x).still = s.still := by
  unfold State.answerBlocked; grind [State.modCall_still, State.enterCall_still, State.ask_still,
      State.clearAll_still, State.still]

theorem State.answerCall_still (s : State) (i : CallId) (t : Nat) : (s.answerCall i t).still = s.still := by
  unfold State.answerCall; grind [State.refuse_still, State.answerIncoming_still, State.answerBlocked_still]

theorem State.endCall_still (s : State) (i : CallId) : (s.endCall i).still = s.still := by
  unfold State.endCall; grind [State.localClear_still, State.abandonHandover_still]

/-! ### Requests of the text transfer unit -/

theorem State.storePiece_still (s : State) (x : Sub) (destination : Digits) (reference index : Byte) (body : List
    Byte) : (s.storePiece x destination reference index body).still = s.still := by
  unfold State.storePiece; grind [State.modOut_still, State.still]

theorem State.pieceReady_still (s : State) (x : Sub) (reference : Byte) : (s.pieceReady x reference).still = s.still
    := by
  unfold State.pieceReady; grind [State.moment_still, State.modOut_still, State.raiseText_still]

theorem State.cancelLeaves_still (s : State) (x : Sub) : (s.cancelLeaves x).still = s.still := by
  unfold State.cancelLeaves; grind [State.purposeLeaves_still, State.textMayLeave_still]

theorem State.cancel_still (s : State) (x : Sub) (e : OutEntry) : (s.cancel x e).still = s.still := by
  unfold State.cancel; grind [State.cancelLeaves_still, State.still]

theorem State.idleWaitOver_still (s : State) (x : Sub) : (s.idleWaitOver x).still = s.still := by
  unfold State.idleWaitOver; grind [State.modText_still, State.textMayLeave_still, State.still]
/-! ### The settling of reports -/

theorem State.drain_still (n : Nat) (s : State) : (State.drain n s).still = s.still := by
  induction n generalizing s with
  | zero => rfl
  | succ n ih =>
    unfold State.drain
    split
    · rfl
    · exact (ih _).trans ((State.takeReport_still _ _).trans rfl)

/-- A settled state has the same still parts. -/
theorem settle_still {s t : State} (h : settle s = .next t) : t.still = s.still := by
  cases h; exact State.drain_still _ _

/-- A state without reports settles as it stands. -/
theorem settle_quiet {s : State} (h : s.reports = []) : settle s = .next s := by
  have : State.drain settleBound s = s := by
    unfold settleBound State.drain
    simp only [h]
  rw [settle, this]

end Sys2Proof.Machine
end

