-- ==== Sys2Proof/Laws/Link.lean ====
section
/-! SUPPORT. The command link: tickets are fresh, an answer to the request just dispatched fills its own position, and the
dispatch of a request as one equation. -/

namespace Sys2Proof.Machine

open Sys2Proof

/-- No reserved position has the ticket reserved next. -/
theorem Link.ticket_fresh (l : Link) : ∀ r ∈ l.reserved, r.ticket < l.ticket := by
  unfold Link.ticket
  induction l.reserved with
  | nil => simp
  | cons r rs ih =>
    intro q hq
    rcases List.mem_cons.1 hq with rfl | hq
    · simp only [List.foldr_cons]; omega
    · have := ih q hq; simp only [List.foldr_cons]; omega

/-- The owner's answer to the request just dispatched: its position becomes filled, stamped with the slot of that moment, and
the positions reserved before stand. -/
theorem State.answer_ticket (u : State) (l : Link) (tag code : Byte) (st : Status) (res : Result)
    (h : u.link = { l with
      inbox := l.inbox.drop 1, reserved := l.reserved ++ [{ ticket := l.ticket, tag := tag, code := code }] }) :
    u.answer l.ticket st res = { u with
      link := { l with
        inbox := l.inbox.drop 1
        filled := l.filled ++ [{ tag := tag, code := code, status := st, stamp := u.now, result := res, sent := 0 }] } } := by
  have hn : ∀ r ∈ l.reserved, ¬ (decide (r.ticket = l.ticket) = true) := fun r hr => by
    have := l.ticket_fresh r hr; simp; omega
  have hf : l.reserved.find? (fun r => decide (r.ticket = l.ticket)) = none := List.find?_eq_none.2 hn
  unfold State.answer
  rw [h]
  simp only [List.find?_append, hf, Option.none_or, List.find?_cons, decide_true]
  unfold State.fill State.modLink
  rw [h]
  simp only [List.eraseP_append_right _ hn, List.eraseP_cons, decide_true, cond_true, List.append_nil]

/-- The link after a request's dispatch, as `State.answer_ticket` takes it. -/
theorem State.reserveHead_link (s : State) (tag code : Byte) :
    (s.reserveHead tag code).link = { s.link with
      inbox := s.link.inbox.drop 1,
      reserved := s.link.reserved ++ [{ ticket := s.link.ticket, tag := tag, code := code }] } := rfl

/-- A request dispatched and answered at once. -/
theorem State.reserveHead_answer (s : State) (tag code : Byte) (st : Status) (res : Result) :
    (s.reserveHead tag code).answer s.link.ticket st res = s.replied tag code st res :=
  (s.reserveHead tag code).answer_ticket s.link tag code st res (s.reserveHead_link tag code)

/-- The dispatch of a request that can be dispatched. -/
theorem dispatched_accepts {s : State} {tag : Byte} {r : Request} (h : s.accepts tag r) (owner : Nat → State → State) :
    dispatched s tag r owner = settle (owner s.link.ticket (s.reserveHead tag (requestCode r))) :=
  if_pos h

/-- The same when no report arises. -/
theorem dispatched_quiet {s : State} {tag : Byte} {r : Request} (h : s.accepts tag r) (owner : Nat → State → State)
    (hq : (owner s.link.ticket (s.reserveHead tag (requestCode r))).reports = []) :
    dispatched s tag r owner = .next (owner s.link.ticket (s.reserveHead tag (requestCode r))) :=
  (dispatched_accepts h owner).trans (settle_quiet hq)

/-- A request that its owner answers at once, changing nothing. -/
theorem dispatched_replied {s : State} {tag : Byte} {r : Request} (h : s.accepts tag r) (hq : s.quiet)
    (owner : Nat → State → State) (st : Status) (res : Result)
    (ho : owner s.link.ticket (s.reserveHead tag (requestCode r)) =
      (s.reserveHead tag (requestCode r)).answer s.link.ticket st res) :
    dispatched s tag r owner = .next (s.replied tag (requestCode r) st res) := by
  rw [dispatched_accepts h, ho, State.reserveHead_answer]
  exact settle_quiet hq

end Sys2Proof.Machine
end

