-- ==== Sys2Proof/Laws/Calls.lean ====
section
/-! SUPPORT. Call records: what a record's change of state does to the whole state, and what a posting leaves in the outbox. -/

namespace Sys2Proof.Machine

open Sys2Proof

/-- R183: a posted snapshot stands in the outbox with its flags. -/
theorem mem_postIn (snap : Snapshot) (flags : BitVec 16) (out : List Notice) :
    ∃ n ∈ postIn snap flags out, n.snapshot = snap ∧ n.flags &&& flags = flags := by
  induction out with
  | nil => exact ⟨{ snapshot := snap, flags := flags }, by simp [postIn], rfl, by simp⟩
  | cons a l ih =>
    unfold postIn; split
    next =>
      refine ⟨{ snapshot := snap, flags := a.flags ||| flags }, by simp, rfl, ?_⟩
      ext i hi
      simp only [BitVec.getElem_and, BitVec.getElem_or]
      cases a.flags[i] <;> cases flags[i] <;> rfl
    next => obtain ⟨n, h1, h2⟩ := ih; exact ⟨n, List.mem_cons_of_mem _ h1, h2⟩

/-- A request dispatched to an owner whose action leads to a state that raised no report. -/
theorem dispatched_eq {s : State} {tag : Byte} {r : Request} {owner : Nat → State → State} {v : State} (h : s.accepts tag r)
    (he : owner s.link.ticket (s.reserveHead tag (requestCode r)) = v) (hq : v.reports = []) :
    dispatched s tag r owner = .next v := by
  rw [dispatched_quiet h owner (by rw [he]; exact hq), he]

/-- A record set is the record read. -/
theorem State.call_setCall (s : State) (i : CallId) (r : CallRec) : (s.setCall i r).call i = r := by cases i <;> rfl

/-- The later of two settings of one record stands. -/
theorem State.setCall_setCall (s : State) (i : CallId) (r q : CallRec) : (s.setCall i r).setCall i q = s.setCall i q := by
  cases i <;> rfl

/-- Setting a record changes the records alone. -/
theorem State.setCall_eq (s : State) (i : CallId) (r : CallRec) : s.setCall i r = { s with calls := (s.setCall i r).calls } := by
  cases i <;> rfl

/-- R81, R82, R102: a record enters a state: its timer is that state's, the voice port stops when the record was CONNECTED, and
the CALL notice is posted with STATE. -/
theorem State.enterCall_eq (v : State) (i : CallId) (st : CallState) (flags : BitVec 16) :
    v.enterCall i st flags = { v with
      calls := (v.setCall i { v.call i with state := st, timer := st.timer.map v.timerFor }).calls
      voice := if (v.call i).state = .connected ∧ st ≠ .connected then v.voice.stop else v.voice
      link := { v.link with
        outbox := postIn (State.callSnapshot { v with
          calls := (v.setCall i { v.call i with state := st, timer := st.timer.map v.timerFor }).calls } i) (1 ||| flags)
            v.link.outbox } } := by
  unfold State.enterCall State.modCall
  simp only
  split <;> cases i <;> rfl

/-- R102: a renewal changes the outbox alone, and nothing when no CALL entry of the record is pending. -/
theorem State.renewCall_eq (v : State) (i : CallId) : ∃ o, v.renewCall i = { v with link := { v.link with outbox := o } } ∧
    ((∀ n ∈ v.link.outbox, n.snapshot.key ≠ (NoticeKind.call, callNumber i)) → o = v.link.outbox) := by
  unfold State.renewCall
  by_cases hc : (v.link.outbox.any fun n => decide (n.snapshot.key = (NoticeKind.call, callNumber i))) = true
  · rw [if_pos hc]
    refine ⟨postIn (v.callSnapshot i) 0 v.link.outbox, rfl, fun hh => ?_⟩
    rw [List.any_eq_true] at hc
    obtain ⟨n, hn, hk⟩ := hc
    exact absurd (of_decide_eq_true hk) (hh n hn)
  · rw [if_neg hc]; exact ⟨_, rfl, fun _ => rfl⟩

/-- R82: the available record is FREE. -/
theorem State.freeRecord_free {s : State} {i : CallId} (h : s.freeRecord = some i) : (s.call i).state = .free := by
  unfold State.freeRecord at h
  split at h
  next hh => cases h; simp [State.available] at hh; exact hh.1
  next =>
    split at h
    next hh => cases h; simp [State.available] at hh; exact hh.1
    next => cases h

/-- R81: what makes a digit string one in range. -/
theorem digitsInRange_iff (n : Digits) : digitsInRange n = true ↔ 1 ≤ n.length ∧ n.length ≤ 20 ∧ ∀ d ∈ n, d.toNat ≤ 9 := by
  simp [digitsInRange]; tauto

end Sys2Proof.Machine
end

