-- ==== Sys2Proof/Laws/Codec.lean ====
section
/-! SUPPORT. The octets of a request: each field is read back from what is put for it, and is read from nothing else (R179, R185). -/

namespace Sys2Proof

/-- The value of an octet appended below a word. -/
theorem append_toNat {w : Nat} (a : BitVec w) (b : BitVec 8) : (a ++ b).toNat = a.toNat * 256 + b.toNat := by
  have := b.isLt
  rw [BitVec.toNat_append, ← Nat.shiftLeft_add_eq_or_of_lt (by omega), Nat.shiftLeft_eq]

/-- The value of 16 bits appended below a word. -/
theorem append16_toNat {w : Nat} (a : BitVec w) (b : BitVec 16) : (a ++ b).toNat = a.toNat * 65536 + b.toNat := by
  have := b.isLt
  rw [BitVec.toNat_append, ← Nat.shiftLeft_add_eq_or_of_lt (by omega), Nat.shiftLeft_eq]

/-- A 16-bit field is read back from its two octets. -/
theorem take2_put2 (n : BitVec 16) (l : List Byte) : take2 (put2 n.toNat ++ l) = some (n, l) := by
  simp only [put2, List.cons_append, List.nil_append, take2]
  congr 2
  apply BitVec.eq_of_toNat_eq
  have := n.isLt
  rw [append_toNat]; simp only [BitVec.toNat_ofNat]; omega

/-- A 32-bit field is read back from its four octets. -/
theorem take4_put4 (n : BitVec 32) (l : List Byte) : take4 (put4 n.toNat ++ l) = some (n, l) := by
  simp only [put4, List.cons_append, List.nil_append, take4]
  congr 2
  apply BitVec.eq_of_toNat_eq
  have := n.isLt
  rw [append16_toNat, append_toNat, append_toNat]; simp only [BitVec.toNat_ofNat]; omega

/-- As many octets as were put are read back. -/
theorem takeOctets_append (a l : List Byte) : takeOctets a.length (a ++ l) = some (a, l) := by
  simp [takeOctets]

/-- A digit string is read back from its count and octets. -/
theorem takeDigits_put (d : Digits) (l : List Byte) (h : d.length ≤ 255) : takeDigits (putDigits d ++ l) = some (d, l) := by
  simp only [putDigits, put1, List.cons_append, List.nil_append, takeDigits]
  rw [show (BitVec.ofNat 8 d.length).toNat = d.length by simp; omega]; exact takeOctets_append d l

/-- A body is read back from its count and octets. -/
theorem takeBody_put (d l : List Byte) (h : d.length ≤ 65535) : takeBody (putBody d ++ l) = some (d, l) := by
  unfold takeBody putBody
  rw [List.append_assoc]
  have := take2_put2 (BitVec.ofNat 16 d.length) (d ++ l)
  rw [show (BitVec.ofNat 16 d.length).toNat = d.length by simp; omega] at this
  rw [this]
  simp only []
  rw [show (BitVec.ofNat 16 d.length).toNat = d.length by simp; omega]; exact takeOctets_append d l

/-- A list of 16-bit fields is read back. -/
theorem takePairs_put (cs : List (BitVec 16)) (l : List Byte) :
    takePairs cs.length ((cs.flatMap fun c => put2 c.toNat) ++ l) = some (cs, l) := by
  induction cs with
  | nil => rfl
  | cons c cs ih => simp only [List.flatMap_cons, List.append_assoc, List.length_cons, takePairs, take2_put2, ih]

/-- A channel list is read back from its count and pairs. -/
theorem takeChannels_put (cs : List (BitVec 16)) (l : List Byte) (h : cs.length ≤ 255) :
    takeChannels (putChannels cs ++ l) = some (cs, l) := by
  simp only [putChannels, put1, List.cons_append, List.nil_append, takeChannels]
  rw [show (BitVec.ofNat 8 cs.length).toNat = cs.length by simp; omega]; exact takePairs_put cs l

/-- An optional octet is read back. -/
theorem takeOpt1_put (o : Option Byte) (l : List Byte) : takeOpt take1 (putOpt (fun b => [b]) o ++ l) = some (o, l) := by
  cases o <;> simp [putOpt, takeOpt, take1]

/-- An optional channel list is read back. -/
theorem takeOptC_put (o : Option (List (BitVec 16))) (l : List Byte) (h : ∀ c, o = some c → c.length ≤ 255) :
    takeOpt takeChannels (putOpt putChannels o ++ l) = some (o, l) := by
  cases o with
  | none => simp [putOpt, takeOpt]
  | some c => simp only [putOpt, takeOpt, List.cons_append]; simp [takeChannels_put c l (h c rfl)]

/-- What an octet was read from. -/
theorem take1_inv {l l' : List Byte} {b} (h : take1 l = some (b, l')) : l = b :: l' := by
  cases l <;> simp_all [take1]

/-- What a 16-bit field was read from. -/
theorem take2_inv {l l' : List Byte} {n} (h : take2 l = some (n, l')) : l = put2 n.toNat ++ l' := by
  unfold take2 at h; split at h
  next a b rest =>
    cases h
    have e : (a ++ b : BitVec 16).toNat = _ := append_toNat a b
    have ha := a.isLt; have hb := b.isLt
    simp only [put2, List.cons_append, List.nil_append, List.cons.injEq, and_true]
    constructor <;> apply BitVec.eq_of_toNat_eq <;> rw [e] <;> simp only [BitVec.toNat_ofNat] <;> omega
  · cases h

/-- What a 32-bit field was read from. -/
theorem take4_inv {l l' : List Byte} {n} (h : take4 l = some (n, l')) : l = put4 n.toNat ++ l' := by
  unfold take4 at h; split at h
  next a b c d rest =>
    cases h
    have e : ((a ++ b ++ (c ++ d) : BitVec 32)).toNat = _ := append16_toNat (a ++ b) (c ++ d)
    rw [append_toNat, append_toNat] at e
    have ha := a.isLt; have hb := b.isLt; have hc := c.isLt; have hd := d.isLt
    simp only [put4, List.cons_append, List.nil_append, List.cons.injEq, and_true]
    refine ⟨?_, ?_, ?_, ?_⟩ <;> apply BitVec.eq_of_toNat_eq <;> rw [e] <;> simp only [BitVec.toNat_ofNat] <;> omega
  · cases h

/-- What octets were read from. -/
theorem takeOctets_inv {n : Nat} {l a l' : List Byte} (h : takeOctets n l = some (a, l')) : l = a ++ l' ∧ a.length = n := by
  unfold takeOctets at h; split at h
  · cases h; simp; omega
  · cases h

/-- What a digit string was read from. -/
theorem takeDigits_inv {l l' : List Byte} {d} (h : takeDigits l = some (d, l')) : l = putDigits d ++ l' := by
  unfold takeDigits at h; split at h
  next n rest =>
    obtain ⟨rfl, hl⟩ := takeOctets_inv h
    simp only [putDigits, put1, List.cons_append, List.nil_append, List.cons.injEq, and_true]
    rw [hl]; simp
  · cases h

/-- What a body was read from. -/
theorem takeBody_inv {l l' : List Byte} {d} (h : takeBody l = some (d, l')) : l = putBody d ++ l' := by
  unfold takeBody at h; split at h
  next n rest hn =>
    obtain ⟨rfl, hl⟩ := takeOctets_inv h
    rw [take2_inv hn, putBody, hl, List.append_assoc]
  · cases h

/-- What a list of 16-bit fields was read from. -/
theorem takePairs_inv {n : Nat} {l l' : List Byte} {cs} (h : takePairs n l = some (cs, l')) :
    l = (cs.flatMap fun c => put2 c.toNat) ++ l' ∧ cs.length = n := by
  induction n generalizing l cs l' with
  | zero => cases h; simp
  | succ n ih =>
    unfold takePairs at h
    split at h
    next v rest hv =>
      split at h
      next vs rest' hr =>
        cases h
        obtain ⟨rfl, rfl⟩ := ih hr
        simp [take2_inv hv]
      · cases h
    · cases h

/-- What a channel list was read from. -/
theorem takeChannels_inv {l l' : List Byte} {d} (h : takeChannels l = some (d, l')) : l = putChannels d ++ l' := by
  unfold takeChannels at h; split at h
  next n rest =>
    obtain ⟨rfl, hl⟩ := takePairs_inv h
    simp only [putChannels, put1, List.cons_append, List.nil_append, List.cons.injEq, and_true]
    rw [hl]; simp
  · cases h

/-- What an optional field was read from. -/
theorem takeOpt_inv {α : Type} {p : List Byte → Option (α × List Byte)} {f : α → List Byte}
    (hp : ∀ l a l', p l = some (a, l') → l = f a ++ l') {l l' : List Byte} {o : Option α}
    (h : takeOpt p l = some (o, l')) : l = putOpt f o ++ l' := by
  unfold takeOpt at h; split at h
  next b rest =>
    split at h
    · cases h; simp_all [putOpt]
    · split at h
      · simp only [Option.map_eq_some_iff] at h
        obtain ⟨⟨a, r⟩, ha, hh⟩ := h
        cases hh
        simp_all [putOpt, hp _ _ _ ha]
      · cases h
  · cases h

/-- What an optional octet was read from. -/
theorem takeOpt1_inv {l l' : List Byte} {o : Option Byte} (h : takeOpt take1 l = some (o, l')) :
    l = putOpt (fun b => [b]) o ++ l' :=
  takeOpt_inv (fun _ _ _ h => take1_inv h) h

/-- A reading that left nothing. -/
theorem whole_inv {α : Type} {o : Option (α × List Byte)} {a} (h : whole o = some a) : o = some (a, []) := by
  unfold whole at h; split at h
  · cases h; rfl
  · cases h

/-- A reading followed by another. -/
theorem andThen_inv {α β : Type} {p : Option (α × List Byte)} {f : α → List Byte → Option β} {b} (h : andThen p f = some b) :
    ∃ a l, p = some (a, l) ∧ f a l = some b := by
  unfold andThen at h; split at h
  · exact ⟨_, _, rfl, h⟩
  · cases h

/-- A request without fields. -/
theorem noFields_inv {r r' : Request} {l} (h : noFields r l = some r') : l = [] ∧ r = r' := by
  unfold noFields at h; split at h <;> simp_all

/-- A last field that left nothing. -/
theorem map_whole_inv {α : Type} {o : Option (α × List Byte)} {g : α → Request} {r} (h : (whole o).map g = some r) :
    ∃ a, o = some (a, []) ∧ g a = r := by
  simp only [Option.map_eq_some_iff] at h
  obtain ⟨a, ha, hg⟩ := h
  exact ⟨a, whole_inv ha, hg⟩

/-- A code by its value. -/
theorem code_eq {c : Byte} {n : Nat} (h : c.toNat = n) : c = BitVec.ofNat 8 n := by subst h; simp

end Sys2Proof
end

