-- ==== Sys2Proof/Laws/Measure.lean ====
section
/-! SUPPORT. The measurement unit: what a sample of an entry leaves of the rounds of both subscriptions (R67, R70). -/

namespace Sys2Proof.Machine

open Sys2Proof

@[simp] theorem Round.sampled_bare (i : Nat) (serves : Bool) (r : Round) : (r.sampled i serves).bare = r.bare := rfl

@[simp] theorem Round.sampled_serving (i : Nat) (r : Round) : (r.sampled i true).serving = some (r.serving.getD true) := rfl

@[simp] theorem Round.sampled_serving_kept (i : Nat) (r : Round) : (r.sampled i false).serving = r.serving := rfl

/-- A round without an open attempt on the entry stays as it is. -/
theorem Round.sampled_eq_self (i : Nat) (serves : Bool) (r : Round) (hs : serves = true → r.serving ≠ none)
    (ha : ∀ t ∈ r.attempts, t.entry = i → t.ended ≠ none) : r.sampled i serves = r := by
  have h : (r.attempts.map fun t => if t.entry = i ∧ t.ended = none then { t with ended := some true } else t) = r.attempts :=
    (List.map_congr_left (g := id) fun t ht => if_neg fun hc => ha t ht hc.1 hc.2).trans (List.map_id _)
  obtain ⟨attempts, serving, bare⟩ := r
  cases serves with
  | false => simp_all [Round.sampled]
  | true => cases serving <;> simp_all [Round.sampled]

/-- R67: the rounds of the subscription after a sample, in which nothing is open on the entry any more. -/
theorem State.endTries_rounds (s : State) (x : Sub) (i : Nat) (serves : Bool) :
    ((s.endTries x i serves).measOf x).rounds = (s.measOf x).rounds.map (Round.sampled i serves) := by
  unfold State.endTries
  split
  · simp [State.measOf]
  · rename_i h
    refine ((List.map_congr_left (g := id) fun r hr => Round.sampled_eq_self i serves r ?_ ?_).trans (List.map_id _)).symm
    · intro hs hn; exact h (List.any_eq_true.mpr ⟨r, hr, by simp [hs, hn]⟩)
    · intro t ht he hn
      exact h (List.any_eq_true.mpr ⟨r, hr, by simp only [Bool.or_eq_true, List.any_eq_true]; exact .inr ⟨t, ht, by simp [he, hn]⟩⟩)

/-- R67: the other subscription's rounds stand. -/
@[simp] theorem State.endTries_other (s : State) (x : Sub) (i : Nat) (serves : Bool) :
    (s.endTries x i serves).measOf x.other = s.measOf x.other := by
  unfold State.endTries; split <;> simp [State.measOf]

@[simp] theorem State.endTries_entries (s : State) (x : Sub) (i : Nat) (serves : Bool) :
    (s.endTries x i serves).meas.entries = s.meas.entries := by
  unfold State.endTries; split <;> rfl

@[simp] theorem State.unbind_measOf (s : State) (w : WinId) (x : Sub) : (s.unbind w).measOf x = s.measOf x := by
  unfold State.unbind; split <;> rfl

/-- R67, R70: a sample of an entry ends every open attempt on it, of both subscriptions; the serving attempts where the entry is
serving, but for the subscription whose own DED_RX level it is. -/
theorem State.sampleEntered_rounds (s : State) (i sample : Nat) (dedicated : Option Sub) (e : Entry) (h : s.entry i = some e)
    (x : Sub) : ((s.sampleEntered i sample dedicated).measOf x).rounds =
      (s.measOf x).rounds.map (Round.sampled i (e.serving.get x && decide (dedicated ≠ some x))) := by
  unfold State.sampleEntered
  simp only [h]
  rw [foldl_keeps (fun t : State => t.measOf x) State.unbind _ _ fun t w => State.unbind_measOf t w x]
  cases x with
  | A => exact congrArg MeasSub.rounds (State.endTries_other _ .B i _) |>.trans (State.endTries_rounds _ .A i _)
  | B =>
    refine (State.endTries_rounds _ .B i _).trans (congrArg (List.map _) ?_)
    exact congrArg MeasSub.rounds (State.endTries_other _ .A i _)

end Sys2Proof.Machine
end

