-- ==== Sys2Proof/Laws/Store.lean ====
section
/-! SUPPORT. The reports a store operation raises: what the examinations of room and of reclaim can change, and that nothing else
changes when they are taken. -/

namespace Sys2Proof.Machine

open Sys2Proof

/-- Every entry of an outbox after a posting was there before, or is of the posted kind and key. -/
theorem mem_postIn_iff (snap : Snapshot) (flags : BitVec 16) (out : List Notice) (n : Notice) (h : n.snapshot.key ≠ snap.key) :
    n ∈ postIn snap flags out ↔ n ∈ out := by
  induction out with
  | nil => simp only [postIn, List.mem_singleton, List.not_mem_nil, iff_false]; rintro rfl; exact h rfl
  | cons a l ih =>
    unfold postIn
    split
    next hk =>
      simp only [List.mem_cons]
      constructor
      · rintro (rfl | hm)
        · exact absurd rfl h
        · exact .inr hm
      · rintro (rfl | hm)
        · exact absurd hk h
        · exact .inr hm
    next hk => simp only [List.mem_cons, ih]

theorem State.examined_refl (s : State) : s.examined s := ⟨rfl, fun _ => rfl, .inl rfl, fun _ _ => Iff.rfl⟩

/-- Whether a step stands is a matter of the running operation and the queue alone. -/
theorem Store.stepping_congr {a b : Store} (hr : a.running = b.running) (hq : a.queue = b.queue) : a.stepping = b.stepping := by
  unfold Store.stepping Store.ops; rw [hr, hq]

/-- A step at the end of the queue stands. -/
theorem Store.stepping_snoc {a b : Store} {o : StoreOp} (ho : o.isStep = true) (hq : a.queue = b.queue ++ [o]) :
    a.stepping = true := by
  unfold Store.stepping Store.ops
  rw [List.any_eq_true]
  refine ⟨o, ?_, by simp [ho]⟩
  split <;> simp [hq]

theorem State.examined_trans {s t u : State} (h : s.examined t) (k : t.examined u) : s.examined u := by
  obtain ⟨h1, h2, h3, h4⟩ := h
  obtain ⟨k1, k2, k3, k4⟩ := k
  have hrun : t.store.running = s.store.running := by rw [h1]
  refine ⟨?_, fun hr => ?_, ?_, fun n hn => (k4 n hn).trans (h4 n hn)⟩
  · rw [k1, h1]
  · have := h2 hr; rw [k2 (this ▸ hr), this]
  · rcases k3 with k3 | ⟨k3, o, ho, kq⟩
    · rw [k3]; exact h3
    · rcases h3 with h3 | ⟨_, p, hp, hq⟩
      · exact .inr ⟨(Store.stepping_congr hrun h3).symm.trans k3, o, ho, by rw [kq, h3]⟩
      · rw [Store.stepping_snoc hp hq] at k3; cases k3

/-- Reports waiting are no part of what the examinations change. -/
theorem State.examined_reports {s t : State} (h : s.examined t) (rs : List Report) :
    State.examined { s with reports := rs } { t with reports := rs } := by
  obtain ⟨h1, h2, h3, h4⟩ := h
  exact ⟨by rw [h1], h2, h3, h4⟩

/-- The STORE notice posted. -/
theorem State.postStore_examined (s : State) (flags : BitVec 16) : s.examined (s.postStore flags) :=
  ⟨rfl, fun _ => rfl, .inl rfl, fun n hn => mem_postIn_iff _ _ _ n hn⟩

theorem State.examineSpace_examined (s : State) : s.examined s.examineSpace := by
  unfold State.examineSpace
  simp only
  split
  · exact State.examined_trans (t := s.modStore _) ⟨rfl, fun _ => rfl, .inl rfl, fun _ _ => Iff.rfl⟩
      (State.postStore_examined _ _)
  · exact s.examined_refl

theorem State.examineSpace_store (s : State) : ∃ b, s.examineSpace.store = { s.store with roomy := b } := by
  unfold State.examineSpace
  simp only
  split
  · exact ⟨_, rfl⟩
  · exact ⟨s.store.roomy, rfl⟩

/-- The block chosen is a candidate of the list it is chosen from. -/
theorem Store.mostDeleted_mem {st : Store} {l : List Nat} {b : Nat} (h : st.mostDeleted l = some b) : b ∈ l := by
  induction l generalizing b with
  | nil => cases h
  | cons a l ih =>
    unfold Store.mostDeleted at h
    split at h
    next c hc =>
      split at h
      · cases h; exact List.mem_cons_self
      · cases h; exact List.mem_cons_of_mem _ (ih hc)
    next => cases h; exact List.mem_cons_self

/-- R161: a block chosen for reclaim that has a message to move leaves a usable slot outside it. -/
theorem Store.reclaimChoice_room {st : Store} {b : Nat} (h : st.reclaimChoice = some b)
    (hm : ({ st with reclaim := some b } : Store).toMove b ≠ []) :
    ({ st with reclaim := some b } : Store).usableCount ≠ 0 := by
  have hlive : st.countIn b .live ≠ 0 := by
    intro h0
    apply hm
    unfold Store.toMove
    rw [List.filter_eq_nil_iff]
    intro p hp
    obtain ⟨i, hi, rfl⟩ := List.mem_map.1 hp
    unfold Store.countIn at h0
    rw [List.countP_eq_zero] at h0
    have := h0 i hi
    simp only [decide_eq_true_eq] at this
    have e : ({ st with reclaim := some b } : Store).stateAt { block := b, slot := i } = st.stateAt { block := b, slot := i } := rfl
    simp [e, this]
  have hout : st.countIn b .live ≤ st.usableOutside b := by
    unfold Store.reclaimChoice at h
    simp only at h
    split at h
    next c hc =>
      cases h
      have := Store.mostDeleted_mem hc
      rw [List.mem_filter] at this
      exact absurd (of_decide_eq_true this.2) hlive
    next =>
      have := Store.mostDeleted_mem h
      rw [List.mem_filter] at this
      exact of_decide_eq_true this.2
  have hpos : 0 < st.usableOutside b := by omega
  unfold Store.usableOutside at hpos
  rw [List.countP_pos_iff] at hpos
  obtain ⟨p, hp, hu⟩ := hpos
  simp only [Bool.and_eq_true, decide_eq_true_eq] at hu
  have : 0 < ({ st with reclaim := some b } : Store).usableCount := by
    unfold Store.usableCount
    rw [List.countP_pos_iff]
    refine ⟨p, hp, ?_⟩
    have hu2 := hu.2
    unfold Store.usable at hu2 ⊢
    simp only [Bool.and_eq_true, decide_eq_true_eq] at hu2 ⊢
    exact ⟨hu2.1, by simpa using fun h => hu.1 h.symm⟩
  omega

/-- R161: what an examination of reclaim does: nothing, or a reclaim begins, which is not stuck. -/
theorem State.examineReclaim_cases (s : State) : s.examineReclaim = s ∨
    (s.store.reclaim = none ∧ ∃ b, s.examineReclaim.store = { s.store with reclaim := some b } ∧
      State.examined { s with reports := s.reports ++ [.storeChanged] } s.examineReclaim ∧ ¬s.examineReclaim.store.stuck) := by
  unfold State.examineReclaim
  split
  next h =>
    split
    next b hb =>
      refine .inr ⟨h.2.2.1, b, rfl, ?_, ?_⟩
      · exact State.examined_trans (t := (s.storeNow fun st => { st with reclaim := some b }))
          ⟨rfl, fun hr => absurd h.2.2.1 hr, .inl rfl, fun _ _ => Iff.rfl⟩ (State.postStore_examined _ _)
      · rintro ⟨c, hc, _, hm, h0⟩
        cases hc
        exact Store.reclaimChoice_room hb hm h0
    next => exact .inl rfl
  next => exact .inl rfl

/-- R162: a plan of the next step, when the reclaim is not stuck: nothing, or a step joins the queue. -/
theorem State.planReclaim_cases (s : State) (hs : ¬s.store.stuck) : s.planReclaim = s ∨
    (s.store.stepping = false ∧ s.planReclaim.store.stepping = true ∧
      (State.examined s s.planReclaim ∨ State.examined { s with reports := s.reports ++ [.storeChanged] } s.planReclaim)) := by
  unfold State.planReclaim
  split
  next b hb =>
    split
    next => exact .inl rfl
    next hst =>
      have hst : s.store.stepping = false := by simpa using hst
      split
      next hstep =>
        split
        next p ps t hp ht =>
          exact .inr ⟨hst, Store.stepping_snoc (b := s.store) (o := .relocCopy _ p t false) rfl rfl, .inr
            ⟨rfl, fun _ => rfl, .inr ⟨hst, _, rfl, rfl⟩, fun _ _ => Iff.rfl⟩⟩
        next hn =>
          exfalso
          have hm : s.store.toMove b ≠ [] := by
            unfold Store.reclaimStep at hstep
            split at hstep
            · assumption
            · split at hstep <;> cases hstep
          obtain ⟨p, ps, hp⟩ := List.exists_cons_of_ne_nil hm
          cases hf : allSlots.find? s.store.usable with
          | some t => exact hn p ps t hp hf
          | none =>
            refine hs ⟨b, hb, hst, hm, ?_⟩
            unfold Store.usableCount
            rw [List.countP_eq_zero]
            simpa using List.find?_eq_none.1 hf
      next =>
        exact .inr ⟨hst, Store.stepping_snoc (b := s.store) (o := .erase b false) rfl rfl, .inl
          ⟨rfl, fun _ => rfl, .inr ⟨hst, _, rfl, rfl⟩, fun _ _ => Iff.rfl⟩⟩
      next => exact .inl rfl
  next => exact .inl rfl

/-- Usable slots that rise in number ask for nothing while no subscription has memory-full-signalled set and no entry is
UNWRITTEN. -/
theorem State.usableRose_idle (s : State) (hm : ∀ x, (s.sub x).memoryFull = false)
    (ht : ∀ e ∈ s.text.table, e.unwritten = false) : s.usableRose = s := by
  have hf : ∀ (l : List Reassembly), (∀ e ∈ l, e.unwritten = false) → l.foldl State.giveSlot s = s := by
    intro l
    induction l with
    | nil => intro _; rfl
    | cons a l ih =>
      intro h
      have : State.giveSlot s a = s := by unfold State.giveSlot; simp [h a List.mem_cons_self]
      rw [List.foldl_cons, this]
      exact ih fun e he => h e (List.mem_cons_of_mem _ he)
  unfold State.usableRose
  rw [hf _ ht]
  simp [State.wantsStoreReady, hm]

/-- How much the examinations can still bring about. -/
def Store.toCome (st : Store) : Nat := (if st.reclaim = none then 1 else 0) + if st.stepping = false then 1 else 0

/-- A reclaim with a step standing is not stuck. -/
theorem Store.not_stuck_of_stepping {st : Store} (h : st.stepping = true) : ¬st.stuck := by
  rintro ⟨_, _, h', _⟩; rw [h] at h'; cases h'

/-- One report of a change of the store: the examinations, and the reports they raise in turn. -/
theorem State.storeChanged_examined (s : State) (hs : ¬s.store.stuck) :
    ∃ rs : List Report, (∀ r ∈ rs, r = .storeChanged) ∧ (s.takeReport .storeChanged).reports = s.reports ++ rs ∧
      State.examined { s with reports := s.reports ++ rs } (s.takeReport .storeChanged) ∧
      ¬(s.takeReport .storeChanged).store.stuck ∧
      rs.length + (s.takeReport .storeChanged).store.toCome ≤ s.store.toCome := by
  change ∃ rs : List Report, _ ∧ s.examineSpace.examineReclaim.planReclaim.reports = _ ∧
    State.examined _ s.examineSpace.examineReclaim.planReclaim ∧ ¬s.examineSpace.examineReclaim.planReclaim.store.stuck ∧
      _ + s.examineSpace.examineReclaim.planReclaim.store.toCome ≤ _
  have ha := State.examineSpace_examined s
  obtain ⟨b, hb⟩ := State.examineSpace_store s
  have hsa : ¬s.examineSpace.store.stuck := by rw [hb]; exact hs
  have ca : s.examineSpace.store.toCome = s.store.toCome := by rw [hb]; rfl
  have ra : s.examineSpace.reports = s.reports := by rw [ha.1]
  generalize s.examineSpace = a at *
  -- the examination of reclaim
  have hc : ∃ rs : List Report, (∀ r ∈ rs, r = .storeChanged) ∧ a.examineReclaim.reports = s.reports ++ rs ∧
      State.examined { s with reports := s.reports ++ rs } a.examineReclaim ∧ ¬a.examineReclaim.store.stuck ∧
      rs.length + a.examineReclaim.store.toCome ≤ s.store.toCome := by
    rcases a.examineReclaim_cases with h | ⟨h0, c, h1, h2, h3⟩
    · rw [h]
      refine ⟨[], by simp, by simpa using ra, ?_, hsa, by simp [ca]⟩
      simpa using ha
    · have hrep : a.examineReclaim.reports = s.reports ++ [.storeChanged] := by rw [h2.1]; simp [ra]
      refine ⟨[.storeChanged], by simp, hrep, ?_, h3, ?_⟩
      · have := State.examined_reports ha (s.reports ++ [Report.storeChanged])
        rw [ra] at h2
        exact State.examined_trans this h2
      · rw [h1, ← ca]; simp only [Store.toCome, h0, List.length_singleton]
        have : ({ a.store with reclaim := some c } : Store).stepping = a.store.stepping := rfl
        rw [this]; simp
  obtain ⟨rs, h1, h2, h3, h4, h5⟩ := hc
  generalize a.examineReclaim = v at *
  rcases v.planReclaim_cases h4 with h | ⟨k0, k1, k2⟩
  · rw [h]; exact ⟨rs, h1, h2, h3, h4, h5⟩
  · have hn := Store.not_stuck_of_stepping k1
    rcases k2 with k | k
    · refine ⟨rs, h1, by rw [k.1]; exact h2, State.examined_trans h3 k, hn, ?_⟩
      have : v.planReclaim.store.toCome ≤ v.store.toCome := by
        unfold Store.toCome; rw [k0, k1]
        by_cases hr : v.store.reclaim = none
        · rw [if_pos hr]; split <;> simp
        · rw [if_neg hr, k.2.1 hr, if_neg hr]; simp
      omega
    · refine ⟨rs ++ [.storeChanged], by simp only [List.mem_append, List.mem_singleton]; exact fun r h => h.elim (h1 r) id, by rw [k.1]; simp [h2], ?_, hn, ?_⟩
      · rw [← List.append_assoc]
        have := State.examined_reports h3 (s.reports ++ rs ++ [Report.storeChanged])
        rw [h2] at k
        exact State.examined_trans this k
      · have : 1 + v.planReclaim.store.toCome ≤ v.store.toCome := by
          unfold Store.toCome; rw [k0, k1]
          have kr := k.2.1
          by_cases hr : v.store.reclaim = none
          · rw [if_pos hr]; split <;> simp
          · rw [if_neg hr, kr hr, if_neg hr]; simp
        rw [List.length_append, List.length_singleton]; omega

/-- A command that raised only the store's own reports: they change only what the examinations may. -/
theorem drain_examined (n : Nat) (s : State) (hr : ∀ r ∈ s.reports, r = .storeChanged ∨ r = .usableRose)
    (hs : ¬s.store.stuck) (hn : s.reports.length + s.store.toCome ≤ n)
    (hm : (∀ x, (s.sub x).memoryFull = false) ∨ Report.usableRose ∉ s.reports)
    (ht : (∀ e ∈ s.text.table, e.unwritten = false) ∨ Report.usableRose ∉ s.reports) :
    State.examined { s with reports := [] } (s.drain n) := by
  induction n generalizing s with
  | zero =>
    have : s.reports = [] := List.length_eq_zero_iff.1 (by omega)
    have e : ({ s with reports := [] } : State) = s := by rw [← this]
    rw [e]; exact s.examined_refl
  | succ n ih =>
    cases hs' : s.reports with
    | nil =>
      have e : ({ s with reports := [] } : State) = s := by rw [← hs']
      have d : s.drain (n + 1) = s := by unfold State.drain; rw [hs']
      rw [e, d]; exact s.examined_refl
    | cons r rest =>
      have d : s.drain (n + 1) = State.drain n ({ s with reports := rest }.takeReport r) := by
        conv_lhs => unfold State.drain
        rw [hs']
      rw [d]
      rw [hs'] at hr hn hm ht
      simp only [List.length_cons] at hn
      have key : ∃ rs : List Report, (∀ r ∈ rs, r = .storeChanged) ∧
          ({ s with reports := rest }.takeReport r).reports = rest ++ rs ∧
          State.examined { s with reports := rest ++ rs } ({ s with reports := rest }.takeReport r) ∧
          ¬({ s with reports := rest }.takeReport r).store.stuck ∧
          rs.length + ({ s with reports := rest }.takeReport r).store.toCome ≤ s.store.toCome := by
        rcases hr r List.mem_cons_self with rfl | rfl
        · exact State.storeChanged_examined { s with reports := rest } hs
        · have hm' : ∀ x, (s.sub x).memoryFull = false := hm.resolve_right (by simp)
          have ht' : ∀ e ∈ s.text.table, e.unwritten = false := ht.resolve_right (by simp)
          have : State.takeReport { s with reports := rest } .usableRose = { s with reports := rest } :=
            State.usableRose_idle _ hm' ht'
          rw [this]; exact ⟨[], by simp, by simp, by simpa using State.examined_refl _, hs, by simp⟩
      obtain ⟨rs, k1, k2, k3, k4, k5⟩ := key
      generalize ({ s with reports := rest } : State).takeReport r = t at *
      have hsub : t.subs = s.subs := by rw [k3.1]
      have htab : t.text = s.text := by rw [k3.1]
      have := ih t
        (fun q hq => by
          rw [k2] at hq
          rcases List.mem_append.1 hq with hq | hq
          · exact hr q (List.mem_cons_of_mem _ hq)
          · exact .inl (k1 q hq))
        k4 (by rw [k2, List.length_append]; omega)
        (by
          rcases hm with hm | hm
          · left; intro x; have := hm x; unfold State.sub at this ⊢; rw [hsub]; exact this
          · right; rw [k2]; intro h
            rcases List.mem_append.1 h with h | h
            · exact hm (List.mem_cons_of_mem _ h)
            · exact absurd (k1 _ h) (by simp))
        (by
          rcases ht with ht | ht
          · left; rw [htab]; exact ht
          · right; rw [k2]; intro h
            rcases List.mem_append.1 h with h | h
            · exact ht (List.mem_cons_of_mem _ h)
            · exact absurd (k1 _ h) (by simp))
      exact State.examined_trans (State.examined_reports k3 []) this

/-- The examinations bring about two reports at most. -/
theorem Store.toCome_le (st : Store) : st.toCome ≤ 2 := by unfold Store.toCome; split <;> split <;> omega

/-- The outcome of a command that raised no report but that the store changed. -/
theorem settle_examined {s : State} (hr : ∀ r ∈ s.reports, r = .storeChanged) (hs : ¬s.store.stuck)
    (hn : s.reports.length + 2 ≤ settleBound) :
    ∃ t : State, settle s = .next t ∧ State.examined { s with reports := [] } t :=
  ⟨_, rfl, drain_examined _ s (fun r h => .inl (hr r h)) hs (by have := s.store.toCome_le; omega)
    (.inr fun h => by cases hr _ h) (.inr fun h => by cases hr _ h)⟩

/-- The same with usable slots that rose in number, while nothing waits for them. -/
theorem settle_examined_rose {s : State} (hr : ∀ r ∈ s.reports, r = .storeChanged ∨ r = .usableRose) (hs : ¬s.store.stuck)
    (hn : s.reports.length + 2 ≤ settleBound) (hm : ∀ x, (s.sub x).memoryFull = false)
    (ht : ∀ e ∈ s.text.table, e.unwritten = false) :
    ∃ t : State, settle s = .next t ∧ State.examined { s with reports := [] } t :=
  ⟨_, rfl, drain_examined _ s hr hs (by have := s.store.toCome_le; omega) (.inl hm) (.inl ht)⟩

/-- A store without a reclaim in progress is not stuck. -/
theorem Store.not_stuck_of_none {st : Store} (h : st.reclaim = none) : ¬st.stuck := by
  rintro ⟨_, h', _⟩; rw [h] at h'; cases h'

end Sys2Proof.Machine
end

