-- ==== Sys2Proof/Tests/Slice0.lean ====
section
/-! SUPPORT. Tests of the model: ill-formed commands are refused, worked examples of the specification, and for every statement
that has hypotheses a state and operands that meet them, clause by clause. -/

namespace Sys2Proof.Tests

open Sys2Proof Sys2Proof.Machine

/-! ## States to test on -/

/-- A part that has started and does nothing. -/
def up : State := { State.reset with power := { Power.reset .powerOn with operating := true, held := false } }

/-- The state with one request in its inbox. -/
def asks (s : State) (tag : Byte) (r : Request) : State := { s with link := { s.link with inbox := [{ tag := tag, request := r }] } }

/-- A request can be dispatched on a part that has started, whatever the other blocks hold. -/
theorem asks_accepts (s : State) (tag : Byte) (r : Request) (hp : s.power = up.power) (hl : s.link = up.link) :
    (asks s tag r).accepts tag r := by
  refine ⟨?_, ?_, rfl⟩ <;> unfold asks
  · unfold State.mayDispatch State.awake State.replyRoom; rw [hp, hl]; rfl
  · rw [hp]; rfl

/-- The state with a receiver in a frame. -/
def inFrame (s : State) (octets : List Byte) : State := { s with link := { s.link with receiver := .inFrame octets } }

def cellA : CellId := { channel := 5, code := 1 }
def campedA : CampedCell :=
  { cell := cellA, area := 7, anchor := { s0 := 0, f0 := 0 }, lastBeacon := 0
    params := { barred := false, listen := 1, depth := 2, hysteresis := 3, trigger := 1, floor := 20, tolerance := 8, time := 9 } }

/-- Subscription A with a record. -/
def withA (s : State) (r : SubRec) : State := { s with subs := s.subs.set .A r }

/-- Subscription A in a state, with two channels. -/
def subA (st : SubState) : State := withA up { SubRec.reset with state := st, identity := some 70000, key := some 4464, channels := [5, 9] }

/-- A connection of subscription A with purposes. -/
def conn (ps : List Purpose) : Context :=
  { sub := .A, cell := cellA, area := 7, areaConfirmed := true, s0 := 0, f0 := some 0, rx := 2, tx := 6, purposes := ps
    counter := none, role := .active }

/-- Call 1 of subscription A in a state. -/
def call1 (st : CallState) (arrived answered : Bool) (timer : Option Slot) : State :=
  let s := withA up { SubRec.reset with state := .engaged, camped := some campedA, identity := some 70000 }
  { s with
    engaged := some { sub := .A, stage := .connected }, ctx := { s.ctx with active := some (conn [.call]) }
    calls := { s.calls with one := { CallRec.reset with
      sub := some .A, direction := some .incoming, state := st, arrived := arrived, answered := answered, timer := timer } } }

/-- An outbox entry of subscription A, reference 9, destination 12. -/
def outEntry (st : OutState) (parts : Nat) : OutEntry :=
  { sub := .A, destination := [1, 2], reference := 9, next := if st = .assembling then some (parts + 1) else none
    count := if st = .assembling then none else some parts, parts := List.replicate parts [], state := st, order := 0
    attempts := 0, part := if st = .sending then some 1 else none, sends := if st = .sending then 1 else 0
    assembly := if st = .assembling then some 0 else none, wait := if st = .sending then .running 0 else .stopped
    outcome := none, ended := 0 }

/-- The store with the blocks of a count protected from block 0 up. -/
def protecting (count : Nat) (s : State) : State :=
  { s with store := { s.store with descriptor := { Descriptor.default with count := count } } }

/-- A window of the subscription controller for subscription A. -/
def window (p : WinPurpose) : Window :=
  { id := 1, owner := .sub .A, reporter := .subscription, purpose := p, cls := .page, channel := 5, start := 140, len := 2
    requested := 140, slack := none, block := none, state := .planned, withdrawn := false }

/-! ## Ill-formed commands (R177, R185, R11, R130) -/

theorem test_dial_of_250_digits_is_ill_formed : (Instr.callDial 1 0 (List.replicate 250 1)).wellFormed = false := by decide +kernel
theorem test_dial_of_249_digits_is_well_formed : (Instr.callDial 1 0 (List.replicate 249 1)).wellFormed = true := by decide +kernel
theorem test_load_of_123_channels_is_ill_formed : (Instr.subLoad 1 0 7 (List.replicate 123 5)).wellFormed = false := by decide +kernel
theorem test_query_row_naming_a_target_is_ill_formed : (Instr.powerSetQuery 1 (some 2)).wellFormed = false := by decide
theorem test_short_speech_block_is_ill_formed :
    (Instr.frontEndResult 0 (.block (.voice 4 (List.replicate 19 0)) 100)).wellFormed = false := by decide
theorem test_port_frame_of_20_octets_is_ill_formed :
    (Instr.uplinkBlockReceived (List.replicate 20 0)).wellFormed = false := by decide
theorem test_age_expiry_without_a_sender_is_ill_formed : (Instr.ageTimerExpiry .A [] 3).wellFormed = false := by decide
theorem test_age_expiry_of_reference_256_is_ill_formed : (Instr.ageTimerExpiry .A [1] 256).wellFormed = false := by decide

/-! ## Worked values of the specification -/

/-- R46: the table's five pairs. -/
def win (channel : Nat) (start : Slot) (len : Nat) : Window :=
  { id := 0, owner := .part, reporter := .measurement, purpose := .meas, cls := .meas, channel := channel, start := start
    len := len, requested := start, slack := none, block := none, state := .planned, withdrawn := false }

theorem test_conflict_table : conflict (win 5 100 2) (win 5 102 1) = false ∧ conflict (win 5 100 2) (win 9 102 1) = true ∧
    conflict (win 5 100 2) (win 9 103 1) = false ∧ conflict (win 5 100 10) (win 5 104 1) = true ∧
    conflict (win 9 99 1) (win 5 100 2) = true := by decide

/-- R71: the table of steps. -/
theorem test_filter_steps : [(-240, 2), (-6, 2), (6, 2), (-107, 2), (1, 5), (16, 5)].map (fun p : Int × Nat => filterStep p.1 p.2) =
    [-60, -2, 2, -27, 0, 1] := by decide

/-- R131: an underrun during hold at the second repeat is 0x75. -/
theorem test_status_octet_of_an_underrun_in_hold : statusOctet .held 2 none = 0x75 := by decide

/-- R158: count 0 with invert protects all 16 blocks; HIGH counts from block 15 down. -/
theorem test_protection : (List.range 16).all (Descriptor.protects { high := false, count := 0, invert := true }) = true ∧
    (List.range 16).filter (Descriptor.protects { high := true, count := 2, invert := false }) = [14, 15] := by decide

/-- R153: numbers move from 65535 to 1. -/
theorem test_numbers_wrap : wrapNumber 65536 = 1 ∧ wrapNumber 65535 = 65535 := by decide

/-- R179, 11.5: the frame C3 04 01 07 14 00 is SUB_QUERY of subscription A under tag 7. -/
theorem test_frame_of_a_sub_query :
    exec (.requestArrival 0x00) (inFrame up [0x04, 0x01, 0x07, 0x14]) = .next (asks up 7 (.subQuery 0)) := rfl

/-- R185, 11.5: TEXT_SEND of one octet 0x41 to digits 12, reference 9, part 1, last, for subscription B. -/
theorem test_fields_of_a_text_send : parseRequest 0x30 [0x01, 0x02, 0x01, 0x02, 0x09, 0x01, 0x01, 0x00, 0x01, 0x41] =
    some (.textSend 1 [1, 2] 9 1 1 [0x41]) := by decide

/-- R185: a field that is missing and an octet too many are both malformed. -/
theorem test_fields_must_fit : parseRequest 0x14 [] = none ∧ parseRequest 0x14 [0, 0] = none := by decide

/-- R177, R181, R185: the frame of a reply without a result: whole numbers are big-endian. -/
theorem test_frame_of_a_reply :
    ({ tag := 7, code := 0x22, status := .done, stamp := 0x01020304, result := .none, sent := 0 } : Reply).segmentFrame 0 =
      [0xC3, 9, 0x02, 7, 0x22, 0, 0, 1, 2, 3, 4] := by decide

/-- R105, R78: a report that must wait again gives way to the newer one that waits. -/
theorem test_newer_report_replaces_the_one_that_waits_again :
    waitAgain [{ id := 3, msg := .measReport 1 [] }] [{ id := 4, msg := .ring }, { id := 5, msg := .measReport 2 [] }] =
      [{ id := 3, msg := .measReport 2 [] }, { id := 4, msg := .ring }] := by decide

/-- R28: the refresh in occasion frame 128, whose PAGE window was SKIPPED and gave way to the one of frame 256, is planned again in
frame 192; in occasion frame 256 that window reads it. -/
theorem test_refresh_after_a_skipped_page :
    let r : SubRec := { SubRec.reset with key := some 0, page := some (9, 256) }
    r.refreshFrame campedA 128 = 192 ∧ r.refreshFrame campedA 256 = 256 := by decide

/-- R69: with entry 0 open in the rounds of a connection and bound to a window of B, a further round begins for entry 1. -/
theorem test_rounds_go_on_beside_a_shared_window :
    let open_ (i : Nat) (w : WinId) (ended : Option Bool) : SampleTry := { entry := i, passed := true, window := some w, ended := ended }
    let r : Round := { attempts := [open_ 0 7 none, open_ 1 8 (some true)], serving := none, bare := false }
    let e (i : Nat) (w : Option WinId) : Entry :=
      { index := i, cell := { channel := 20 + i, code := i }, owner := .both true, serving := .both false, offset := .both 0, depth := 0
        level := none, rounds := 0, trigger := .both 0, bound := w }
    let s : State := { up with
      now := 100, cal := { up.cal with quiet := false }
      ctx := { up.ctx with active := some { conn [.call] with s0 := 50 } }
      meas := { up.meas with
        entries := [e 0 (some 7), e 1 none]
        subs := up.meas.subs.set .A { MeasSub.reset with mode := .dedicated, rounds := [r, r], dedNext := 60, dedHeld := true } } }
    ((s.planDedicated .A planTurns).measOf .A).rounds.length = 3 ∧
      (s.planDedicated .A planTurns).cal.windows.map (fun w => (w.channel, (w.start - 50).toNat % 10)) =
        [(21, measSlot (conn [.call]).rx (conn [.call]).tx)] ∧
      3 ≤ (s.planDedicated .A planTurns).cal.windows.foldl (fun n w => n + slotsTo 100 w.start) 0 := by
  decide +kernel

/-- R69: the windows for entry 2, the last of a round, and for entry 0, the first of the next, are SKIPPED at their insertion by two
windows already ORDERED: each ends at once, entry 1 keeps its window, and entry 2 is given a window in its turn. -/
theorem test_windows_skipped_at_insertion_end_at_once :
    let try_ (i : Nat) (passed : Bool) (w : Option WinId) (ended : Option Bool) : SampleTry :=
      { entry := i, passed := passed, window := w, ended := ended }
    let r : Round := { attempts := [try_ 0 true none (some true), try_ 1 true (some 1) none, try_ 2 false none none], serving := none, bare := false }
    let e (i : Nat) (w : Option WinId) : Entry :=
      { index := i, cell := { channel := 20 + i, code := i }, owner := .both true, serving := .both false, offset := .both 0, depth := 0
        level := none, rounds := 0, trigger := .both 0, bound := w }
    let block (i : WinId) (start : Slot) : Window := { win 90 start 1 with id := i, state := .ordered, cls := .access }
    let s : State := { up with
      now := 100, cal := { up.cal with quiet := false, windows := [{ win 21 110 1 with id := 1 }, block 2 120, block 3 130], counter := 9 }
      ctx := { up.ctx with active := some { conn [.call] with s0 := 50 } }
      meas := { up.meas with
        entries := [e 0 none, e 1 (some 1), e 2 none]
        subs := up.meas.subs.set .A { MeasSub.reset with
          mode := .dedicated, rounds := [r], dedWindows := [1], dedNext := 120, dedHeld := false } } }
    let t := s.planDedicated .A planTurns
    (t.cal.windows.map fun w => (w.channel, w.start.toNat)) = [(21, 110), (90, 120), (90, 130), (22, 140)] ∧
      t.meas.entries.map Entry.bound = [none, some 1, some 11] ∧ (t.measOf .A).dedWindows = [1, 11] ∧
      (t.reports.any fun q => q.skips 9 || q.skips 10) = false := by
  decide +kernel

/-- R63, R64: the eviction of the one entry with an open attempt ends the other subscription's round, which is evaluated before the
new entry is made. -/
theorem test_eviction_evaluates_the_round_it_empties :
    let e (i : Nat) : Entry :=
      { index := i, cell := { channel := 20 + i, code := i }, owner := ⟨false, true⟩, serving := .both false, offset := .both 0, depth := 0
        level := none, rounds := 3, trigger := .both 0, bound := none }
    let try_ (i : Nat) (ended : Option Bool) : SampleTry := { entry := i, passed := true, window := none, ended := ended }
    let s : State := { up with
      meas := { up.meas with
        entries := (List.range 24).map e
        subs := up.meas.subs.set .B { MeasSub.reset with
          mode := .idle, rounds := [{ attempts := [try_ 0 (some true), try_ 1 (some false), try_ 23 none], serving := some true, bare := false }] } } }
    let t := (s.addListed .A { cell := cellA, offset := 2 } 0).1
    (t.measOf .B).rounds = [] ∧ (t.entry 0).map Entry.rounds = some 0 ∧ (t.entry 1).map Entry.rounds = some 4 ∧
      (t.entry 2).map Entry.rounds = some 3 ∧ (t.entry 23).map Entry.cell = some cellA := by
  decide +kernel

/-- R2, R110: on the target, a grant list without the access's reference leaves a known frame number, and a matching one replaces it;
on the way back every block replaces it. -/
theorem test_blocks_of_an_access_replace_the_anchor :
    let g : Grant := { reference := 5, rx := 2, tx := 6 }
    let s (h : Handover) : State := { up with ctx := { up.ctx with active := some (conn [.call]), handover := h } }
    let a : Access := { reference := 9, deadline := 4, base := 0, frames := [] }
    let b : Block := .grant 77 [g]
    (s (.moving a)).replacesAnchor b none = false ∧ (s (.moving a)).replacesAnchor b (some g) = true ∧
      (s (.moving a)).replacesAnchor (.sig 77 none) none = true ∧ (s (.returning a)).replacesAnchor b none = true ∧
      ((s (.moving a)).learnFrame 112 77 true).ctx.active.map (fun c => (c.s0, c.f0)) = some (110, some 77) := by
  decide +kernel

/-! ## States that meet the hypotheses of the statements: the machine, the link, the power controller -/

theorem witness_StepRunsTheFrontCommand :
    ({ up with pending := [.startupEnd, .powerOn] } : State).pending = .startupEnd :: [.powerOn] := rfl

theorem witness_AnIdleStepLetsOneSlotPass : State.reset.pending = [] ∧ State.reset.nextEvent = none ∧ State.reset.power.held = true ∧
    up.pending = [] ∧ up.nextEvent = none ∧ up.power.held = false ∧ up.power.state ≠ .dormant := by
  and_intros <;> first | decide | rfl

theorem witness_OnlyItsOwnCommandsMoveThePowerController :
    Instr.movesPower .characterError = false ∧ ∃ t, exec .characterError up = .next t := ⟨rfl, _, rfl⟩

theorem witness_OnlyStoreOperationsChangeTheMemory :
    Instr.writesMemory .characterError = false ∧ ∃ t, exec .characterError up = .next t := ⟨rfl, _, rfl⟩

theorem witness_CommandsTakeNoTime :
    Instr.restartsTime .characterError = false ∧ ∃ t, exec .characterError up = .next t := ⟨rfl, _, rfl⟩

theorem up_is_legal : up.legal := by
  refine ⟨⟨by decide, by decide, by decide⟩, ⟨by decide, by decide, trivial, by decide⟩, ⟨List.Pairwise.nil, by decide⟩,
    ⟨by decide, by decide, by decide, by decide, by intro x; cases x <;> decide⟩, ⟨by decide, by decide⟩,
    ⟨by decide, by decide, by decide, by decide, by decide, by decide⟩,
    ⟨by decide, by decide, by decide, by decide⟩, ⟨by decide, by simp [up, State.reset, CtxUnit.reset], by simp [up, State.reset,
      CtxUnit.reset]⟩, ⟨?_, by decide, by simp [up, State.reset, CtxUnit.reset]⟩, ?_, by intro x; cases x <;> decide⟩
  · intro x; cases x <;> simp [up, State.reset, State.sub, Two.get, Two.both, SubRec.reset]
  · intro i h; cases i <;> exact absurd h (by decide)

theorem witness_StepsKeepTheStateLegal : up.legal ∧ ∃ t, step { up with pending := [.lineBreak] } = .next t :=
  ⟨up_is_legal, _, rfl⟩

theorem witness_RequestsAreReadBack : (Request.subAttach 0).wellFormed = true ∧
    (Request.subLoad 0 7 (List.replicate 122 5)).wellFormed = true := by
  and_intros <;> decide +kernel

theorem witness_NothingElseSpellsARequest : parseRequest 0x01 [] = some .identify := rfl

theorem witness_AnOctetIsSkippedBeginsAFrameOrIsStored : up.awake = true ∧ up.quiet ∧ up.link.receiver = .hunting ∧
    (inFrame up []).link.receiver = .inFrame [] ∧ 3 ≤ (3 : Byte).toNat ∧ (inFrame up [4, 1, 1]).quiet ∧
    [(1 : Byte), 1].length + 1 ≠ (4 : Byte).toNat ∧ ((4 : Byte) ≠ 255) := by
  and_intros <;> first | decide | rfl

theorem witness_AFrameOfABadLengthIsDiscarded : (inFrame up []).awake = true ∧ (inFrame up []).quiet ∧ (2 : Byte).toNat < 3 ∧
    (inFrame up (255 :: List.replicate 253 0)).awake = true ∧ (List.replicate 253 (0 : Byte)).length = 253 := by
  and_intros <;> first | decide +kernel | rfl

theorem witness_ACompleteFrameIsAdmittedAnsweredOrDropped :
    let s := inFrame up [4, 0x01, 7, 0x14]
    let full : State := { s with link := { s.link with inbox := List.replicate 4 { tag := 1, request := .identify } } }
    let taken : State := { s with link := { s.link with reserved := List.replicate 8 { ticket := 1, tag := 1, code := 1 } } }
    s.awake = true ∧ s.quiet ∧ [(4 : Byte), 0x01, 7, 0x14] ++ [0] = 4 :: 0x01 :: 7 :: 0x14 :: [0] ∧
    (4 : Byte).toNat = [(0 : Byte)].length + 3 ∧ parseRequest 0x14 [0] = some (.subQuery 0) ∧ s.link.inbox.length < 4 ∧
    full.awake = true ∧ 4 ≤ full.link.inbox.length ∧ full.link.reserved.length + full.link.filled.length < 8 ∧
    parseRequest 0x15 [0] = none ∧ taken.awake = true ∧ 8 ≤ taken.link.reserved.length + taken.link.filled.length := by
  and_intros <;> first | decide | rfl

theorem witness_ACharacterErrorOrAGapLosesThePartialFrame : up.awake = true ∧ up.quiet ∧ up.link.receiver = .hunting ∧
    (inFrame up [5]).awake = true ∧ (inFrame up [5]).link.receiver = .inFrame [5] := by
  and_intros <;> first | decide | rfl

theorem witness_ABreakWakesThePart : up.power.held = false ∧ up.power.wait ≠ .stopping ∧ up.quiet ∧ up.link.receiver = .hunting ∧
    (inFrame up []).power.held = false ∧ (inFrame up []).link.receiver = .inFrame [] := by
  and_intros <;> first | decide | rfl

theorem witness_RequestsWhileStartingAndIdentify :
    let s := asks { up with power := { up.power with operating := false } } 1 (.subQuery 0)
    let i := asks up 1 .identify
    s.mayDispatch = true ∧ s.power.operating = false ∧ s.link.inbox.head? = some { tag := 1, request := .subQuery 0 } ∧ s.quiet ∧
    Request.subQuery 0 ≠ .identify ∧ i.mayDispatch = true ∧ i.link.inbox.head? = some { tag := 1, request := .identify } ∧
    i.quiet := by
  and_intros <;> first | decide | rfl

theorem witness_AResetRequestStopsTheDispatch : (asks up 1 .reset).accepts 1 .reset ∧ (asks up 1 .reset).quiet :=
  ⟨asks_accepts _ _ _ rfl rfl, rfl⟩

theorem witness_PowerSetSetsTheDozePermission :
    (asks up 1 (.powerSet (some 0))).accepts 1 (.powerSet (some 0)) ∧ (asks up 1 (.powerSet (some 1))).accepts 1 (.powerSet (some 1)) ∧
    (asks up 1 (.powerSet none)).accepts 1 (.powerSet none) ∧ (asks up 1 (.powerSet (some 3))).accepts 1 (.powerSet (some 3)) ∧
    3 ≤ (3 : Byte).toNat ∧ up.quiet := by
  and_intros <;> first | decide | rfl | exact asks_accepts _ _ _ rfl rfl

theorem witness_PowerSetDormantNeedsAnIdlePart :
    let ask (s : State) := (asks s 1 (.powerSet (some 2))).accepts 1 (.powerSet (some 2))
    let erasing : State := { up with store := { up.store with queue := [.erase 3 false] } }
    ask up ∧ up.quiet ∧ (∀ x, (up.sub x).state = .empty ∨ (up.sub x).state = .detached) ∧ up.store.running = none ∧
    up.store.queue = [] ∧ up.store.reclaim = none ∧ ask (subA .camped) ∧ (subA .camped).power.pending = false ∧
    (((subA .camped).sub .A).state ≠ .empty ∧ ((subA .camped).sub .A).state ≠ .detached) ∧ ask erasing ∧
    erasing.store.queue ≠ [] := by
  and_intros <;> first | decide | rfl | exact asks_accepts _ _ _ rfl rfl | (intro x; cases x <;> decide)

/-- A notice of the RADIO kind. -/
def radioNotice : Notice := { snapshot := .radio true .silent 3, flags := 1 }

theorem witness_ClrdyIsRecordedAndWakesADozingPart :
    let s : State := { up with power := { up.power with state := .doze }, link := { up.link with outbox := [radioNotice] } }
    s.quiet ∧ s.power.state = .doze ∧ s.power.held = false ∧ s.link.outbox ≠ [] ∧ up.power.state ≠ .doze := by
  and_intros <;> first | decide | rfl

/-- A filled reply of one segment, and one of two. -/
def reply1 : Reply := { tag := 1, code := 0x14, status := .badValue, stamp := 0, result := .none, sent := 0 }
def reply2 : Reply := { tag := 1, code := 0x39, status := .done, stamp := 0, result := .octets (List.replicate 244 0), sent := 0 }

/-- A part whose host takes frames. -/
def ready (l : Link) : State := { up with link := { l with clrdy := true } }

theorem witness_AReplySegmentIsSentFirst :
    let s := ready { up.link with filled := [reply1] }
    s.awake = true ∧ s.link.sending = none ∧ s.quiet ∧ s.link.clrdy = true ∧ s.link.filled = reply1 :: [] ∧
    up.link.clrdy = false := by
  and_intros <;> first | decide | rfl

theorem witness_ANoticeIsSentWhenNoReplyWaits :
    let one (n : Notice) : State := ready { up.link with outbox := [n] }
    let link : Notice := { snapshot := .link 1 0 0 0 0, flags := 1 }
    let meas : Notice := { snapshot := .meas .A false (some 90) [], flags := 1 }
    let text : Notice := { snapshot := .text .A 0 0 0 0 [] 0 none 0 0 0 false, flags := 2 }
    (one radioNotice).awake = true ∧ (one radioNotice).link.clrdy = true ∧ (one radioNotice).link.filled = [] ∧
    (one radioNotice).power.operating = true ∧ firstNotice (one radioNotice).link.outbox = some radioNotice ∧
    (one radioNotice).quiet ∧ radioNotice.snapshot.key.1 ∉ [NoticeKind.link, NoticeKind.meas, NoticeKind.text] ∧
    firstNotice (one link).link.outbox = some link ∧ link.snapshot.key.1 = .link ∧
    firstNotice (one meas).link.outbox = some meas ∧ firstNotice (one text).link.outbox = some text ∧
    (∀ e ∈ (one text).text.outbox, e.sub = .A → e.state ≠ .sent ∧ e.state ≠ .failed) := by
  and_intros <;> first | decide | rfl

theorem witness_TheLastSegmentFreesThePosition :
    let s (r : Reply) : State := ready { up.link with filled := [r], sending := some { octets := [], reply := true } }
    let n : State := ready { up.link with sending := some { octets := [], reply := false } }
    let r : Reply := { tag := 1, code := 0x02, status := .done, stamp := 0, result := .none, sent := 0 }
    let z : State := { s r with power := { up.power with wait := .replying } }
    (s reply1).link.sending = some { octets := [], reply := true } ∧ (s reply1).awake = true ∧ (s reply1).quiet ∧
    (s reply1).link.filled = reply1 :: [] ∧ reply1.segments.length ≤ reply1.sent + 1 ∧ (s reply1).power.wait ≠ .replying ∧
    (s reply2).link.filled = reply2 :: [] ∧ reply2.sent + 1 < reply2.segments.length ∧
    n.link.sending = some { octets := [], reply := false } ∧ n.awake = true ∧ z.awake = true ∧ z.quiet ∧
    z.link.sending = some { octets := [], reply := true } ∧ z.link.filled = r :: [] ∧ r.segments.length ≤ r.sent + 1 ∧
    z.power.wait = .replying := by
  and_intros <;> first | decide +kernel | rfl

theorem witness_APostingKeepsOneEntryPerKey : (([radioNotice].map fun n => n.snapshot.key).Nodup) ∧
    radioNotice.snapshot.key ≠ (Snapshot.link 1 0 0 0 0).key := by
  and_intros <;> first | decide | rfl

theorem witness_TheNoticeOfHighestPriorityGoesFirst : [radioNotice] ≠ [] := by decide

theorem witness_AResetTakesEveryBlockToItsResetValues :
    let cut : State := { up with store := { up.store with
      running := some { op := .erase 3 false, accumulated := 0, since := some 0 } } }
    up.store.running = none ∧ cut.store.running = some { op := .erase 3 false, accumulated := 0, since := some 0 } ∧
    State.reset.power.held = true ∧ State.reset.quiet ∧ up.power.held = false := by
  and_intros <;> first | decide | rfl

theorem witness_ARequestedResetCutsNothing :
    let s : State := { up with power := { up.power with wait := .stopping } }
    s.power.wait = .stopping ∧ s.power.held = false ∧ s.store.running = none ∧ s.store.queue = [] := by
  and_intros <;> first | decide | rfl

theorem witness_StartUpEndsWithReady :
    let s : State := { up with power := { up.power with operating := false } }
    s.awake = true ∧ s.power.operating = false ∧ s.store.running = none ∧ s.store.queue = [] ∧ s.store.reclaim = none ∧ s.quiet ∧
    (∀ n ∈ s.link.outbox, n.snapshot.key ≠ (NoticeKind.ready, 0)) := by
  and_intros <;> first | decide | rfl

theorem witness_DozeIsEnteredAndEndsAtTheWakeTime :
    let s : State := { up with
      now := 100, power := { up.power with doze := true }, cal := { up.cal with windows := [win 5 140 1] } }
    let d : State := { up with now := 100, power := { up.power with state := .doze, wake := some 100 } }
    s.quiet ∧ s.awake = true ∧ s.power.operating = true ∧ s.power.pending = false ∧ (∀ w ∈ s.cal.windows, w.state ≠ .ordered) ∧
    s.earliestPlanned = some 140 ∧ 40 ≤ (140 - s.now).toNat ∧ (140 - s.now).toNat < 2 ^ 31 ∧ s.store.running = none ∧
    s.link.receiver = .hunting ∧ s.link.outbox = [] ∧ s.voice.running = false ∧ d.quiet ∧ d.power.held = false ∧
    d.power.wake = some 100 ∧ (d.now - 100).toNat < 2 ^ 31 := by
  and_intros <;> first | decide | rfl

theorem witness_TheWakeTimeIsTheEarliestOfItsCauses :
    let s := withA { up with cal := { up.cal with windows := [win 5 140 1] } } { SubRec.reset with retry := some 5 }
    5 ∈ s.expiries ∧ s.earliestPlanned = some 140 ∧ s.wakeTime ≠ none ∧ up.expiries = [] ∧ up.earliestPlanned = none := by
  and_intros <;> first | decide | rfl

theorem witness_DormantIsEnteredByAnIdlePart :
    let s (t : State) : State := { t with power := { t.power with pending := true } }
    (s up).awake = true ∧ (s up).power.pending = true ∧ (s up).link.receiver = .hunting ∧
    (∀ w ∈ (s up).cal.windows, w.state ≠ .ordered) ∧ (s up).quiet ∧
    (∀ x, ((s up).sub x).state = .empty ∨ ((s up).sub x).state = .detached) ∧ (s up).store.running = none ∧
    (s (subA .camped)).awake = true ∧ (((s (subA .camped)).sub .A).state ≠ .empty ∧
      ((s (subA .camped)).sub .A).state ≠ .detached) := by
  and_intros <;> first | decide | rfl | (intro x; cases x <;> decide)

/-! ## The same: subscriptions and calls -/

def loading : Request := .subLoad 0 7 [5, 2047]
def loadingBadly : Request := .subLoad 0 7 [2048]

theorem witness_SubLoadFillsTheRecordAnew :
    ((asks up 1 loading).accepts 1 loading ∧ (asks up 1 loading).quiet ∧ [(5 : BitVec 16), 2047].length ≤ 32 ∧
      (∀ c ∈ [(5 : BitVec 16), 2047], c.toNat ≤ 2047) ∧ [(5 : BitVec 16), 2047].Nodup ∧
      ((asks up 1 loading).sub .A).state = .empty ∧ ((asks up 1 loading).sub .A).memoryFull = false) ∧
    ((asks up 1 loadingBadly).accepts 1 loadingBadly ∧ 2047 < (2048 : BitVec 16).toNat) ∧
    ((asks (subA .camped) 1 loading).accepts 1 loading ∧ ((asks (subA .camped) 1 loading).sub .A).state = .camped) :=
  ⟨⟨asks_accepts _ _ _ rfl rfl, rfl, by decide, by simp, by decide, rfl, rfl⟩, ⟨asks_accepts _ _ _ rfl rfl, by decide⟩,
    ⟨asks_accepts _ _ _ rfl rfl, rfl⟩⟩

/-- A store whose reclaim is not under way is not stuck. -/
theorem witness_not_stuck (st : Store) (h : st.reclaim = none) : ¬st.stuck := fun ⟨b, hb, _⟩ => by simp [h] at hb

theorem witness_SubLoadFillsTheRecordAnew_full :
    let s := asks (withA up { SubRec.reset with state := .detached, memoryFull := true }) 1 loading
    s.accepts 1 loading ∧ (s.sub .A).state = .detached ∧ (s.sub .A).memoryFull = true ∧ ¬s.store.stuck :=
  ⟨asks_accepts _ _ _ rfl rfl, rfl, rfl, witness_not_stuck _ rfl⟩

/-- The first 20 slots after the reset are over. -/
def late (s : State) : State := { s with now := 100, cal := { s.cal with quiet := false } }

def attaching : State := asks (late (subA .detached)) 1 (.subAttach 0)
def retryDue : State := late (withA up { SubRec.reset with state := .noService, channels := [5], retry := some 100 })

theorem witness_ASearchPlansOneWindowForEachChannel :
    (attaching.quiet ∧ attaching.accepts 1 (.subAttach 0) ∧ (attaching.sub .A).state = .detached ∧ attaching.cal.windows = [] ∧
      attaching.cal.quiet = false ∧ (attaching.sub .A).channels.length ≤ 32) ∧
    ((asks up 1 (.subAttach 0)).accepts 1 (.subAttach 0) ∧ ((asks up 1 (.subAttach 0)).sub .A).state ≠ .detached) ∧
    (retryDue.quiet ∧ retryDue.awake = true ∧ (retryDue.sub .A).state = .noService ∧ (retryDue.sub .A).retry = some 100 ∧
      (retryDue.now - 100).toNat < 2 ^ 31 ∧ retryDue.cal.windows = [] ∧ retryDue.cal.quiet = false) :=
  ⟨⟨rfl, asks_accepts _ _ _ rfl rfl, rfl, rfl, rfl, by decide⟩, ⟨asks_accepts _ _ _ rfl rfl, by decide⟩,
    ⟨rfl, rfl, rfl, rfl, by decide, rfl, rfl⟩⟩

/-- Subscription A searching, a window of its search just gone from the calendar. -/
def seeking (step : Search) (area : Option Nat) (other : Bool) : State :=
  let s := late (withA up { SubRec.reset with
    state := .searching, identity := some 70000, key := some 3, area := area, channels := [5, 9], search := step })
  { s with engaged := if other then some { sub := .B, stage := .connected } else none }

theorem witness_ASearchPlansOneWindowForEachChannel_results :
    let a : Anchor := { s0 := 94, f0 := 10 }
    let s (step : Search) := seeking step (some 7) false
    let b (area : Nat) : Beacon := { code := 1, area := area, frame := 64, barred := false, listen := 1, depth := 2, hysteresis := 3
                                     trigger := 1, floor := 20, tolerance := 8, time := 9, neighbours := [], pages := [] }
    let w : Window := { window .beaconRx with start := 96 }
    let n := s (.sampling [(1, 5), (2, 9)] [])
    let r := s (.reading [(5, 90)] 0 a 64 1 false)
    let q := seeking (.reading [(5, 90)] 0 a 64 1 false) (some 8) true
    n.quiet ∧ w.owner = .sub .A ∧ w.reporter = .subscription ∧ (n.sub .A).state = .searching ∧ n.cal.windows = [] ∧
    n.cal.quiet = false ∧ (n.sub .A).channels.length ≤ 32 ∧ (n.now - w.start).toNat ≤ 12 ∧
    ([(1, 5), (2, 9)].find? fun p => decide (p.1 = w.id)) = some (w.id, 5) ∧
    ([(1, 5), (2, 9)].filter fun p => decide (p.1 ≠ w.id)) ≠ [] ∧
    ((s (.sampling [(1, 5)] [(9, 80)])).sub .A).search = .sampling [(w.id, 5)] [(9, 80)] ∧
    ((s (.acquiring [(5, 90)] 0 1 false)).sub .A).search = .acquiring [(5, 90)] 0 w.id false ∧
    3 ≤ (w.start + 10 - n.now).toNat ∧ (w.start + 10 - n.now).toNat < 2 ^ 31 ∧
    (r.sub .A).search = .reading [(5, 90)] 0 a 64 w.id false ∧ (b 7).barred = false ∧ (r.sub .A).area = some (b 7).area ∧
    (r.measOf .A).rounds = [] ∧ r.callOf .A = none ∧ (r.sub .A).memoryFull = false ∧ r.text.outbox = [] ∧ r.engaged = none ∧
    (q.sub .A).area ≠ some (b 7).area ∧ (q.sub .A).detaching = none ∧ q.engaged ≠ none ∧ q.engQueue = [] ∧
    ((s (.candidate campedA [] 64 1)).sub .A).search = .candidate campedA [] 64 w.id ∧ w.channel = campedA.cell.channel ∧
    (b 7).code = campedA.cell.code := by
  and_intros <;> first | decide | rfl

/-- The measurement unit after power-on is legal. -/
theorem witness_up_measures_legally : up.meas.legal :=
  ⟨by decide, by decide, by decide, by decide, by intro x; cases x <;> decide⟩

theorem witness_SubSetChangesWhatItNames :
    let r := Request.subSet 0 (some 7) (some 1) (some [2047])
    let bad := Request.subSet 0 (some 8) none none
    (asks (subA .camped) 1 r).accepts 1 r ∧ (asks (subA .camped) 1 r).quiet ∧ subOf 0 = some .A ∧
    settingsInRange (some 7) (some 1) (some [2047]) = true ∧ ((asks (subA .camped) 1 r).sub .A).state ≠ .empty ∧
    (asks up 1 r).accepts 1 r ∧ ((asks up 1 r).sub .A).state = .empty ∧ (asks up 1 bad).accepts 1 bad ∧
    settingsInRange (some 8) none none = false := by
  and_intros <;> first | decide | rfl | exact asks_accepts _ _ _ rfl rfl

theorem witness_QueriesChangeNothingButTheReplyQueue :
    let ok (r : Request) := (asks up 1 r).accepts 1 r
    up.quiet ∧ ok (.subQuery 1) ∧ subOf 1 = some .B ∧ ok (.subQuery 2) ∧ subOf 2 = none ∧ ok .measQuery ∧ ok (.callQuery none) ∧
    ok (.callQuery (some 2)) ∧ callIdOf 2 = some .two ∧ ok (.callQuery (some 3)) ∧ callIdOf 3 = none ∧ ok .voiceQuery ∧
    ok .outboxQuery ∧ ok .storeQuery := by
  and_intros <;> first | decide | rfl | exact asks_accepts _ _ _ rfl rfl

/-- A message of three octets, number 5, and a store that holds it LIVE in slot (2, 0). -/
def message5 : Message :=
  { header := { number := 5, sub := .A, sender := [1, 2], time := 0, count := 1, present := [1], complete := true }, body := [7, 8, 9] }
def slot20 : SlotId := { block := 2, slot := 0 }
def holds5 : State := { up with store := ((up.store.setCell slot20 (.written message5)).setState slot20 .live) }

theorem witness_MessagesAreListedAndRead :
    let ok (s : State) (r : Request) := (asks s 1 r).accepts 1 r
    up.quiet ∧ ok up (.storeList 0) ∧ ok holds5 (.storeList 1) ∧ ok up (.storeRead 5 0 1) ∧ up.store.find 5 = none ∧
    ok holds5 (.storeRead 5 3 192) ∧ holds5.store.find 5 = some slot20 ∧ holds5.store.messageAt slot20 = some message5 ∧
    (192 : Byte).toNat ≤ 192 ∧ (3 : BitVec 16).toNat ≤ message5.body.length ∧ ok holds5 (.storeRead 5 4 1) ∧
    message5.body.length < (4 : BitVec 16).toNat := by
  and_intros <;> first | decide | rfl | exact asks_accepts _ _ _ rfl rfl

theorem witness_SubDetachByState :
    let r := Request.subDetach 0
    let busy := withA up { SubRec.reset with state := .camped, detaching := some 4 }
    let n := withA up { SubRec.reset with state := .noService, key := some 3, retry := some 5 }
    (asks up 1 (.subDetach 2)).accepts 1 (.subDetach 2) ∧ up.quiet ∧ subOf 2 = none ∧ subOf 0 = some .A ∧
    (asks busy 1 r).accepts 1 r ∧ ((asks busy 1 r).sub .A).detaching ≠ none ∧ (asks up 1 r).accepts 1 r ∧
    (up.sub .A).state = .empty ∧ (asks (subA .detached) 1 r).accepts 1 r ∧ ((subA .detached).sub .A).state = .detached ∧
    (asks n 1 r).accepts 1 r ∧ (n.sub .A).state = .noService ∧ (n.sub .A).detaching = none ∧
    (∀ w ∈ n.cal.windows, w.owner = .sub .A → w.purpose ≠ .meas) ∧ n.meas.entries = [] ∧ (∀ y, (n.measOf y).rounds = []) ∧
    (n.measOf .A).resel = .none ∧ n.connection .A = none ∧ (n.sub Sub.A.other).target = none ∧
    (∀ i, (n.call i).state = .free) ∧ n.text.outbox = [] ∧ n.text.table = [] ∧ n.text.recent = [] := by
  and_intros <;> first | decide | rfl | exact asks_accepts _ _ _ rfl rfl | (intro x; cases x <;> decide)

/-- Subscription A camped, with its PAGE window, and in the stages of an engagement. -/
def camping (st : SubState) (stage : Option Stage) : State :=
  let s := late (withA up { SubRec.reset with state := st, camped := some campedA, key := some 3, page := some (1, 3), downlink := 10 })
  { s with
    cal := { s.cal with windows := [window .pageRx], counter := 2 }
    engaged := stage.map fun g => { sub := .A, stage := g } }

/-- An access attempt of subscription A. -/
def attemptFor (ps : List Purpose) : Attempt :=
  { purposes := ps, pageReply := false, burst := .callOut, reference := 3, placed := 1, tx := none, watches := [] }

theorem witness_SubDetachByState_leave :
    let r := Request.subDetach 0
    let other : State := { camping .camped none with engaged := some { sub := .B, stage := .connected } }
    let c := camping .camped none
    let f := camping .engaged (some (.confirming 9 0))
    let a := camping .engaged (some (.attempt (attemptFor [.call])))
    let searching : State := { camping .searching none with cal := { (camping .searching none).cal with windows := [window .search] } }
    (asks other 1 r).accepts 1 r ∧ (other.sub .A).state = .camped ∧ other.engaged ≠ none ∧ (other.sub .A).detaching = none ∧
    (asks searching 1 r).accepts 1 r ∧ (searching.sub .A).state = .searching ∧ window .search ∈ searching.cal.windows ∧
    (asks c 1 r).accepts 1 r ∧ (c.sub .A).state = .camped ∧ c.engaged = none ∧ c.quiet ∧ (c.sub .A).detaching = none ∧
    (∀ i, (c.call i).state = .free) ∧ (asks f 1 r).accepts 1 r ∧ (f.sub .A).state = .engaged ∧ f.confirms .A = true ∧
    (asks a 1 r).accepts 1 r ∧ a.engaged = some { sub := .A, stage := .attempt (attemptFor [.call]) } ∧
    Purpose.text ∉ (attemptFor [.call]).purposes ∧ Purpose.register ∉ (attemptFor [.call]).purposes := by
  and_intros <;> first | decide | rfl | exact asks_accepts _ _ _ rfl rfl | (intro x; cases x <;> decide)

/-- Subscription A camped or engaged with its PAGE window alone in the calendar is granted the radio alone. -/
theorem witness_grants_alone :
    let c := camping .camped none
    let f := camping .engaged (some (.confirming 9 0))
    c.grantsAlone .A campedA ∧ c.holdsOnly .A [.pageRx, .beaconRx] ∧ f.grantsAlone .A campedA ∧
    f.holdsOnly .A [.pageRx, .beaconRx] ∧ c.holdsOnly .A [.accessTx, .grantRx, .pageRx, .beaconRx] := by
  refine ⟨⟨rfl, rfl, rfl, by decide, ?_, rfl, ?_, rfl⟩, ?_, ⟨rfl, rfl, rfl, by decide, ?_, rfl, ?_, rfl⟩, ?_, ?_⟩ <;>
    first | (intro x; cases x <;> rfl) | (unfold State.holdsOnly; decide) | decide

/-- Subscription A engaged on a connection with purposes. -/
def connected (ps : List Purpose) : State :=
  let s := withA up { SubRec.reset with state := .engaged, camped := some campedA, identity := some 70000, regGuard := some 0 }
  { s with engaged := some { sub := .A, stage := .connected }, ctx := { s.ctx with active := some (conn ps), release := .running 0 } }

theorem witness_SubDetachByState_connected :
    let s := connected [.call]
    (asks s 1 (.subDetach 0)).accepts 1 (.subDetach 0) ∧ (s.sub .A).state = .engaged ∧ (s.sub .A).detaching = none ∧
    s.engaged = some { sub := .A, stage := .connected } ∧ s.connection .A = some (conn [.call]) ∧
    Purpose.register ∉ (conn [.call]).purposes ∧ s.sendingEntry .A = none ∧ s.ctx.queue ++ s.ctx.waiting = [] ∧
    (∀ i, (s.call i).state = .free) := by
  and_intros <;> first | decide | rfl | exact asks_accepts _ _ _ rfl rfl | (intro x; cases x <;> decide)

theorem witness_ARegistrationEndsByItsAnswerOrByNone :
    let s := connected [.register, .text]
    s.awake = true ∧ s.quiet ∧ s.connection .A = some (conn [.register, .text]) ∧ Purpose.register ∈ [Purpose.register, .text] ∧
    (s.sub .A).regGuard = some 0 ∧ (s.now - 0).toNat < 2 ^ 31 ∧ s.callOf .A = none ∧ s.sendingEntry .A = none := by
  and_intros <;> first | decide | rfl

/-- A connection for a registration and texts on which an entry has been sent, with an outbox. -/
def textsBegun (outbox : List OutEntry) : State :=
  let s := connected [.register, .text]
  { s with ctx := { s.ctx with textBegun := true }, text := { s.text with outbox := outbox } }

theorem witness_ARegistrationEndsByItsAnswerOrByNone_texts :
    let s := textsBegun [outEntry .ready 1]
    s.connection .A = some (conn [.register, .text]) ∧ s.callOf .A = none ∧ s.ctx.textBegun = true ∧ s.sendingEntry .A = none ∧
    s.readyFirst .A (outEntry .ready 1) ∧ (textsBegun []).connection .A = some (conn [.register, .text]) ∧
    (textsBegun []).text.outbox = [] ∧ ((textsBegun []).textOf .A).incoming = false ∧
    (textsBegun [outEntry .sending 1]).sendingEntry .A ≠ none ∧
    Purpose.leave ∉ (conn [.register, .text]).purposes := by
  and_intros <;> first | decide | rfl

/-- R137: ENROL_NO after an entry has become SENDING leaves TEXT on the connection and the next READY entry is sent; before, TEXT
ends and the entry stays READY. -/
theorem test_enrolNo_sends_the_next_text :
    ((textsBegun [outEntry .ready 1]).received .A 0 (.enrolNo .rejected)).text.outbox.map OutEntry.state = [.sending] ∧
    (({ connected [.register, .text] with text := { up.text with outbox := [outEntry .ready 1] } } : State).received .A 0
      (.enrolNo .rejected)).text.outbox.map OutEntry.state = [.ready] := by
  decide

theorem witness_ARegistrationEndsByItsAnswerOrByNone_exchanges :
    let call (st : CallState) (ps : List Purpose) : State := { call1 st true false none with
      ctx := { (call1 st true false none).ctx with active := some (conn ps) } }
    let t (ps : List Purpose) : State := { connected ps with text := { up.text with outbox := [outEntry .ready 1] } }
    let c := call .requesting [.call]
    c.connection .A = some (conn [.call]) ∧ Purpose.register ∉ (conn [.call]).purposes ∧ Purpose.leave ∉ (conn [.call]).purposes ∧
    c.sendingEntry .A = none ∧ c.callOf .A = some .one ∧ (c.call .one).state = .requesting ∧
    (call .connected [.call]).callOf .A = some .one ∧ (call .incoming [.call]).callOf .A = some .one ∧
    (t [.text]).connection .A = some (conn [.text]) ∧ (t [.text]).callOf .A = none ∧ (t [.text]).readyFirst .A (outEntry .ready 1) ∧
    (t [.text, .storeReady]).readyFirst .A (outEntry .ready 1) ∧ (t [.text]).ctx.queue ++ (t [.text]).ctx.waiting = [] ∧
    (connected [.storeReady]).connection .A = some (conn [.storeReady]) ∧ (connected []).connection .A = some (conn []) ∧
    (connected [.text]).text.outbox = [] ∧ ((connected [.text]).textOf .A).incoming = false := by
  and_intros <;> first | decide | rfl

theorem witness_AReleasedConnectionIsConfirmed :
    let s := late (connected [])
    s.awake = true ∧ s.quiet ∧ s.ctx.active = some (conn []) ∧ s.engaged = some { sub := .A, stage := .connected } ∧
    (s.sub .A).state = .engaged ∧ s.ctx.release = .running 0 ∧ (s.now - 0).toNat < 2 ^ 31 ∧
    (s.sub .A).camped = some campedA ∧ (s.sub .A).detaching = none ∧ s.ctx.regFailed = none ∧ (∀ i, (s.call i).state = .free) ∧
    s.sendingEntry .A = none ∧ Purpose.register ∉ (conn []).purposes ∧ (s.measOf .A).rounds = [] ∧ s.engQueue = [] ∧
    s.cal.windows = [] ∧ s.cal.quiet = false ∧ (s.now + 3 - (conn []).s0).toNat < 2 ^ 31 ∧ (s.textOf .A).readySent = false ∧
    (({ s with text := { s.text with subs := s.text.subs.set .A { s.textOf .A with readySent := true } } } : State).textOf
      .A).readySent = true := by
  and_intros <;> first | decide | rfl | (intro x; cases x <;> decide)

/-- An access of a handover whose frames have ended. -/
def access : Access := { reference := 3, deadline := 4, base := 0, frames := [] }

theorem witness_AMoveExchangesTheContexts :
    let s := connected [.call]
    let m : State := { s with ctx := { s.ctx with spare := some { conn [.call] with role := .fallback }, handover := .moving access } }
    let r : State := { s with ctx := { s.ctx with handover := .returning access } }
    s.connection .A = some (conn [.call]) ∧ ((late s).now + 1 - ((conn [.call]).s0 + BitVec.ofNat 32 9)).toNat < 2 ^ 31 ∧
    m.connection .A = some (conn [.call]) ∧ m.ctx.handover = .moving access ∧
    m.ctx.spare = some { conn [.call] with role := .fallback } ∧ r.connection .A = some (conn [.call]) ∧
    r.ctx.handover = .returning access ∧ r.ctx.spare = none ∧ m.meas.entries = [] := by
  and_intros <;> first | decide | rfl

theorem witness_AMoveExchangesTheContexts_windows :
    let a : Access := { access with frames := [{ number := 5, tx := none, rx := some 89 }] }
    let s : State := { connected [.call] with ctx := { (connected [.call]).ctx with handover := .moving a } }
    let w : Window :=
      { id := 89, owner := .sub .A, reporter := .context, purpose := .grantRx, cls := .access, channel := 1, start := 40, len := 1
        requested := 40, slack := none, block := none, state := .ordered, withdrawn := false }
    let g : Grant := { reference := 3, rx := 2, tx := 4 }
    s.connection .A = some (conn [.call]) ∧ s.ctx.handover = .moving a ∧ w.owner = .sub .A ∧ w.reporter = .context ∧
    w.purpose = .grantRx ∧ (a.frames.find? fun f => decide (f.tx = some w.id ∨ f.rx = some w.id)) =
      some { number := 5, tx := none, rx := some 89 } ∧ 5 = a.deadline + 1 ∧ g.reference = a.reference ∧ 2 ≤ g.rx ∧ g.rx ≤ 9 ∧
    2 ≤ g.tx ∧ g.tx ≤ 9 ∧ g.rx + 2 ≤ g.tx ∧ (conn [.call]).f0 ≠ none ∧
    (∃ fr gs, (Block.grant 0 [] : Block) = .grant fr gs) ∧ ∀ g ∈ ([] : List Grant), g.reference ≠ a.reference := by
  and_intros <;> first | decide | rfl | exact ⟨0, [], rfl⟩

/-- The modes of a connection in a handover are legal, whatever the other blocks hold. -/
theorem witness_AMoveExchangesTheContexts_modes :
    ({ connected [.call] with
      ctx := { (connected [.call]).ctx with spare := some { conn [.call] with role := .fallback }, handover := .moving access }
      meas := { up.meas with subs := up.meas.subs.set .A { MeasSub.reset with mode := .paused } } } : State).modesLegal := by
  intro x
  cases x <;> decide

theorem witness_meas_is_legal : (connected [.call]).meas.legal :=
  ⟨by decide, by decide, by decide, by decide, by intro x; cases x <;> decide⟩

/-- The number of 20 digits and one digit too many. -/
def digits (n : Nat) : Digits := List.replicate n 9

theorem witness_ADialIsCheckedInOrder :
    let r := Request.callDial 0 (digits 20)
    let other := { subA .camped with calls := { up.calls with one := { CallRec.reset with sub := some .B, state := .ringingOut } } }
    let full := { subA .camped with calls := { one := { CallRec.reset with state := .ringingOut }, two := { CallRec.reset with state := .blocked } } }
    (asks up 1 (.callDial 0 (digits 21))).accepts 1 (.callDial 0 (digits 21)) ∧ up.quiet ∧ ¬(digits 21).length ≤ 20 ∧
    (asks up 1 r).accepts 1 r ∧ subOf 0 = some .A ∧ (digits 20).length ≤ 20 ∧ (∀ d ∈ digits 20, d.toNat ≤ 9) ∧
    (up.sub .A).state ≠ .camped ∧ (up.sub .A).state ≠ .engaged ∧ (asks full 1 r).accepts 1 r ∧ (full.sub .A).state = .camped ∧
    (full.sub .A).detaching = none ∧ full.freeRecord = none ∧ (asks other 1 r).accepts 1 r ∧ (other.sub .A).state = .camped ∧
    other.freeRecord = some .two ∧ (other.call CallId.two.other).state ≠ .free ∧ (other.call CallId.two.other).state ≠ .blocked := by
  and_intros <;> first | decide | rfl | exact asks_accepts _ _ _ rfl rfl

/-- An access attempt of subscription A for a registration. -/
def attempt : Attempt :=
  { purposes := [.register], pageReply := false, burst := .register, reference := 3, placed := 1, tx := none, watches := [] }

/-- Subscription A camped while B holds the dedicated radio. -/
def dialing : State :=
  { subA .camped with
    subs := { (subA .camped).subs with b := { SubRec.reset with state := .engaged } }
    engaged := some { sub := .B, stage := .connected } }

theorem witness_AnAcceptedDialTakesARecord_legal :
    dialing.engagedLegal ∧ { subA .engaged with engaged := some { sub := .A, stage := .attempt attempt } }.engagedLegal ∧
    (connected [.text]).engagedLegal ∧ (connected [.register]).engagedLegal ∧
    ({ connected [.text] with ctx := { (connected [.text]).ctx with doneSent := true } } : State).engagedLegal ∧
    (camping .engaged (some (.confirming 9 0))).engagedLegal ∧ (camping .camped none).engagedLegal ∧
    ({ connected [.text] with ctx := { (connected [.text]).ctx with handover := .moving access } } : State).engagedLegal := by
  refine ⟨⟨fun x => ?_, by decide, ?_⟩, ⟨fun x => ?_, by decide, ?_⟩, ⟨fun x => ?_, by decide, ?_⟩, ⟨fun x => ?_, by decide, ?_⟩,
    ⟨fun x => ?_, by decide, ?_⟩, ⟨fun x => ?_, by decide, ?_⟩, ⟨fun x => ?_, by decide, ?_⟩, ⟨fun x => ?_, by decide, ?_⟩⟩ <;>
    first
      | (cases x <;> refine ⟨fun h => ⟨_, rfl, ?_⟩, fun ⟨_, h, k⟩ => ?_⟩ <;> first | rfl | exact absurd h (by decide) | (cases h; exact absurd k (by decide)))
      | (cases x <;> exact ⟨fun h => absurd h (by decide), fun ⟨_, h, _⟩ => nomatch h⟩)
      | (intro c h; cases h; rfl)
      | (intro c h; exact nomatch h)

theorem witness_AnAcceptedDialTakesARecord :
    let r := Request.callDial 0 (digits 1)
    let c := dialing
    let e := { subA .engaged with engaged := some { sub := .A, stage := .attempt attempt } }
    let g := connected [.text]
    let h : State := { g with ctx := { g.ctx with handover := .moving access } }
    let o := connected [.register]
    let n : State := { g with ctx := { g.ctx with doneSent := true } }
    let f := camping .engaged (some (.confirming 9 0))
    let z := camping .camped none
    (asks o 1 r).accepts 1 r ∧ o.connection .A = some (conn [.register]) ∧ Purpose.register ∈ (conn [.register]).purposes ∧
    o.ctx.handover = .none ∧ o.doneGone = false ∧ (asks n 1 r).accepts 1 r ∧ n.doneGone = true ∧ n.ctx.handover = .none ∧
    n.connection .A = some (conn [.text]) ∧ (asks f 1 r).accepts 1 r ∧ f.confirms .A = true ∧ (f.sub .A).detaching = none ∧
    f.freeRecord = some .one ∧ (asks z 1 r).accepts 1 r ∧ (z.sub .A).state = .camped ∧ z.engaged = none ∧ z.engQueue = [] ∧
    z.freeRecord = some .one ∧
    (asks g 1 r).accepts 1 r ∧ (g.sub .A).state = .engaged ∧ g.engaged = some { sub := .A, stage := .connected } ∧
    g.connection .A = some (conn [.text]) ∧ Purpose.register ∉ (conn [.text]).purposes ∧ g.doneGone = false ∧
    (g.sub .A).detaching = none ∧ g.freeRecord = some .one ∧ (asks h 1 r).accepts 1 r ∧ h.ctx.handover ≠ .none ∧
    (asks c 1 r).accepts 1 r ∧ c.quiet ∧ subOf 0 = some .A ∧ 1 ≤ (digits 1).length ∧ (∀ d ∈ digits 1, d.toNat ≤ 9) ∧
    (c.sub .A).detaching = none ∧ c.freeRecord = some .one ∧ (c.call CallId.one.other).state = .free ∧ (c.sub .A).state = .camped ∧
    c.engaged = some { sub := .B, stage := .connected } ∧ (∀ q ∈ c.engQueue, q.sub ≠ .A) ∧ (asks e 1 r).accepts 1 r ∧
    (e.sub .A).state = .engaged ∧ e.engaged = some { sub := .A, stage := .attempt attempt } ∧ Purpose.call ∉ attempt.purposes := by
  and_intros <;> first | decide | rfl | exact asks_accepts _ _ _ rfl rfl

theorem witness_CallAnswerByState :
    let r := Request.callAnswer 1
    let ok (s : State) := (asks s 1 r).accepts 1 r
    let b := { call1 .blocked false false none with calls :=
      { (call1 .blocked false false none).calls with two := { CallRec.reset with sub := some .A, state := .connected } } }
    (asks up 1 (.callAnswer 3)).accepts 1 (.callAnswer 3) ∧ up.quiet ∧ callIdOf 3 = none ∧ callIdOf 1 = some .one ∧ ok up ∧
    (up.call .one).state = .free ∧ ok (call1 .connected true true none) ∧
    CallState.connected ∉ [CallState.free, .incoming, .blocked] ∧ ok b ∧ (b.call .one).state = .blocked ∧
    (b.call CallId.one.other).state ≠ .free ∧ (b.call CallId.one.other).sub = (b.call .one).sub ∧
    ok (call1 .incoming false true none) ∧ ok (call1 .incoming false false none) ∧ ok (call1 .incoming true false none) ∧
    ((call1 .incoming true false none).call .one).ringWaits = false := by
  and_intros <;> first | decide | rfl | exact asks_accepts _ _ _ rfl rfl

theorem witness_CallAnswerByState_asked :
    let b (s : State) : State := { s with
      calls := { s.calls with one := { CallRec.reset with sub := some .A, state := .blocked, direction := some .incoming } } }
    let ok (s : State) := (asks (b s) 1 (.callAnswer 1)).accepts 1 (.callAnswer 1) ∧ ((b s).call .one).state = .blocked ∧
      ((b s).call .one).sub = some .A ∧ ((b s).call CallId.one.other).state = .free ∧ ((b s).sub .A).detaching = none
    let a := camping .engaged (some (.attempt attempt))
    let f := camping .engaged (some (.confirming 9 0))
    let n : State := { connected [.text] with ctx := { (connected [.text]).ctx with doneSent := true } }
    ok (camping .camped none) ∧ (camping .camped none).engaged = none ∧ (camping .camped none).engQueue = [] ∧ ok f ∧
    f.confirms .A = true ∧ (f.sub .A).state = .engaged ∧ ok a ∧ (a.sub .A).state = .engaged ∧
    a.engaged = some { sub := .A, stage := .attempt attempt } ∧ ok (connected [.text]) ∧ (connected [.text]).doneGone = false ∧
    (connected [.text]).connection .A = some (conn [.text]) ∧ ok n ∧ n.doneGone = true := by
  and_intros <;> first | decide | rfl | exact asks_accepts _ _ _ rfl rfl

theorem witness_CallAnswerByState_blocked :
    let r := Request.callAnswer 1
    let ok (s : State) := (asks s 1 r).accepts 1 r
    let b (st : SubState) : State :=
      { withA (call1 .blocked false false none) { SubRec.reset with state := st, camped := some campedA } with
        engaged := some { sub := .B, stage := .connected } }
    let two (st : SubState) : State := { b st with calls := { (b st).calls with
      two := { CallRec.reset with sub := some .B, state := .connected } } }
    ok (b .camped) ∧ ((b .camped).call .one).state = .blocked ∧ ((b .camped).call .one).sub = some .A ∧
    ((b .camped).call CallId.one.other).state = .free ∧ ((b .camped).sub .A).state = .camped ∧ (b .camped).engaged ≠ none ∧
    ((b .camped).sub .A).detaching = none ∧ (b .camped).engQueue = [] ∧ ok (two .searching) ∧
    ((two .searching).sub .A).state = .searching ∧ ((two .searching).call CallId.one.other).sub = some Sub.A.other ∧
    ((two .searching).call CallId.one.other).state ∈ [CallState.ringingOut, .answering, .connected] := by
  and_intros <;> first | decide | rfl | exact asks_accepts _ _ _ rfl rfl

/-- An entry of the reassembly table of subscription A that has reserved slot (2, 0). -/
def arriving : Reassembly :=
  { sub := .A, sender := [1, 2], reference := 4, count := 2, parts := [(1, [7, 8, 9])], closing := none, unwritten := false
    slot := some slot20, age := some 0 }

/-- Call 1 of subscription A in a state that no connection carries: waiting in the queue, or in an access attempt. -/
def calling (st : CallState) (stage : Option Stage) : State :=
  let s := camping (if stage.isSome then .engaged else .camped) stage
  { s with
    engQueue := if stage.isSome then [] else [{ sub := .A, purposes := [.call], pageReply := false, moment := 0 }]
    calls := { s.calls with one := { CallRec.reset with sub := some .A, direction := some .out, state := st } } }

theorem witness_CallEndByState :
    let ok (s : State) := (asks s 1 (.callEnd 1)).accepts 1 (.callEnd 1)
    let h : State := { call1 .connected true true none with
      ctx := { (call1 .connected true true none).ctx with handover := .moving access } }
    (asks up 1 (.callEnd 0)).accepts 1 (.callEnd 0) ∧ up.quiet ∧ up.ctx.handover = .none ∧ callIdOf 0 = none ∧ callIdOf 1 = some .one ∧
    ok up ∧ (up.call .one).state = .free ∧ ok (call1 .clearing true true none) ∧ ok (call1 .blocked false false none) ∧
    ok (calling .dialling none) ∧ ((calling .dialling none).call .one).state = .dialling ∧
    ok (call1 .offering false false none) ∧ (call1 .offering false false none).unsent UpMsg.isDial = false ∧
    ((call1 .offering false false none).offer (.dial [])).unsent UpMsg.isDial = true ∧
    ok (call1 .connected true true none) ∧ ok (call1 .answering true true none) ∧ ok (call1 .incoming true true none) ∧
    CallState.answering ∈ [CallState.ringingOut, .answering, .connected] ∧ ok h ∧ h.ctx.handover ≠ .none ∧
    h.connection .A = some (conn [.call]) ∧ (h.call .one).sub = some .A ∧ (h.call .one).state ≠ .blocked := by
  and_intros <;> first | decide | rfl | exact asks_accepts _ _ _ rfl rfl

theorem witness_CallEndByState_detaching :
    let c := call1 .clearing true true none
    let h : State := { c with
      subs := c.subs.set .A { c.sub .A with detaching := some 0 }
      ctx := { c.ctx with handover := .moving access }
      text := { c.text with table := [arriving] } }
    (asks h 1 (.callEnd 1)).accepts 1 (.callEnd 1) ∧ h.ctx.handover ≠ .none ∧ h.connection .A = some (conn [.call]) ∧
    (h.sub .A).detaching = some 0 ∧ (h.call .one).state = .clearing ∧
    (h.text.table.filter fun e => decide (e.sub = .A ∧ e.closing = none)) = [arriving] := by
  and_intros <;> first | decide | rfl | exact asks_accepts _ _ _ rfl rfl

theorem witness_CallEndByState_handover :
    let c := late (call1 .connected true true none)
    let w : Window :=
      { id := 9, owner := .sub .A, reporter := .context, purpose := .grantRx, cls := .access, channel := 5, start := 110, len := 1
        requested := 110, slack := none, block := none, state := .planned, withdrawn := false }
    let h : State := { c with ctx := { c.ctx with handover := .moving access }, cal := { c.cal with windows := [w] } }
    (asks h 1 (.callEnd 1)).accepts 1 (.callEnd 1) ∧ h.quiet ∧ h.ctx.handover ≠ .none ∧ h.connection .A = some (conn [.call]) ∧
    (h.call .one).sub = some .A ∧ (h.call .one).state = .connected ∧ (h.sub .A).detaching = none ∧
    h.engaged = some { sub := .A, stage := .connected } ∧ h.engQueue = [] ∧ h.sendingEntry .A = none ∧
    (∀ y, (h.measOf y).rounds = []) ∧ (h.measOf .A).resel = .none ∧ h.meas.entries = [] ∧ (h.sub .B).target = none ∧
    (∀ v ∈ h.cal.windows, v.owner = .sub .A ∧ v.reporter = .context ∧ v.state = .planned) ∧ h.cal.quiet = false ∧
    (h.sub .A).channels.length ≤ 32 := by
  and_intros <;> first | decide | rfl | exact asks_accepts _ _ _ rfl rfl | (intro x; cases x <;> decide)

theorem witness_CallEndByState_purpose :
    let c := connected [.call]
    let d : State := { c with subs := c.subs.set .A { c.sub .A with areaChanged := true } }
    c.connection .A = some (conn [.call]) ∧ c.inUse .A = false ∧ (call1 .connected true true none).inUse .A = true ∧
    Purpose.leave ∉ (conn [.call]).purposes ∧ (c.sub .A).areaChanged = false ∧ (d.sub .A).areaChanged = true ∧
    (d.sub .A).detaching = none ∧ d.connection .A = some (conn [.call]) ∧ Purpose.call ∈ (conn [.call]).purposes ∧
    Purpose.register ∉ (conn [.call]).purposes ∧ (calling .dialling none).connection .A = none ∧
    (calling .dialling none).callOf .A = some .one ∧ (calling .free none).callOf .A = none ∧ (calling .free none).engaged = none ∧
    (calling .free (some (.attempt (attemptFor [.call, .text])))).callOf .A = none ∧
    ((attemptFor [.call, .text]).purposes.filter fun p => decide (p ≠ .call)) ≠ [] := by
  and_intros <;> first | decide | rfl

theorem witness_TimersAndTheNetworkMoveTheCall :
    let s (st : CallState) := call1 st true true (some 0)
    let b := call1 .blocked false false (some 0)
    let h : State := { s .offering with ctx := { (s .offering).ctx with handover := .moving access } }
    (s .answering).awake = true ∧ (s .answering).quiet ∧ (s .answering).ctx.handover = .none ∧
    ((s .answering).call .one).timer = some 0 ∧ ((s .answering).now - 0).toNat < 2 ^ 31 ∧
    ((s .answering).call .one).sub = some .A ∧ ((s .offering).call .one).state = .offering ∧
    ((s .incoming).call .one).state = .incoming ∧ ((s .incoming).call .one).arrived = true ∧
    ((s .clearing).call .one).state = .clearing ∧ ((call1 .incoming false true (some 0)).call .one).arrived = false ∧
    (b.call .one).state = .blocked ∧ b.awake = true ∧ (b.call .one).timer = some 0 ∧ h.ctx.handover ≠ .none ∧
    h.connection .A ≠ none ∧ (h.call .one).state ∈ [CallState.offering, .ringingOut, .answering] := by
  and_intros <;> first | decide | rfl

theorem witness_TimersAndTheNetworkMoveTheCall_messages :
    let s (st : CallState) (arrived answered : Bool) := call1 st arrived answered none
    let o (s : State) : State := { s with ctx := { s.ctx with active := some (conn [.call, .register]) } }
    (s .offering false false).connection .A = some (conn [.call]) ∧ (s .offering false false).callOf .A = some .one ∧
    2 ≤ (conn [.call]).rx ∧ (conn [.call]).rx + 2 ≤ (conn [.call]).tx ∧ (conn [.call]).tx ≤ 9 ∧
    CallState.answering ∈ [CallState.offering, .ringingOut, .answering] ∧ (s .answering true true).callOf .A = some .one ∧
    (s .dialling false false).callOf .A = some .one ∧ (s .clearing true true).callOf .A = some .one ∧
    (s .incoming false true).callOf .A = some .one ∧ ((s .incoming false true).call .one).arrived = false ∧
    ((s .incoming false true).call .one).answered = true ∧ ((s .incoming false false).call .one).answered = false ∧
    Purpose.register ∉ (conn [.call]).purposes ∧ (o (s .incoming false false)).connection .A = some (conn [.call, .register]) ∧
    Purpose.register ∈ (conn [.call, .register]).purposes ∧ (s .free false false).callOf .A = none ∧
    (∀ d ∈ digits 20, d.toNat ≤ 9) ∧ ¬(3 + 2 ≤ 4 ∨ 4 + 2 ≤ 3) := by
  and_intros <;> first | decide | rfl

theorem witness_TimersAndTheNetworkMoveTheCall_join :
    let ded (id : WinId) (p : WinPurpose) (at_ : Slot) : Window := { window p with
      id := id, reporter := .context, cls := .dedicated, start := 110 + at_, len := 1, requested := 110 + at_ }
    let c := late (call1 .answering true true none)
    let s : State := { c with
      ctx := { c.ctx with
        frames := [{ start := 100, rx := none, tx := some 3 }, { start := 110, rx := some 4, tx := some 5 }] }
      cal := { c.cal with windows := [ded 4 .dedRx 2, ded 5 .dedTx 6] } }
    s.connection .A = some (conn [.call]) ∧ s.cal.quiet = false ∧ s.cal.windows = [ded 4 .dedRx 2, ded 5 .dedTx 6] ∧
    (4 : Nat) ≠ (conn [.call]).rx ∧ 2 ^ 31 - 1 ≤ ((100 : Slot) - (100 + 1)).toNat ∧ ((110 : Slot) - (100 + 1)).toNat < 2 ^ 31 - 1 ∧
    3 ≤ (110 - s.now).toNat ∧ (110 - s.now).toNat < 2 ^ 31 - 10 := by
  and_intros <;> first | decide | rfl

/-! ## The same: voice, text, the store and the calendar -/

theorem witness_VoiceSetAppliesWhatItNames :
    let r := Request.voiceSet (some 1) none (some 2) none (some 1)
    let bad := Request.voiceSet none none (some 3) none none
    let c := call1 .connected true true none
    (asks up 1 r).accepts 1 r ∧ (asks up 1 r).quiet ∧ (∀ o ∈ some (1 : Byte), o.toNat ≤ 1) ∧ (∀ o ∈ some (2 : Byte), o.toNat ≤ 2) ∧
    (∀ o ∈ (none : Option Byte), o.toNat ≤ 1) ∧ (∀ i, (up.call i).state ≠ .connected) ∧ (asks up 1 bad).accepts 1 bad ∧
    ¬(3 : Byte).toNat ≤ 2 ∧ (asks c 1 r).accepts 1 r ∧ (c.call .one).state = .connected := by
  and_intros <;> first | decide | rfl | exact asks_accepts _ _ _ rfl rfl | (intro x; cases x <;> decide) | simp

/-- A running port with entries in its downlink ring. -/
def playing (down : List VoiceEntry) (inProgress : Option (List Byte)) (follow : Bool) : State :=
  { up with voice := { up.voice with
    running := true, down := down, frame := inProgress
    settings := { up.voice.settings with frame := if follow then .follow else .drive } } }
def entry (m : Mark) : VoiceEntry := { mark := m, octets := List.replicate 20 1 }

theorem witness_APortFrameTakesTheOldestEntry :
    let s := playing [entry .good, entry .lost] none false
    let f := playing [entry .signal] (some []) true
    let nine := playing (List.replicate 9 (entry .damaged)) none false
    s.awake = true ∧ s.voice.running = true ∧ s.voice.settings.frame = .drive ∧ s.voice.settings.clock = .drive ∧
    s.now.toNat % 10 = 0 ∧ s.voice.lastFrame ≠ some s.now ∧ s.quiet ∧ s.voice.down = entry .good :: [entry .lost] ∧
    [entry .lost] ≠ [] ∧ f.awake = true ∧ f.voice.settings.frame = .follow ∧ f.voice.playing = false ∧ f.voice.down.length < 2 ∧
    nine.awake = true ∧ 8 < nine.voice.down.length := by
  and_intros <;> first | decide | rfl

theorem witness_AFrameWithoutDataRepeatsTheStore :
    let v : Voice := { up.voice with store := some (List.replicate 20 1), repeats := 2 }
    v.store = some (List.replicate 20 1) ∧ v.repeats < 3 ∧ up.voice.store = none := by
  and_intros <;> first | decide | rfl

theorem witness_AnUplinkBlockJoinsTheRing :
    let s := playing [] (some []) true
    let full : State := { s with voice := { s.voice with up := List.replicate 16 [] } }
    s.awake = true ∧ s.voice.running = true ∧ s.quiet ∧ s.voice.frame ≠ none ∧ (List.replicate 21 (0 : Byte)).length = 21 ∧
    s.voice.up.length < 16 ∧ full.awake = true ∧ 16 ≤ full.voice.up.length ∧ (playing [] none true).voice.frame = none := by
  and_intros <;> first | decide | rfl

/-- Subscription A in a state, with outbox entries. -/
def texting (st : SubState) (es : List OutEntry) : State := { subA st with text := { up.text with outbox := es } }

theorem witness_ATextPieceIsCheckedAndStored :
    let r (i l : Byte) := Request.textSend 0 [1, 2] 9 i l [0x41]
    let ok (s : State) (i l : Byte) := (asks s 1 (r i l)).accepts 1 (r i l)
    let eight := texting .noService (List.replicate 8 (outEntry .ready 1) |>.map fun e => { e with sub := .B })
    ok up 0 0 ∧ up.quiet ∧ ¬1 ≤ (0 : Byte).toNat ∧ subOf 0 = some .A ∧ ([1, 2] : Digits).length ≤ 20 ∧
    (∀ d ∈ ([1, 2] : Digits), d.toNat ≤ 9) ∧ ok up 8 1 ∧ (up.sub .A).state = .empty ∧ ok (subA .noService) 2 0 ∧
    ((subA .noService).sub .A).detaching = none ∧ (subA .noService).outEntry .A 9 = none ∧ ok (texting .camped [outEntry .ready 1]) 1 0 ∧
    (texting .camped [outEntry .ready 1]).outEntry .A 9 = some (outEntry .ready 1) ∧ ok (subA .noService) 1 1 ∧
    (subA .noService).text.outbox.length < 8 ∧ ((subA .noService).text.outbox.map fun e => e.parts.length).sum < 32 ∧
    ok eight 1 0 ∧ 8 ≤ eight.text.outbox.length ∧ eight.outEntry .A 9 = none ∧ ok (texting .noService [outEntry .assembling 7]) 8 1 ∧
    (texting .noService [outEntry .assembling 7]).outEntry .A 9 = some (outEntry .assembling 7) ∧
    (outEntry .assembling 7).next = some (8 : Byte).toNat ∧ (outEntry .assembling 7).destination = [1, 2] ∧
    ok (texting .camped [outEntry .assembling 1]) 2 0 ∧ (outEntry .assembling 1).next = some (2 : Byte).toNat ∧
    (2 : Byte).toNat < 8 := by
  and_intros <;> first | decide | rfl | exact asks_accepts _ _ _ rfl rfl

theorem witness_ATextPieceIsCheckedAndStored_raised :
    let c : State := { texting .camped [outEntry .ready 1] with engaged := some { sub := .B, stage := .connected } }
    let a : State := { texting .engaged [outEntry .ready 1] with engaged := some { sub := .A, stage := .attempt attempt } }
    let g : State := { connected [.call] with text := { up.text with outbox := [outEntry .ready 1] } }
    (c.sub .A).detaching = none ∧ (c.sub .A).state = .camped ∧ c.engaged ≠ none ∧ c.engQueue = [] ∧ (a.sub .A).state = .engaged ∧
    a.engaged = some { sub := .A, stage := .attempt attempt } ∧ Purpose.text ∉ attempt.purposes ∧ (g.sub .A).state = .engaged ∧
    g.engaged = some { sub := .A, stage := .connected } ∧ g.connection .A = some (conn [.call]) ∧ g.doneGone = false ∧
    Purpose.register ∉ (conn [.call]).purposes ∧ g.sendingEntry .A = none ∧
    (outEntry .ready 1 ∈ g.text.outbox ∧ (outEntry .ready 1).sub = .A ∧ (outEntry .ready 1).state = .ready) ∧
    (∀ f ∈ g.text.outbox, f.sub = .A → f.state = .ready → f ≠ outEntry .ready 1 → (outEntry .ready 1).order < f.order) := by
  and_intros <;> first | decide | rfl

theorem witness_APieceIsCancelledOrAbandoned :
    let r := Request.textCancel 0 9
    let ok (s : State) := (asks s 1 r).accepts 1 r
    let two := texting .camped [outEntry .ready 1, { outEntry .sending 1 with reference := 10 }]
    let s := texting .camped [outEntry .assembling 1]
    let full : State := { s with text := { s.text with
      subs := s.text.subs.set .A { TextSub.reset with outcomes := List.replicate 8 (1, .sent) } } }
    (asks up 1 (.textCancel 2 9)).accepts 1 (.textCancel 2 9) ∧ up.quiet ∧ subOf 2 = none ∧ subOf 0 = some .A ∧ ok up ∧
    up.outEntry .A 9 = none ∧ ok (texting .camped [outEntry .sending 1]) ∧
    (texting .camped [outEntry .sending 1]).outEntry .A 9 = some (outEntry .sending 1) ∧ ok two ∧
    two.outEntry .A 9 = some (outEntry .ready 1) ∧ { outEntry .sending 1 with reference := 10 } ∈ two.text.outbox ∧ ok s ∧
    s.awake = true ∧ s.quiet ∧
    (s.text.outbox.filter fun f => decide (f.sub = .A ∧ f.reference = 9)) = [outEntry .assembling 1] ∧
    (outEntry .assembling 1).assembly = some 0 ∧ (s.now - 0).toNat < 2 ^ 31 ∧
    (∀ f ∈ s.text.outbox, f.sub = .A → f.state ≠ .sent ∧ f.state ≠ .failed) ∧ (s.textOf .A).outcomes.length < 8 ∧
    full.awake = true ∧ 8 ≤ (full.textOf .A).outcomes.length := by
  and_intros <;> first | decide | rfl | exact asks_accepts _ _ _ rfl rfl

theorem witness_APieceIsCancelledOrAbandoned_last :
    let r := Request.textCancel 0 9
    let ok (s : State) := (asks s 1 r).accepts 1 r
    let q := texting .camped [outEntry .ready 1]
    let a : State := { texting .engaged [outEntry .ready 1] with
      engaged := some { sub := .A, stage := .attempt (attemptFor [.call, .text]) } }
    let g : State := { connected [.text] with text := { up.text with outbox := [outEntry .ready 1] } }
    ok q ∧ q.outEntry .A 9 = some (outEntry .ready 1) ∧ (outEntry .ready 1).state = .ready ∧ q.connection .A = none ∧
    (∀ f ∈ q.text.outbox, f.sub = .A → f.reference ≠ 9 → f.state ≠ .ready ∧ f.state ≠ .sending) ∧ q.engaged = none ∧ ok a ∧
    a.connection .A = none ∧ a.engaged = some { sub := .A, stage := .attempt (attemptFor [.call, .text]) } ∧
    ((attemptFor [.call, .text]).purposes.filter fun p => decide (p ≠ .text)) ≠ [] ∧ ok g ∧
    g.connection .A = some (conn [.text]) ∧ Purpose.text ∈ (conn [.text]).purposes ∧ Purpose.leave ∉ (conn [.text]).purposes ∧
    (g.textOf .A).incoming = false := by
  and_intros <;> first | decide | rfl | exact asks_accepts _ _ _ rfl rfl

theorem witness_TheTimersAndMessagesOfATextInTransfer :
    let s := texting .engaged [outEntry .sending 1]
    let a : State := { up with text := { up.text with table := [arriving] } }
    let i (s : State) : State := { s with text := { s.text with
      subs := s.text.subs.set .A { TextSub.reset with incoming := true, idle := .running 0 } } }
    s.awake = true ∧ s.quiet ∧ (s.now - 0).toNat < 2 ^ 31 ∧ s.sendingEntry .A = some (outEntry .sending 1) ∧
    (outEntry .sending 1).wait = .running 0 ∧ (outEntry .sending 1).part = some 1 ∧ (outEntry .sending 1).sends < 3 ∧
    a.awake = true ∧
    (a.text.table.find? fun f => decide (f.sub = .A ∧ f.sender = [1, 2] ∧ f.reference = 4)) = some arriving ∧
    arriving.closing = none ∧ arriving.age = some 0 ∧ arriving.slot = some slot20 ∧ (i a).awake = true ∧
    ((i a).textOf .A).idle = .running 0 ∧ arriving ∈ (i a).text.table ∧ arriving.sub = .A ∧ (i s).awake = true ∧
    ((i s).textOf .A).idle = .running 0 ∧ (i s).text.table = [] ∧ outEntry .sending 1 ∈ (i s).text.outbox := by
  and_intros <;> first | decide | rfl

theorem witness_TheTimersAndMessagesOfATextInTransfer_last :
    let e : OutEntry := { outEntry .sending 1 with sends := 3 }
    let n : OutEntry := { outEntry .ready 1 with reference := 10 }
    let g (es : List OutEntry) : State := { connected [.text] with text := { up.text with outbox := es } }
    let i : State := { connected [.text] with text := { up.text with
      subs := up.text.subs.set .A { TextSub.reset with incoming := true, idle := .running 0 } } }
    (g [e]).awake = true ∧ (g [e]).sendingEntry .A = some e ∧ e.wait = .running 0 ∧ 3 ≤ e.sends ∧
    ((g [e]).textOf .A).outcomes.length < 8 ∧ (∀ f ∈ (g [e]).text.outbox, f.sub = .A → f.state ≠ .sent ∧ f.state ≠ .failed) ∧
    (∀ f ∈ (g [e]).text.outbox, f.sub = .A → f.reference = e.reference → f = e) ∧ (g [e]).text.outbox.Nodup ∧
    (g [e]).connection .A = some (conn [.text]) ∧ Purpose.text ∈ (conn [.text]).purposes ∧
    Purpose.leave ∉ (conn [.text]).purposes ∧ Purpose.register ∉ (conn [.text]).purposes ∧
    (∀ f ∈ (g [e]).text.outbox, f.sub = .A → f.state ≠ .ready) ∧ ((g [e]).textOf .A).incoming = false ∧
    (g [e, n]).sendingEntry .A = some e ∧ (g [e, n]).text.outbox.Nodup ∧ n ∈ (g [e, n]).text.outbox ∧ n.state = .ready ∧
    (∀ f ∈ (g [e, n]).text.outbox, f.sub = .A → f.reference = e.reference → f = e) ∧
    (∀ f ∈ (g [e, n]).text.outbox, f.sub = .A → f.state = .ready → f ≠ n → n.order < f.order) ∧ i.awake = true ∧
    (i.textOf .A).idle = .running 0 ∧ i.text.table = [] ∧ i.text.outbox = [] ∧ i.connection .A = some (conn [.text]) := by
  and_intros <;> first | decide | rfl

theorem witness_TheTimersAndMessagesOfATextInTransfer_answers :
    let e : OutEntry := { outEntry .sending 1 with count := some 2, parts := [[1], [2]] }
    let l : OutEntry := { e with part := some 2 }
    let g (es : List OutEntry) : State := { connected [.text] with text := { up.text with outbox := es } }
    (g [e]).connection .A = some (conn [.text]) ∧ (g [e]).sendingEntry .A = some e ∧ e.part = some 1 ∧ e.count ≠ some 1 ∧
    (g [l]).sendingEntry .A = some l ∧ l.part = some 2 ∧ l.count = some 2 ∧ ((g [l]).textOf .A).outcomes.length < 8 ∧
    (∀ f ∈ (g [l]).text.outbox, f.sub = .A → f.state ≠ .sent ∧ f.state ≠ .failed) ∧ (g [l]).text.outbox.Nodup ∧
    (g []).sendingEntry .A = none ∧ Purpose.text ∉ (conn [.call]).purposes ∧
    ({ connected [.call] with text := { up.text with outbox := [l] } } : State).sendingEntry .A = some l := by
  and_intros <;> first | decide | rfl

/-- The reassembly entry of a text of two parts that `arriving` collects, with four entries of that kind. -/
def collecting (n : Nat) (closing : Option Closing) : State :=
  { connected [.text] with text := { up.text with
    table := (List.range n).map fun k => { arriving with reference := 4 + k, closing := closing } } }

theorem witness_TheTimersAndMessagesOfATextInTransfer_parts :
    let named (ref : Nat) (e : Reassembly) : Bool := decide (e.sub = .A ∧ e.sender = [1, 2] ∧ e.reference = ref)
    let done : State := { connected [.text] with ctx := { (connected [.text]).ctx with doneSent := true } }
    let starts : State := { connected [.text] with text := { up.text with outbox := [outEntry .ready 1] } }
    let r : Recent := { sub := .A, sender := [1, 2], reference := 9, parts := [1], number := 5 }
    let lists (s : State) : State := { s with text := { s.text with recent := [r] } }
    let full : State := protecting 16 (collecting 1 none)
    let one := collecting 1 none
    one.connection .A = some (conn [.text]) ∧ one.doneGone = false ∧ (one.sub .A).detaching = none ∧ done.doneGone = true ∧
    starts.readyFirst .A (outEntry .ready 1) ∧ starts.sendingEntry .A = none ∧ Purpose.register ∉ (conn [.text]).purposes ∧
    one.text.table.find? (named 4) = some arriving ∧ arriving.closing = none ∧ arriving.count = 2 ∧
    1 ∈ arriving.parts.map Prod.fst ∧ 2 ∉ arriving.parts.map Prod.fst ∧ (arriving.parts.map Prod.fst).Pairwise (· < ·) ∧
    one.text.table.filter (named 4) = [arriving] ∧ arriving.parts.length + 1 = 2 ∧ arriving.slot = some slot20 ∧
    (collecting 1 (some .complete)).text.table.find? (named 4) = some { arriving with closing := some .complete } ∧
    one.text.table.find? (named 9) = none ∧
    ((lists one).text.recent.find? fun r => decide (r.sub = .A ∧ r.sender = [1, 2] ∧ r.reference = 9)) = some r ∧
    one.text.recent = [] ∧ allSlots.find? full.store.usable = none ∧
    allSlots.find? one.store.usable = some { block := 0, slot := 0 } ∧ one.text.table.length < 4 ∧
    4 ≤ (collecting 4 none).text.table.length ∧
    ((collecting 4 none).text.table.find? fun f => decide (f.closing = none)) = some arriving ∧
    (∀ e ∈ (collecting 4 (some .complete)).text.table, e.closing ≠ none) := by
  and_intros <;> first | decide +kernel | rfl

theorem witness_store_is_legal : (collecting 4 none).store.legal ∧ holds5.store.legal := by
  refine ⟨⟨rfl, ?_, rfl, ?_⟩, ⟨rfl, ?_, rfl, ?_⟩⟩ <;> decide +kernel

theorem witness_TheTimersAndMessagesOfATextInTransfer_recent :
    ∃ q ∈ allSlots, holds5.store.holds 5 q = true ∧
      (holds5.store.messageAt q).map (fun m => (m.header.sub, m.header.sender)) = some (.A, [1, 2]) :=
  ⟨slot20, by decide, by decide +kernel, rfl⟩

/-- The store of `holds5` with operations queued and with blocks protected. -/
def storing (queue : List StoreOp) (protect : Nat) : State :=
  { holds5 with store := { holds5.store with queue := queue, descriptor := { Descriptor.default with count := protect } } }

theorem witness_StoreRequestsAreCheckedAndQueued_delete :
    let r := Request.storeDelete 5
    let ok (s : State) := (asks s 1 r).accepts 1 r
    (asks up 1 (.storeDelete 0)).accepts 1 (.storeDelete 0) ∧ up.quiet ∧ ok up ∧ (5 : BitVec 16) ≠ 0 ∧ up.store.find 5 = none ∧
    ok (storing [] 3) ∧ (storing [] 3).store.find 5 = some slot20 ∧ (storing [] 3).store.isProtected 2 = true ∧
    ok (storing [.keepCopy 5 slot20 slot20 3] 0) ∧ StoreOp.keepCopy 5 slot20 slot20 3 ∈ (storing [.keepCopy 5 slot20 slot20 3] 0).store.ops ∧
    ok (storing [] 2) ∧ (storing [] 2).store.find 5 = some slot20 ∧ (storing [] 2).store.isProtected 2 = false ∧
    (storing [] 2).store.ops = [] ∧ (storing [] 2).store.newDescriptor = none ∧ ok (storing [.mark slot20 (.delete [1])] 0) ∧
    (storing [.mark slot20 (.delete [1])] 0).store.queue = [] ++ .mark slot20 (.delete [1]) :: [] ∧
    (storing [.mark slot20 (.delete [1])] 0).store.running = none := by
  and_intros <;> first | decide | rfl | exact asks_accepts _ _ _ rfl rfl | decide +kernel

theorem witness_StoreRequestsAreCheckedAndQueued_relocation :
    let copy := StoreOp.relocCopy 5 slot20 { block := 0, slot := 0 } false
    let r : State := { storing [] 0 with store := { (storing [] 0).store with
      running := some { op := copy, accumulated := 0, since := some 0 } } }
    (asks r 1 (.storeDelete 5)).accepts 1 (.storeDelete 5) ∧ r.store.find 5 = some slot20 ∧
    r.store.running = some { op := copy, accumulated := 0, since := some 0 } ∧ r.store.queue = [] ∧ r.store.newDescriptor = none ∧
    (asks (storing [copy] 0) 1 (.storeDelete 5)).accepts 1 (.storeDelete 5) ∧ (storing [copy] 0).store.find 5 = some slot20 ∧
    (storing [copy] 0).store.queue = [] ++ copy :: [] ∧ (storing [copy] 0).store.running = none ∧
    (∀ x, ((storing [copy] 0).sub x).memoryFull = false) ∧ (storing [copy] 0).text.table = [] ∧
    (storing [copy] 0).store.reclaim = none := by
  and_intros <;> first | decide +kernel | rfl | exact asks_accepts _ _ _ rfl rfl | (intro x; cases x <;> decide)

theorem witness_StoreRequestsAreCheckedAndQueued_keep :
    let r := Request.storeKeep 5
    let ok (s : State) := (asks s 1 r).accepts 1 r
    (asks up 1 (.storeKeep 0)).accepts 1 (.storeKeep 0) ∧ ok up ∧ ok (storing [] 3) ∧ ok (storing [] 0) ∧
    (storing [] 0).store.isProtected 2 = false ∧ (storing [] 0).store.ops = [] ∧ (storing [] 0).store.keepTarget = none ∧
    ok (storing [] 2) ∧ (storing [] 2).store.keepTarget = some { block := 0, slot := 0 } ∧ ok (storing [.mark slot20 .repair] 0) ∧
    StoreOp.mark slot20 .repair ∈ (storing [.mark slot20 .repair] 0).store.ops := by
  and_intros <;> first | decide | rfl | exact asks_accepts _ _ _ rfl rfl | decide +kernel

theorem witness_StoreRequestsAreCheckedAndQueued_protect :
    let r := Request.storeProtect 1 16 1
    let ok (s : State) := (asks s 1 r).accepts 1 r
    (asks up 1 (.storeProtect 0 17 0)).accepts 1 (.storeProtect 0 17 0) ∧ ¬(17 : Byte).toNat ≤ 16 ∧ ok up ∧ (16 : Byte).toNat ≤ 16 ∧
    (1 : Byte).toNat ≤ 1 ∧ up.store.ops = [] ∧ up.store.reclaim = none ∧ ok (storing [.settings .default 4] 0) ∧
    StoreOp.settings .default 4 ∈ (storing [.settings .default 4] 0).store.ops ∧
    (∀ b < 16, ∀ i < 8, up.store.stateAt { block := b, slot := i } = .free) := by
  and_intros <;> first | decide | rfl | exact asks_accepts _ _ _ rfl rfl | decide +kernel

theorem witness_TheOldestOperationStarts :
    let s := storing [.erase 3 false, .mark slot20 .repair] 0
    let w := storing [.erase 3 false, .write slot20 message5] 0
    let e := storing [.erase 3 false] 0
    s.power.state = .run ∧ s.power.held = false ∧ s.store.running = none ∧ s.cal.windows = [] ∧ s.quiet ∧
    s.store.queue = [.erase 3 false] ++ .mark slot20 .repair :: [] ∧ (StoreOp.erase 3 false).isStep = true ∧
    (StoreOp.mark slot20 .repair).isStep = false ∧ w.store.queue = [.erase 3 false] ++ .write slot20 message5 :: [] ∧
    1 ≤ w.store.nextNumber ∧ w.store.nextNumber ≤ 65535 ∧ e.store.queue = [] ++ .erase 3 false :: [] ∧ e.store.running = none ∧
    up.store.queue = [] := by
  and_intros <;> first | decide +kernel | rfl

/-- A store with an operation running since slot 0, and a request waiting for it. -/
def operating (o : StoreOp) (s : State) : State :=
  { s with
    now := 200, store := { s.store with running := some { op := o, accumulated := 0, since := some 0 } }
    link := { s.link with reserved := [{ ticket := 0, tag := 1, code := 0x3A }] } }

theorem witness_StoreOperationsEnd :
    let w := operating (.write slot20 message5) { up with text := { up.text with table := [arriving] } }
    let m (why : MarkReason) := operating (.mark slot20 why) holds5
    let e := operating (.erase 2 false) { up with store := { up.store with reclaim := some 2 } }
    let d := operating (.settings .default 0) up
    w.power.state = .run ∧ w.power.held = false ∧ w.power.wait ≠ .stopping ∧
    w.store.running = some { op := .write slot20 message5, accumulated := 0, since := some 0 } ∧
    (StoreOp.write slot20 message5).duration ≤ 0 + (w.now - 0).toNat ∧ w.quiet ∧
    (w.text.table.find? fun f => decide (f.slot = some slot20)) = some arriving ∧ (m .repair).power.wait ≠ .stopping ∧
    (m (.delete [0])).link.reserved = { ticket := 0, tag := 1, code := 0x3A } :: [] ∧ (m (.delete [0])).quiet ∧
    (StoreOp.erase 2 false).duration ≤ 0 + (e.now - 0).toNat ∧ e.store.reclaim = some 2 ∧
    e.store.flash.blocks[2]? = some { erases := 0, retired := false, readable := true, cells := List.replicate 8 .erased } ∧
    (∀ x, (e.sub x).memoryFull = false) ∧ e.text.table = [] ∧ d.store.reclaim = none ∧ d.quiet ∧
    (∀ n p q t, StoreOp.keepCopy n p q t ∉ d.store.queue) ∧
    (∀ b < 16, d.store.isProtected b = true → Descriptor.default.protects b = true) := by
  and_intros <;> first | decide +kernel | rfl | (intro x; cases x <;> decide) | (intro n p q t; exact List.not_mem_nil)

theorem witness_StoreOperationsEnd_copies :
    let p : SlotId := { block := 0, slot := 0 }
    let k := operating (.keepCopy 5 slot20 p 0) holds5
    let r (drop : Bool) := operating (.relocCopy 5 slot20 p drop) holds5
    let m := operating (.mark slot20 .relocation) { holds5 with store := { holds5.store with reclaim := some 2 } }
    k.store.running = some { op := .keepCopy 5 slot20 p 0, accumulated := 0, since := some 0 } ∧
    k.store.messageAt slot20 = some message5 ∧ (StoreOp.keepCopy 5 slot20 p 0).duration ≤ 0 + (k.now - 0).toNat ∧ k.quiet ∧
    k.link.reserved = { ticket := 0, tag := 1, code := 0x3A } :: [] ∧ k.store.reclaim = none ∧
    (r false).store.messageAt slot20 = some message5 ∧ (r true).quiet ∧
    (r true).store.running = some { op := .relocCopy 5 slot20 p true, accumulated := 0, since := some 0 } ∧
    m.power.operating = true ∧ m.store.reclaim = some 2 ∧ m.store.queue = [] ∧ m.power.wait ≠ .stopping ∧
    (operating (.retireMark 3) up).store.running = some { op := .retireMark 3, accumulated := 0, since := some 0 } ∧
    (operating (.erase 2 false) up).store.reclaim ≠ some 2 := by
  and_intros <;> first | decide +kernel | rfl

theorem witness_StoreOperationsEnd_failures :
    let o := StoreOp.write slot20 message5
    let w (count : Nat) : State := protecting count (operating o { up with text := { up.text with table := [arriving] } })
    let k := StoreOp.keepCopy 5 slot20 { block := 0, slot := 0 } 0
    let c (count : Nat) : State := protecting count (operating k holds5)
    allSlots.find? ((w 0).failedAt o slot20).store.usable = some { block := 0, slot := 0 } ∧
    allSlots.find? ((w 16).failedAt o slot20).store.usable = none ∧
    ((c 1).failedAt k { block := 0, slot := 0 }).store.keepTarget = some { block := 0, slot := 1 } ∧
    ((c 0).failedAt k { block := 0, slot := 0 }).store.keepTarget = none := by
  and_intros <;> first | decide +kernel | rfl

theorem witness_WindowsAreOrderedAndEnd :
    let w := win 5 102 1
    let g : Window := { w with purpose := .accessTx, reporter := .context, block := some .idle }
    let p (w : Window) : State := { up with now := 100, cal := { up.cal with windows := [w] } }
    let o : Window := { w with state := .ordered, withdrawn := true }
    let d (fails : Nat) (silent : Bool) : State := { up with
      now := 105
      cal := { up.cal with
        windows := [o], failed := fails, silent := silent, outstanding := [{ number := 3, order := o.order, window := o.id }] } }
    let r := operating (.erase 3 false) (p g)
    (p w).awake = true ∧ (p w).quiet ∧ (p w).cal.windows = [] ++ w :: [] ∧ w.state = .planned ∧
    ((p w).now - (w.start - 2)).toNat < 2 ^ 31 ∧ (p w).store.running = none ∧ w.purpose = .meas ∧ r.awake = true ∧
    r.store.running = some { op := .erase 3 false, accumulated := 0, since := some 0 } ∧ g.block = some .idle ∧
    (d 2 true).awake = true ∧ (d 2 true).cal.windows = [] ++ o :: [] ∧ o.state = .ordered ∧ o.withdrawn = true ∧
    ((d 2 true).cal.outstanding.find? fun a => decide (a.number = 3) && expects a.order (.sample 90)) =
      some { number := 3, order := o.order, window := o.id } ∧
    ((d 2 true).now - (o.start + BitVec.ofNat 32 (o.len + 2))).toNat < 2 ^ 31 ∧ (d 2 true).cal.failed = 2 ∧
    (d 0 false).cal.silent = false := by
  and_intros <;> first | decide | rfl

/-- The state with one window in the calendar, two slots before its start. -/
def dueWith (w : Window) (s : State) : State := { s with now := 100, cal := { s.cal with windows := [w], quiet := false } }

/-- The DED_TX window of the call of subscription A, with a queue and an uplink ring. -/
def dedTx (queue : List Queued) (ring : List (List Byte)) (talking : Bool) : State :=
  let w := { window .dedTx with id := 4, reporter := .context, cls := .dedicated, start := 102, len := 1, requested := 102 }
  let s := dueWith w (if talking then call1 .connected false true none else connected [.call])
  { s with ctx := { s.ctx with queue := queue }, voice := { s.voice with up := ring, running := talking } }

theorem witness_WindowsAreOrderedAndEnd_dedicated :
    let q : Queued := { id := 7, msg := .done }
    let w := { window .dedTx with id := 4, reporter := .context, cls := .dedicated, start := 102, len := 1, requested := 102 }
    (dedTx [q] [[1]] true).awake = true ∧ (dedTx [q] [[1]] true).quiet ∧ (dedTx [q] [[1]] true).cal.windows = [] ++ w :: [] ∧
    (dedTx [q] [[1]] true).store.running = none ∧ w.purpose = .dedTx ∧ w.reporter = .context ∧
    ((dedTx [q] [[1]] true).now - (w.start - 2)).toNat < 2 ^ 31 ∧ (dedTx [q] [[1]] true).ctx.queue = q :: [] ∧
    (dedTx [q] [[1]] true).voiceCall = true ∧ (dedTx [q] [[1]] false).voiceCall = false ∧ (dedTx [] [[1]] true).ctx.queue = [] ∧
    (dedTx [] [[1]] true).voice.up = [1] :: [] ∧ (dedTx [] [] true).voice.up = [] := by
  and_intros <;> first | decide | rfl

/-- The cell of `campedA` by an anchor whose frame 10 begins at slot 94. -/
def campedB : CampedCell := { campedA with anchor := { s0 := 94, f0 := 10 } }

theorem witness_WindowsAreOrderedAndEnd_access :
    let w := { window .accessTx with id := 4, cls := .access, start := 102, len := 1, requested := 102, block := some (.burst .callOut 3) }
    let a : Attempt := { attemptFor [.call] with tx := some (4, 10) }
    let d := dueWith w (camping .engaged (some (.attempt a)))
    let s : State := { d with subs := d.subs.set .A { d.sub .A with camped := some campedB } }
    s.awake = true ∧ s.quiet ∧ s.cal.windows = [] ++ w :: [] ∧ (s.now - (w.start - 2)).toNat < 2 ^ 31 ∧ w.purpose = .accessTx ∧
    w.reporter = .subscription ∧ w.owner = .sub .A ∧ w.block = some (.burst .callOut 3) ∧
    s.engaged = some { sub := .A, stage := .attempt a } ∧ a.tx = some (w.id, 10) ∧ a.watches = [] ∧
    (s.sub .A).camped = some campedB ∧ campedB.cell.channel = w.channel ∧ w.start = s.now + 2 ∧ s.cal.quiet = false ∧
    (List.range 5).all (fun k => frameSlot campedB.anchor (10 + BitVec.ofNat 16 (k + 1)) 0 s.now =
      w.start + BitVec.ofNat 32 (10 * (k + 1) - 8)) = true := by
  and_intros <;> first | decide +kernel | rfl

/-- Subscription A camped, the PAGE window of frame 10 just gone from the calendar. -/
def paging : State :=
  let s := late (withA up { SubRec.reset with
    state := .camped, camped := some campedB, key := some 10, page := some (1, 10), downlink := 6 })
  { s with meas := { s.meas with subs := s.meas.subs.set .A { s.measOf .A with mode := .idle } } }

theorem witness_WindowsAreOrderedAndEnd_page :
    let next := (10 : FrameNo) + BitVec.ofNat 16 (64 * 2 ^ campedB.params.listen)
    let ahead (a : Anchor) := 3 ≤ (frameSlot a next 0 paging.now - paging.now).toNat ∧
      (frameSlot a next 0 paging.now - paging.now).toNat < 2 ^ 31
    (paging.sub .A).state = .camped ∧ (paging.sub .A).page = some (1, 10) ∧ (paging.sub .A).camped = some campedB ∧
    isOccasion campedB ((paging.sub .A).key.getD 0) 10 = true ∧ (paging.sub .A).refresh ≠ some { frame := 10, window := none } ∧
    paging.meas.entries = [] ∧ (paging.measOf .A).mode = .idle ∧ (paging.measOf .A).rounds = [] ∧
    (paging.sub .A).notices = false ∧ paging.cal.windows = [] ∧ paging.cal.quiet = false ∧ ahead campedB.anchor ∧
    ahead { s0 := (window .pageRx).start, f0 := 12 } ∧ 2 < (paging.sub .A).downlink ∧ 0 < min ((paging.sub .A).downlink + 1) 10 := by
  and_intros <;> first | decide +kernel | rfl

/-- An entry of the neighbour table: of subscription A's serving cell, or owned by it, with a filtered level and a trigger count. -/
def near (i channel : Nat) (serves : Bool) (level : Option Nat) (trigger : Nat) : Entry :=
  { index := i, cell := { channel := channel, code := 1 }, owner := ⟨!serves, false⟩, serving := ⟨serves, false⟩, offset := ⟨0, 0⟩
    depth := 2, level := level, rounds := 3, trigger := ⟨trigger, 0⟩, bound := none }

/-- A round of subscription A with one open attempt, for entry 1. -/
def sampling (w : Option WinId) : Round :=
  { attempts := [{ entry := 1, passed := true, window := w, ended := none }], serving := none, bare := false }

/-- The state with a neighbour table, and subscription A in a mode with rounds. -/
def measuring (m : Mode) (es : List Entry) (rs : List Round) (s : State) : State :=
  { s with meas := { entries := es, subs := s.meas.subs.set .A { s.measOf .A with mode := m, rounds := rs } } }

theorem witness_WindowsAreOrderedAndEnd_counted :
    let f : DedFrame := { start := 100, rx := some 4, tx := some 5 }
    let g : DedFrame := { start := 110, rx := some 6, tx := some 7 }
    let c : Context := { conn [.call] with counter := some 3 }
    let m := measuring .dedicated [near 0 5 true (some 800) 0, near 1 9 false none 0] [sampling none] (connected [.call])
    let s : State := { m with now := 110, ctx := { m.ctx with frames := [f, g], active := some c } }
    s.connection .A = some c ∧ s.ctx.frames = [f, g] ∧ (5 : WinId) ≠ 4 ∧ g.rx ≠ some 4 ∧ g.tx ≠ some 4 ∧ g.rx.isSome = true ∧
    c.f0 ≠ none ∧ c.counter = some 3 ∧ (s.measOf .A).mode = .dedicated ∧ (s.measOf .A).rounds = sampling none :: [] ∧
    (sampling none).attempts ≠ [] ∧ s.servingEntry .A = some (near 0 5 true (some 800) 0) ∧
    (∀ z, ∀ q ∈ (s.measOf z).rounds, ∀ a ∈ q.attempts, a.entry ≠ (near 0 5 true (some 800) 0).index) ∧
    (∀ o ∈ s.meas.entries, o.serving.get .B = false) ∧
    0 < min (3 + 2) (((s.sub .A).camped.map fun k => k.params.tolerance).getD 0) ∧ 2 ≤ 3 ∧
    (∀ fr m, Block.sig 33 none ≠ .sig fr (some m)) ∧ (playing [] none false).voice.running = true ∧ up.voice.running = false := by
  and_intros <;> first | decide | rfl | (intro z; cases z <;> decide) | (intro fr m h; cases h)

/-- Subscription A in an attempt of which only a watch of frame 11 is left, that has just ended. -/
def watched (ps : List Purpose) : State :=
  let a : Attempt := { attemptFor ps with watches := [(4, 11)] }
  let s := late (withA up { SubRec.reset with state := .engaged, camped := some campedB, key := some 3, identity := some 70000 })
  { s with engaged := some { sub := .A, stage := .attempt a } }

theorem witness_WindowsAreOrderedAndEnd_granted :
    let w := { window .grantRx with id := 4, cls := .access, start := 98 }
    let a (ps : List Purpose) : Attempt := { attemptFor ps with watches := [(4, 11)] }
    let g : Grant := { reference := 3, rx := 2, tx := 6 }
    let r : State := { watched [.call, .register] with
      calls := { up.calls with one := { CallRec.reset with sub := some .A, state := .requesting } } }
    w.owner = .sub .A ∧ w.reporter = .subscription ∧ w.purpose = .grantRx ∧
    (watched [.call]).engaged = some { sub := .A, stage := .attempt (a [.call]) } ∧ ((watched [.call]).sub .A).camped = some campedB ∧
    (w.id, (11 : FrameNo)) ∈ (a [.call]).watches ∧ (a [.call]).tx.map Prod.fst ≠ some w.id ∧ (watched [.call]).cal.windows = [] ∧
    (watched [.call]).cal.quiet = false ∧ ((watched [.call]).now - w.start).toNat ≤ 9 ∧ g.reference = (a [.call]).reference ∧
    2 ≤ g.rx ∧ g.rx + 2 ≤ g.tx ∧ g.tx ≤ 9 ∧ Purpose.register ∉ (a [.call]).purposes ∧
    Purpose.register ∈ (a [.call, .register]).purposes ∧ (watched [.register]).callOf .A = none ∧ r.callOf .A = some .one ∧
    (r.call .one).state = .requesting := by
  and_intros <;> first | decide | rfl

theorem witness_WindowsAreOrderedAndEnd_message :
    let f : DedFrame := { start := 100, rx := some 4, tx := some 5 }
    let g : DedFrame := { start := 110, rx := some 6, tx := some 7 }
    let c := connected [.call]
    let s : State := { c with ctx := { c.ctx with frames := [{ f with rx := none }, g] } }
    2 ≤ (s.received .A 100 .progress).ctx.frames.length ∧ (s.received .A 100 .dropOk).ctx.frames.length = 2 := by
  and_intros <;> decide

theorem witness_WindowsAreOrderedAndEnd_outcome :
    let o : Window := { window .pageRx with id := 1, start := 94, state := .ordered }
    let s : State := { paging with cal := { paging.cal with
      windows := [o], outstanding := [{ number := 3, order := .receive 5 94 2, window := 1 }] } }
    s.awake = true ∧ s.quiet ∧ s.cal.windows = [] ++ o :: [] ∧ o.state = .ordered ∧ o.withdrawn = false ∧ s.store.running = none ∧
    (s.cal.outstanding.find? fun a => decide (a.number = 3) && expects a.order (.blockBad 90)) =
      some { number := 3, order := .receive 5 94 2, window := o.id } ∧
    (s.now - (o.start + BitVec.ofNat 32 (o.len + 2))).toNat < 2 ^ 31 ∧ s.cal.failed ≠ 2 ∧ s.cal.silent = false := by
  and_intros <;> first | decide | rfl

theorem witness_TwoWindowsConflictExactlyWhen :
    1 ≤ (win 5 100 1).len ∧ (win 5 100 1).len ≤ 2 ^ 31 ∧ (win 9 101 10).len ≤ 2 ^ 31 := by decide

theorem witness_SettlingKeepsTheCalendarFreeOfConflicts :
    conflictFree [{ win 5 100 2 with id := 1 }, { win 5 102 1 with id := 2 }] ∧
    ((win 9 101 1 :: [{ win 5 100 2 with id := 1 }, { win 5 102 1 with id := 2 }]).map Window.id).Nodup := by
  unfold conflictFree
  decide

/-- A calendar of 32 windows of the lowest class, 4 slots apart. -/
def crowd (st : WinState) : List Window :=
  (List.range 32).map fun k =>
    { win 5 (1000 + BitVec.ofNat 32 (4 * k)) 1 with id := BitVec.ofNat 32 (k + 1), cls := .search, state := st }

theorem witness_SettlingKeepsTheCalendarFreeOfConflicts_contest :
    let r : Window := { win 5 100 2 with id := 1, cls := .search }
    let w : Window := win 9 101 1
    let m : Window := { w with slack := some 1, cls := .search }
    let ws : List Window := [r]
    (∀ v ∈ ws.filter fun v => conflict w v, v.state = .planned ∧ w.cls.above v.cls) ∧ (ws.filter fun v => conflict w v) = [r] ∧
    (ws.filter fun v => conflict m v) = [r] ∧ ¬m.cls.above r.cls ∧ m.movesTo ws { m with start := 103 } ∧
    ({ m with slack := none } : Window).noPlace ws := by
  refine ⟨?_, by decide, by decide, by unfold Class.above; decide, ⟨2, ⟨1, rfl, by decide, by decide⟩, rfl, by decide, ?_⟩, ?_⟩
  · unfold Class.above; decide
  · intro n hn ⟨_, _, _, h⟩
    match n, hn, h with
    | 0, _, h => exact absurd h (by decide)
    | 1, _, _ => exact ⟨_, List.mem_singleton.mpr rfl, by decide⟩
  · intro n ⟨_, h, _⟩; exact nomatch h

theorem witness_SettlingKeepsTheCalendarFreeOfConflicts_full :
    let v : Window := { win 5 1124 1 with id := 32, cls := .search }
    32 ≤ (crowd .planned).length ∧ v ∈ crowd .planned ∧ v.state = .planned ∧
    (∀ u ∈ crowd .planned, u.state = .planned → u ≠ v → v.goesBefore u) ∧ (win 9 2000 1).cls.above v.cls ∧
    ¬({ win 9 2000 1 with cls := .search } : Window).cls.above v.cls ∧ (∀ u ∈ crowd .ordered, u.state ≠ .planned) ∧
    ((crowd .planned).filter fun u => conflict (win 9 2000 1) u) = [] := by
  unfold Window.goesBefore Class.above
  and_intros <;> decide +kernel

theorem witness_SettlingKeepsTheCalendarFreeOfConflicts_crowd :
    conflictFree (crowd .planned) ∧ ((win 9 2000 1 :: crowd .planned).map Window.id).Nodup := by
  unfold conflictFree
  decide +kernel

theorem witness_TheFilterMovesTowardsTheSample : (200 : Nat) ≤ 200 ∧ (3200 : Nat) ≤ 3200 := by decide

/-- A neighbour table of subscription A: its serving cell, one entry above it and triggered, one without a level. -/
def table (count : Nat) : List Entry := [near 0 5 true (some 800) 0, near 1 9 false (some 1000) count, near 2 11 false none 0]

theorem witness_TheFilterMovesTowardsTheSample_idle :
    let s := measuring .idle (table 1) [sampling none] (camping .camped none)
    (s.measOf .A).mode = .idle ∧ (s.sub .A).strikes < 2 := by decide

theorem witness_TheFilterMovesTowardsTheSample_table : ({ up.meas with entries := table 1 } : Meas).legal :=
  ⟨by decide, by decide, by decide, by decide, by intro x; cases x <;> decide⟩

theorem witness_TheFilterMovesTowardsTheSample_window :
    let w : Window := { win 9 90 1 with id := 7 }
    let y : Entry := { near 1 9 false (some 900) 0 with bound := some 7 }
    let s := measuring .idle [near 0 5 true (some 800) 0, y] [sampling (some 7)] up
    w.reporter = .measurement ∧ w.purpose = .meas ∧ (s.meas.entries.filter fun e => decide (e.bound = some w.id)) = [y] ∧
    (s.meas.entries.map Entry.index).Nodup ∧ s.cal.windows = [] ∧
    (∀ x, ∀ r ∈ (s.measOf x).rounds, ∀ a ∈ r.attempts, a.entry = y.index → a.ended = none →
      a.window = none ∨ a.window = some w.id) ∧
    ((measuring .dedicated [y] [] up).measOf .A).mode = .dedicated := by
  and_intros <;> first | decide | rfl | (intro x; cases x <;> decide)

theorem witness_TheFilterMovesTowardsTheSample_trigger :
    let s := measuring .idle (table 1) [] (camping .camped none)
    let s : State := { s with cal := { s.cal with windows := [] } }
    let b := measuring .idle [near 1 9 false none 1] [] (camping .camped none)
    (s.sub .A).target = none ∧ near 1 9 false (some 1000) 1 ∈ s.meas.entries ∧ s.triggered .A (near 1 9 false (some 1000) 1) = true ∧
    (near 1 9 false (some 1000) 1).rankFor .A = some 1000 ∧
    (∀ f ∈ s.meas.entries, s.triggered .A f = true → f = near 1 9 false (some 1000) 1) ∧ s.cal.windows = [] ∧
    s.cal.quiet = false ∧ (∀ e ∈ b.meas.entries, b.triggered .A e = true → e.level = none) := by
  and_intros <;> first | decide | rfl

theorem witness_TheFilterMovesTowardsTheSample_report :
    let s (count : Nat) := measuring .dedicated (table count) [] (connected [.call])
    let d : State := { s 1 with ctx := { (s 1).ctx with waiting := [{ id := 1, msg := .measReport 3 [] }] } }
    (s 1).servingLevel .A = some 50 ∧ ranked .A ((s 1).meas.entries.filter ((s 1).triggered .A)) ≠ [] ∧
    ranked .A ((s 0).meas.entries.filter ((s 0).triggered .A)) = [] ∧ ((s 1).measOf .A).evaluations < 7 ∧
    (s 1).ctx.waiting = [] ∧ d.servingLevel .A = some 50 ∧ ∃ q ∈ d.ctx.waiting, q.msg.isReport = true := by
  and_intros <;> first | decide | rfl

/-- R66, R80, R185: the mode of a MEAS notice has its place in the table of modes, NONE being 0. -/
theorem test_meas_notice_modes :
    putSnapshot (.meas .A false none []) = [0, 1, 0, 0] ∧ putSnapshot (.meas .B true (some 90) []) = [1, 2, 1, 90, 0] := by
  decide

/-- Subscription A in a connection with a round, its serving entry owned by B, whose round has a window for it. -/
def sharing (r : Round) : State :=
  let s := measuring .dedicated [{ near 0 5 true (some 800) 0 with owner := ⟨false, true⟩, bound := some 7 }, near 1 9 false none 0] [r] up
  let b : Round :=
    { attempts := [{ entry := 0, passed := true, window := some 7, ended := none }], serving := some true, bare := false }
  { s with meas := { s.meas with subs := s.meas.subs.set .B { MeasSub.reset with mode := .idle, rounds := [b] } } }

/-- R67, R70: the sample of B's window ends the open serving attempt of A's connection and B's own attempt; a window that FAILED ends
B's attempt alone. -/
theorem test_shared_sample_ends_the_serving_attempt :
    let ended (e : Ended) : List (Option Bool) :=
      let t := (sharing (sampling none)).measWindowOver 7 e
      (t.measOf .A).rounds.map Round.serving ++ (t.measOf .B).rounds.flatMap fun r => r.attempts.map SampleTry.ended
    ended (.done (.sample 90)) = [some true, some true] ∧ ended .failed = [none, some false] := by decide +kernel

/-- R69, R70, R65: a round with an empty list, its serving attempt ended by that sample, goes on until the next DED_RX window ends, and
does not age the entry though that window FAILED; without the sample the entry is older by a round. -/
theorem test_shared_sample_in_a_round_with_an_empty_list :
    let r : Round := { attempts := [], serving := none, bare := true }
    let s := sharing r
    let t := s.measWindowOver 7 (.done (.sample 90))
    let ages (u : State) := ((u.measDedEnded .A none).meas.entries.map Entry.rounds).head?
    ((t.endRounds .A).measOf .A).rounds = [{ r with serving := some true }] ∧ ages t = some 0 ∧ ages s = some 4 := by
  decide +kernel

end Sys2Proof.Tests
end

section
/-! SUPPORT. The slot counter (R1): what the blocks' actions leave of it, each command's effect on it, and what passes on an
empty queue. -/

namespace Sys2Proof.Machine

open Sys2Proof

/-! ### Actions of the blocks -/

/-- States with the same still parts have the same slot counter. -/
theorem now_of_still {s t : State} (h : t.still = s.still) : t.now = s.now := congrArg Still.now h

@[simp] theorem State.answer_now (s : State) (t : Nat) (st : Status) (r : Result) : (s.answer t st r).now = s.now :=
  now_of_still (s.answer_still t st r)

@[simp] theorem State.refuse_now (s : State) (t : Nat) (st : Status) : (s.refuse t st).now = s.now :=
  now_of_still (s.refuse_still t st)

@[simp] theorem State.postSub_now (s : State) (x : Sub) (flags : BitVec 16) : (s.postSub x flags).now = s.now := rfl

@[simp] theorem State.postStore_now (s : State) (flags : BitVec 16) : (s.postStore flags).now = s.now := rfl

@[simp] theorem State.linkLoss_now (s : State) (r : LinkReason) : (s.linkLoss r).now = s.now := rfl

@[simp] theorem State.flushOutcomes_now (s : State) (x : Sub) : (s.flushOutcomes x).now = s.now :=
  now_of_still (s.flushOutcomes_still x)

@[simp] theorem State.syncErase_now (s : State) : s.syncErase.now = s.now := now_of_still s.syncErase_still

@[simp] theorem State.beginSearch_now (s : State) (x : Sub) : (s.beginSearch x).now = s.now :=
  now_of_still (s.beginSearch_still x)

/-! ### The command link -/

@[simp] theorem State.receiver_now (s : State) (r : Receiver) : (s.receiver r).now = s.now := rfl

@[simp] theorem State.reserveHead_now (s : State) (tag code : Byte) : (s.reserveHead tag code).now = s.now := rfl

@[simp] theorem State.send_now (s : State) (octets : List Byte) (reply : Bool) : (s.send octets reply).now = s.now := rfl

@[simp] theorem State.immediate_now (s : State) (tag code : Byte) (st : Status) : (s.immediate tag code st).now = s.now := by
  unfold State.immediate; split <;> rfl

theorem State.arrival_now (s : State) (tag cls code : Byte) (fields : List Byte) :
    (s.arrival tag cls code fields).now = s.now := by
  unfold State.arrival
  split
  · exact s.immediate_now ..
  · split
    · rfl
    · exact s.immediate_now ..

@[simp] theorem State.frameArrived_now (s : State) (octets : List Byte) : (s.frameArrived octets).now = s.now := by
  unfold State.frameArrived
  split
  · exact s.arrival_now ..
  · rfl

@[simp] theorem State.octet_now (s : State) (o : Byte) : (s.octet o).now = s.now := by
  unfold State.octet
  split
  case h_1 => split <;> rfl
  case h_2 => split <;> rfl
  case h_3 => split <;> simp

@[simp] theorem State.lose_now (s : State) (why : LinkReason) (after : Receiver) : (s.lose why after).now = s.now := by
  unfold State.lose; split <;> rfl

@[simp] theorem State.noticeSent_now (s : State) (n : Snapshot) : (s.noticeSent n).now = s.now := by
  cases n <;> simp [State.noticeSent]

@[simp] theorem State.beginReset_now (s : State) : s.beginReset.now = s.now := by simp [State.beginReset]

@[simp] theorem State.replySent_now (s : State) : s.replySent.now = s.now := by
  unfold State.replySent
  split
  · rfl
  · split
    · rfl
    · dsimp only; split <;> simp

/-! ### The message store -/

@[simp] theorem State.storeNow_now (s : State) (f : Store → Store) : (s.storeNow f).now = s.now := rfl

@[simp] theorem State.queueOp_now (s : State) (o : StoreOp) : (s.queueOp o).now = s.now := rfl

@[simp] theorem State.queueFirst_now (s : State) (o : StoreOp) : (s.queueFirst o).now = s.now := rfl

@[simp] theorem State.requeue_now (s : State) (f : List StoreOp → List StoreOp) : (s.requeue f).now = s.now :=
  now_of_still (s.requeue_still f)

@[simp] theorem State.reserve_now (s : State) : s.reserve.2.now = s.now := now_of_still s.reserve_still

@[simp] theorem State.endReclaim_now (s : State) : s.endReclaim.now = s.now := rfl

@[simp] theorem State.storeFault_now (s : State) : s.storeFault.now = s.now := rfl

@[simp] theorem State.opOver_now (s : State) : s.opOver.now = s.now := rfl

@[simp] theorem State.leaveFailed_now (s : State) (o : StoreOp) : (s.leaveFailed o).now = s.now := rfl

@[simp] theorem State.programFailed_now (s : State) (o : StoreOp) (p : SlotId) : (s.programFailed o p).now = s.now := rfl

@[simp] theorem State.programmed_now (s : State) (p : SlotId) (m : Message) (v : SlotState) :
    (s.programmed p m v).now = s.now := rfl

@[simp] theorem State.writeDone_now (s : State) (p : SlotId) (n : Nat) : (s.writeDone p n).now = s.now :=
  now_of_still (s.writeDone_still p n)

@[simp] theorem State.writeFailed_now (s : State) (p : SlotId) (fresh : Option SlotId) : (s.writeFailed p fresh).now = s.now :=
  now_of_still (s.writeFailed_still p fresh)

@[simp] theorem State.deleteMessage_now (s : State) (p : SlotId) (t : Nat) : (s.deleteMessage p t).now = s.now := by
  unfold State.deleteMessage
  split
  · simp
  · split
    · rfl
    · dsimp only; split <;> simp

@[simp] theorem State.writeEnded_now (s : State) (p : SlotId) (m : Message) (verified : Bool) :
    (s.writeEnded p m verified).now = s.now := by
  cases verified <;> simp [State.writeEnded]

@[simp] theorem State.keepEnded_now (s : State) (n : Nat) (src p : SlotId) (t : Nat) (verified : Bool) :
    (s.keepEnded n src p t verified).now = s.now := by
  unfold State.keepEnded
  split
  · simp
  · split
    · simp
    · dsimp only; split <;> simp

@[simp] theorem State.relocationEnded_now (s : State) (n : Nat) (src p : SlotId) (drop verified : Bool) :
    (s.relocationEnded n src p drop verified).now = s.now := by
  unfold State.relocationEnded
  split
  · rfl
  · cases verified <;> cases drop <;> rfl

@[simp] theorem State.markAnswered_now (s : State) (why : MarkReason) : (s.markAnswered why).now = s.now := by
  cases why with
  | delete ts => exact foldl_keeps State.now _ ts s fun u t => u.refuse_now t .done
  | keep t => exact s.refuse_now t .done
  | relocation => rfl
  | repair => rfl

@[simp] theorem State.markEnded_now (s : State) (p : SlotId) (why : MarkReason) (verified : Bool) :
    (s.markEnded p why verified).now = s.now := by
  cases verified <;> simp [State.markEnded]

@[simp] theorem State.retireMarkEnded_now (s : State) (b : Nat) (verified : Bool) :
    (s.retireMarkEnded b verified).now = s.now := by
  cases verified <;> rfl

@[simp] theorem State.eraseEnded_now (s : State) (b : Nat) (repair verified : Bool) :
    (s.eraseEnded b repair verified).now = s.now := by
  cases verified <;> simp [State.eraseEnded, apply_ite State.now]

@[simp] theorem State.rejudgeKeep_now (s : State) (o : StoreOp) : (s.rejudgeKeep o).now = s.now := by
  cases o with
  | keepCopy n src p t =>
    unfold State.rejudgeKeep
    dsimp only
    split
    · simp
    · split
      · rfl
      · split <;> simp
  | _ => rfl

@[simp] theorem State.rejudgeReclaim_now (s : State) (b : Nat) : (s.rejudgeReclaim b).now = s.now := by
  unfold State.rejudgeReclaim; split <;> simp

@[simp] theorem State.settingsEnded_now (s : State) (d : Descriptor) (t : Nat) (verified : Bool) :
    (s.settingsEnded d t verified).now = s.now := by
  have rejudged (l : List StoreOp) (u : State) : (l.foldl State.rejudgeKeep u).now = u.now :=
    foldl_keeps State.now _ l u State.rejudgeKeep_now
  unfold State.settingsEnded
  simp only [apply_ite State.now, State.report_now, ite_self]
  split <;> simp [rejudged, apply_ite State.now]

/-- While the part waits for a requested reset, the state before gives the counter; else the state after. -/
theorem State.whileStopping_now {s t : State} (o : StoreOp) (h : t.now = s.now) : (s.whileStopping t o).now = s.now := by
  unfold State.whileStopping
  split
  · rfl
  · exact h

/-! ### The radio calendar -/

@[simp] theorem State.orderWindow_now (s : State) (w : Window) (b : Option TxBlock) : (s.orderWindow w b).now = s.now := rfl

@[simp] theorem State.blockFor_now (s : State) (w : Window) : (s.blockFor w).2.now = s.now := by
  unfold State.blockFor
  split
  · exact now_of_still (s.setTxBlock_still w.id)
  · rfl

@[simp] theorem State.watchBurst_now (s : State) (x : Sub) (id : WinId) : (s.watchBurst x id).now = s.now :=
  now_of_still (s.watchBurst_still x id)

@[simp] theorem State.order_now (s : State) (w : Window) : (s.order w).now = s.now := by
  unfold State.order; dsimp only; split <;> simp

@[simp] theorem State.endWindow_now (s : State) (w : Window) (st : WinState) (e : Ended) : (s.endWindow w st e).now = s.now := by
  have removed : (s.removeWindow w.id).now = s.now := now_of_still (s.removeWindow_still w.id)
  unfold State.endWindow
  dsimp only
  split
  · exact removed
  · exact (now_of_still (State.handOver_still _ _ e)).trans removed

@[simp] theorem State.radioDone_now (s : State) : s.radioDone.now = s.now := now_of_still s.radioDone_still

@[simp] theorem State.radioFailed_now (s : State) : s.radioFailed.now = s.now := now_of_still s.radioFailed_still

/-! ### Commands -/

/-- Whatever state an outcome leads to, the slot counter stands. -/
def keepsTime (s : State) (o : Host.Outcome State Fault Refusal) : Prop := ∀ t, o = .next t → t.now = s.now

theorem keepsTime_next {s u : State} (h : u.now = s.now) : keepsTime s (.next u) := by
  rintro t ⟨⟩; exact h

/-- The taking of reports takes no time. -/
theorem keepsTime_settle {s u : State} (h : u.now = s.now) : keepsTime s (settle u) := fun _ ht =>
  (now_of_still (settle_still ht)).trans h

theorem keepsTime_ite {s : State} {p : Prop} [Decidable p] {o q : Host.Outcome State Fault Refusal}
    (ho : p → keepsTime s o) (hq : ¬p → keepsTime s q) : keepsTime s (if p then o else q) := by
  split
  next h => exact ho h
  next h => exact hq h

/-- A command with a condition does nothing without it. -/
theorem keepsTime_when {s u : State} {p : Prop} [Decidable p] (h : u.now = s.now) :
    keepsTime s (if p then settle u else .next s) :=
  keepsTime_ite (fun _ => keepsTime_settle h) fun _ => keepsTime_next rfl

/-- A request takes no time when its owner takes none. -/
theorem keepsTime_dispatched {s : State} {tag : Byte} {r : Request} {owner : Nat → State → State}
    (h : ∀ t u, (owner t u).now = u.now) : keepsTime s (dispatched s tag r owner) :=
  keepsTime_when ((h _ _).trans (s.reserveHead_now ..))

/-! ### The requests -/

/-- POWER_SET's answer tells the power record and changes the reply queue alone. -/
@[simp] theorem State.powerDone_now (s : State) (t : Nat) : (s.powerDone t).now = s.now := s.answer_now ..

theorem execReset_keepsTime (tag : Byte) (s : State) : keepsTime s (execReset tag s) :=
  keepsTime_dispatched fun t u => by simp

theorem execPowerSetDozeOn_keepsTime (tag : Byte) (s : State) : keepsTime s (execPowerSetDozeOn tag s) :=
  keepsTime_dispatched fun t u => by simp

theorem execPowerSetDozeOff_keepsTime (tag : Byte) (s : State) : keepsTime s (execPowerSetDozeOff tag s) :=
  keepsTime_dispatched fun t u => by simp

theorem execPowerSetDormant_keepsTime (tag : Byte) (s : State) : keepsTime s (execPowerSetDormant tag s) :=
  keepsTime_dispatched fun t u => by split <;> simp

theorem execPowerSetQuery_keepsTime (tag : Byte) (target : Option Byte) (s : State) :
    keepsTime s (execPowerSetQuery tag target s) := by
  cases target with
  | none => exact keepsTime_dispatched fun t u => u.powerDone_now t
  | some b =>
    exact keepsTime_ite (fun _ => keepsTime_next rfl) fun _ => keepsTime_dispatched fun t u => u.refuse_now t _

theorem execSubLoad_keepsTime (tag sub : Byte) (identity : BitVec 32) (channels : List (BitVec 16)) (s : State) :
    keepsTime s (execSubLoad tag sub identity channels s) :=
  keepsTime_dispatched fun t u => by
    have loaded (x : Sub) : (u.load x identity channels).now = u.now := now_of_still (u.load_still x identity channels)
    split
    · simp [apply_ite State.now, loaded]
    · simp

theorem execSubAttach_keepsTime (tag sub : Byte) (s : State) : keepsTime s (execSubAttach tag sub s) :=
  keepsTime_dispatched fun t u => by
    split
    · simp [apply_ite State.now]
    · simp

theorem execSubDetach_keepsTime (tag sub : Byte) (s : State) : keepsTime s (execSubDetach tag sub s) :=
  keepsTime_dispatched fun t u => by
    split
    next x _ => exact now_of_still (u.detach_still x t)
    · simp

theorem execSubSet_keepsTime (tag sub : Byte) (guard notices : Option Byte) (channels : Option (List (BitVec 16))) (s : State) :
    keepsTime s (execSubSet tag sub guard notices channels s) :=
  keepsTime_dispatched fun t u => by
    have applied (x : Sub) : (u.applySettings x guard notices channels).now = u.now :=
      now_of_still (u.applySettings_still x guard notices channels)
    split
    · simp [apply_ite State.now, applied]
    · simp

theorem execSubQuery_keepsTime (tag sub : Byte) (s : State) : keepsTime s (execSubQuery tag sub s) :=
  keepsTime_dispatched fun t u => by split <;> simp

theorem execCallDial_keepsTime (tag sub : Byte) (number : Digits) (s : State) : keepsTime s (execCallDial tag sub number s) :=
  keepsTime_dispatched fun t u => by
    have dialled (v : State) (i : CallId) (x : Sub) : (v.dial i x number).now = v.now := now_of_still (v.dial_still i x number)
    split
    · split
      · split
        · split <;> simp [apply_ite State.now, dialled]
        · simp
      · simp
    · simp

theorem execCallAnswer_keepsTime (tag id : Byte) (s : State) : keepsTime s (execCallAnswer tag id s) :=
  keepsTime_dispatched fun t u => by
    split
    next i _ => exact now_of_still (u.answerCall_still i t)
    · simp

theorem execCallEnd_keepsTime (tag id : Byte) (s : State) : keepsTime s (execCallEnd tag id s) :=
  keepsTime_dispatched fun t u => by
    have ended (v : State) (i : CallId) : (v.endCall i).now = v.now := now_of_still (v.endCall_still i)
    split
    · simp [apply_ite State.now, ended]
    · simp

theorem execCallQuery_keepsTime (tag : Byte) (id : Option Byte) (s : State) : keepsTime s (execCallQuery tag id s) :=
  keepsTime_dispatched fun t u => by
    split
    · simp
    · split <;> simp

theorem execVoiceSet_keepsTime (tag : Byte) (clockRole frameRole clockRate polarity idleLine : Option Byte) (s : State) :
    keepsTime s (execVoiceSet tag clockRole frameRole clockRate polarity idleLine s) :=
  keepsTime_dispatched fun t u => by
    split
    · split <;> simp
    · simp

theorem execTextSend_keepsTime (tag sub : Byte) (destination : Digits) (reference index last : Byte) (body : List Byte)
    (s : State) : keepsTime s (execTextSend tag sub destination reference index last body s) :=
  keepsTime_dispatched fun t u => by
    have stored (x : Sub) : (u.storePiece x destination reference index body).now = u.now :=
      now_of_still (u.storePiece_still x destination reference index body)
    have readied (v : State) (x : Sub) : (v.pieceReady x reference).now = v.now := now_of_still (v.pieceReady_still x reference)
    split
    · simp [apply_ite State.now, stored, readied]
    · simp

theorem execTextCancel_keepsTime (tag sub reference : Byte) (s : State) : keepsTime s (execTextCancel tag sub reference s) :=
  keepsTime_dispatched fun t u => by
    have cancelled (v : State) (x : Sub) (e : OutEntry) : (v.cancel x e).now = v.now := now_of_still (v.cancel_still x e)
    split
    · split
      · simp [apply_ite State.now, cancelled]
      · simp
    · simp

theorem execStoreList_keepsTime (tag : Byte) (start : BitVec 16) (s : State) : keepsTime s (execStoreList tag start s) :=
  keepsTime_dispatched fun t u => by split <;> simp

theorem execStoreRead_keepsTime (tag : Byte) (number offset : BitVec 16) (length : Byte) (s : State) :
    keepsTime s (execStoreRead tag number offset length s) :=
  keepsTime_dispatched fun t u => by
    split
    · split <;> simp
    · simp

theorem execStoreDelete_keepsTime (tag : Byte) (number : BitVec 16) (s : State) : keepsTime s (execStoreDelete tag number s) :=
  keepsTime_dispatched fun t u => by
    split
    · simp
    · split
      · simp
      · simp [apply_ite State.now]

theorem execStoreKeep_keepsTime (tag : Byte) (number : BitVec 16) (s : State) : keepsTime s (execStoreKeep tag number s) :=
  keepsTime_dispatched fun t u => by
    split
    · simp
    · split
      · simp
      · split
        · simp
        · split
          · simp
          · split <;> simp

theorem execStoreProtect_keepsTime (tag edge count invert : Byte) (s : State) :
    keepsTime s (execStoreProtect tag edge count invert s) :=
  keepsTime_dispatched fun t u => by
    split
    · split <;> simp
    · simp

/-! ### The link, the timers, the radio and the store -/

theorem execStartingReply_keepsTime (s : State) : keepsTime s (execStartingReply s) := by
  unfold execStartingReply
  split
  · exact keepsTime_when (by simp)
  · exact keepsTime_next rfl

theorem execClrdyAsserted_keepsTime (s : State) : keepsTime s (execClrdyAsserted s) :=
  keepsTime_ite (fun _ => keepsTime_settle rfl) fun _ => keepsTime_settle rfl

theorem execFrameTransmitStart_keepsTime (s : State) : keepsTime s (execFrameTransmitStart s) := by
  refine keepsTime_ite (fun _ => ?_) fun _ => keepsTime_next rfl
  split
  · exact keepsTime_settle rfl
  · exact keepsTime_settle (by simp)
  · exact keepsTime_next rfl

theorem execFrameTransmitEnd_keepsTime (s : State) : keepsTime s (execFrameTransmitEnd s) := by
  unfold execFrameTransmitEnd
  split
  · exact keepsTime_when (by simp [apply_ite State.now])
  · exact keepsTime_next rfl

theorem execStartupEnd_keepsTime (s : State) : keepsTime s (execStartupEnd s) := keepsTime_when rfl

theorem execBreak_keepsTime (s : State) : keepsTime s (execBreak s) :=
  keepsTime_ite (fun _ => keepsTime_next rfl) fun _ => keepsTime_settle (by simp)

theorem execWindowOrdered_keepsTime (s : State) : keepsTime s (execWindowOrdered s) := by
  refine keepsTime_ite (fun _ => ?_) fun _ => keepsTime_next rfl
  split
  · exact keepsTime_settle (by simp)
  · exact keepsTime_next rfl

theorem execFrontEndResult_keepsTime (order : Byte) (result : FrontEndResult) (s : State) :
    keepsTime s (execFrontEndResult order result s) := by
  refine keepsTime_ite (fun _ => ?_) fun _ => keepsTime_next rfl
  split
  · exact keepsTime_settle (by simp)
  · exact keepsTime_next rfl

theorem execResultLimit_keepsTime (window : WinId) (s : State) : keepsTime s (execResultLimit window s) := by
  unfold execResultLimit
  split
  · exact keepsTime_when (by simp)
  · exact keepsTime_next rfl

theorem execReleaseTimerExpiry_keepsTime (s : State) : keepsTime s (execReleaseTimerExpiry s) := by
  unfold execReleaseTimerExpiry
  split
  · exact keepsTime_when (now_of_still (s.releaseConnection_still _ false))
  · exact keepsTime_next rfl

theorem execAssemblyTimerExpiry_keepsTime (x : Sub) (reference : Byte) (s : State) :
    keepsTime s (execAssemblyTimerExpiry x reference s) := by
  unfold execAssemblyTimerExpiry
  split
  · exact keepsTime_when (now_of_still (s.endEntry_still x reference .abandoned))
  · exact keepsTime_next rfl

theorem execPartWaitExpiry_keepsTime (x : Sub) (s : State) : keepsTime s (execPartWaitExpiry x s) := by
  unfold execPartWaitExpiry
  split
  · exact keepsTime_when (now_of_still (s.partWaitExpired_still x))
  · exact keepsTime_next rfl

theorem execAgeTimerExpiry_keepsTime (x : Sub) (sender : Digits) (reference : Nat) (s : State) :
    keepsTime s (execAgeTimerExpiry x sender reference s) := by
  unfold execAgeTimerExpiry
  split
  · exact keepsTime_when (now_of_still (s.closeEntry_still _ .incomplete))
  · exact keepsTime_next rfl

theorem execSlotProgramEnd_keepsTime (verified : Bool) (s : State) : keepsTime s (execSlotProgramEnd verified s) := by
  unfold execSlotProgramEnd
  split
  · exact keepsTime_settle (s.whileStopping_now _ (by simp))
  · exact keepsTime_settle (s.whileStopping_now _ (by simp))
  · exact keepsTime_settle (s.whileStopping_now _ (by simp))
  · exact keepsTime_next rfl

theorem execMarkProgramEnd_keepsTime (verified : Bool) (s : State) : keepsTime s (execMarkProgramEnd verified s) := by
  unfold execMarkProgramEnd
  split
  · exact keepsTime_settle (s.whileStopping_now _ (by simp))
  · exact keepsTime_settle (s.whileStopping_now _ (by simp))
  · exact keepsTime_next rfl

theorem execBlockEraseEnd_keepsTime (verified : Bool) (s : State) : keepsTime s (execBlockEraseEnd verified s) := by
  unfold execBlockEraseEnd
  split
  · exact keepsTime_settle (s.whileStopping_now _ (by simp))
  · exact keepsTime_next rfl

theorem execSettingsRewriteEnd_keepsTime (verified : Bool) (s : State) : keepsTime s (execSettingsRewriteEnd verified s) := by
  unfold execSettingsRewriteEnd
  split
  · exact keepsTime_settle (s.whileStopping_now _ (by simp))
  · exact keepsTime_next rfl

/-- R1 (log 8): every command but the resets leaves the slot counter as it is. -/
theorem exec_keepsTime (c : Instr) (s : State) (h : Instr.restartsTime c = false) : keepsTime s (exec c s) := by
  cases c with
  | powerOn | resetnAsserted | resetnReleased | requestedReset => cases h
  | startupEnd => exact execStartupEnd_keepsTime s
  | lineBreak => exact execBreak_keepsTime s
  | characterError => exact keepsTime_when (s.lose_now ..)
  | lengthDiscard octet => exact keepsTime_when (s.octet_now octet)
  | receiveGapTimeout => exact keepsTime_when (s.lose_now ..)
  | requestArrival octet => exact keepsTime_when (s.octet_now octet)
  | goodOctet octet => exact keepsTime_when (s.octet_now octet)
  | startingReply => exact execStartingReply_keepsTime s
  | identify tag => exact keepsTime_when (State.answer_now ..)
  | reset tag => exact execReset_keepsTime tag s
  | powerSetDozeOn tag => exact execPowerSetDozeOn_keepsTime tag s
  | powerSetDozeOff tag => exact execPowerSetDozeOff_keepsTime tag s
  | powerSetDormant tag => exact execPowerSetDormant_keepsTime tag s
  | powerSetQuery tag target => exact execPowerSetQuery_keepsTime tag target s
  | subLoad tag sub identity channels => exact execSubLoad_keepsTime tag sub identity channels s
  | subAttach tag sub => exact execSubAttach_keepsTime tag sub s
  | subDetach tag sub => exact execSubDetach_keepsTime tag sub s
  | subSet tag sub guard notices channels => exact execSubSet_keepsTime tag sub guard notices channels s
  | subQuery tag sub => exact execSubQuery_keepsTime tag sub s
  | measQuery tag => exact keepsTime_dispatched fun t u => u.answer_now ..
  | callDial tag sub number => exact execCallDial_keepsTime tag sub number s
  | callAnswer tag id => exact execCallAnswer_keepsTime tag id s
  | callEnd tag id => exact execCallEnd_keepsTime tag id s
  | callQuery tag id => exact execCallQuery_keepsTime tag id s
  | voiceSet tag a b c d e => exact execVoiceSet_keepsTime tag a b c d e s
  | voiceQuery tag => exact keepsTime_dispatched fun t u => u.answer_now ..
  | textSend tag sub destination reference index last body =>
    exact execTextSend_keepsTime tag sub destination reference index last body s
  | textCancel tag sub reference => exact execTextCancel_keepsTime tag sub reference s
  | outboxQuery tag => exact keepsTime_dispatched fun t u => u.answer_now ..
  | storeList tag start => exact execStoreList_keepsTime tag start s
  | storeRead tag number offset length => exact execStoreRead_keepsTime tag number offset length s
  | storeDelete tag number => exact execStoreDelete_keepsTime tag number s
  | storeKeep tag number => exact execStoreKeep_keepsTime tag number s
  | storeProtect tag edge count invert => exact execStoreProtect_keepsTime tag edge count invert s
  | storeQuery tag => exact keepsTime_dispatched fun t u => u.answer_now ..
  | clrdyAsserted => exact execClrdyAsserted_keepsTime s
  | clrdyDeasserted => exact keepsTime_settle rfl
  | frameTransmitStart => exact execFrameTransmitStart_keepsTime s
  | frameTransmitEnd => exact execFrameTransmitEnd_keepsTime s
  | dozeEntry => exact keepsTime_when rfl
  | wakeTimeReached => exact keepsTime_when rfl
  | dormantEntry => exact keepsTime_when rfl
  | windowOrdered => exact execWindowOrdered_keepsTime s
  | frontEndResult order result => exact execFrontEndResult_keepsTime order result s
  | resultLimit window => exact execResultLimit_keepsTime window s
  | noServiceRetryExpiry sub => exact keepsTime_when (State.beginSearch_now ..)
  | releaseTimerExpiry => exact execReleaseTimerExpiry_keepsTime s
  | registrationGuardExpiry sub => exact keepsTime_when (now_of_still (s.regRefused_still sub .noReply))
  | callTimerExpiry id => exact keepsTime_when (now_of_still (s.callTimerExpired_still id))
  | portFrameStart => exact keepsTime_when rfl
  | uplinkBlockReceived octets => exact keepsTime_when rfl
  | assemblyTimerExpiry sub reference => exact execAssemblyTimerExpiry_keepsTime sub reference s
  | partWaitExpiry sub => exact execPartWaitExpiry_keepsTime sub s
  | ageTimerExpiry sub sender reference => exact execAgeTimerExpiry_keepsTime sub sender reference s
  | idleWaitExpiry sub => exact keepsTime_when (now_of_still (s.idleWaitOver_still sub))
  | storeOperationStart => exact keepsTime_when (now_of_still s.startNext_still)
  | slotProgramEnd verified => exact execSlotProgramEnd_keepsTime verified s
  | markProgramEnd verified => exact execMarkProgramEnd_keepsTime verified s
  | blockEraseEnd verified => exact execBlockEraseEnd_keepsTime verified s
  | settingsRewriteEnd verified => exact execSettingsRewriteEnd_keepsTime verified s

/-- Settles O6: each command's own lemma says that the slot counter stands. -/
theorem commandsTakeNoTime : Obligations.CommandsTakeNoTime :=
  fun c s t h ht => exec_keepsTime c s h t ht

/-! ### An idle step -/

/-- With no command waiting and no event due, a step lets one slot pass. -/
theorem step_idle {s : State} (hp : s.pending = []) (he : s.nextEvent = none) : step s = .next s.tick := by
  unfold step
  rw [hp, he]

/-- No time passes for a part held in reset or DORMANT. -/
theorem State.tick_rests {s : State} (h : s.power.held = true ∨ s.power.state = .dormant) : s.tick = s := if_pos h

/-- In RUN and DOZE one slot passes; the 20 slots after a reset (R17) end by the counter. -/
theorem State.tick_passes {s : State} (h : ¬(s.power.held = true ∨ s.power.state = .dormant)) :
    s.tick = { s with
      now := s.now + 1, cal := { s.cal with quiet := s.cal.quiet && decide ((s.now + 1).toNat < 20) } } := if_neg h

/-- Settles O2, from what a tick does to a part that rests and to one that runs. -/
theorem anIdleStepLetsOneSlotPass : Obligations.AnIdleStepLetsOneSlotPass := by
  intro s hp he
  refine ⟨fun rests => ?_, fun hheld hstate => ?_⟩
  · rw [step_idle hp he, State.tick_rests rests]
  · rw [step_idle hp he, State.tick_passes (by simp [hheld, hstate])]

end Sys2Proof.Machine
end

section
/-! SUPPORT. The end of a connection that carries nothing on (R16, R37, R137, R148): the frame in which its cell is read, what the
end leaves of each block, and the purposes that are raised then. -/

namespace Sys2Proof.Machine

open Sys2Proof

/-! ### The next frame 0 of a cycle (R2, R37) -/

/-- The frames from an anchor in the past to the next frame 0 of a cycle that lies at least 3 slots ahead. -/
def framesToCycle (a : Anchor) (now : Slot) : Nat :=
  let n := ((now + 3 - a.s0).toNat + 9) / 10
  n + (64 - (a.f0.toNat + n) % 64) % 64

theorem nextCycle_eq {a : Anchor} {now : Slot} (h : (now + 3 - a.s0).toNat < 2 ^ 31) :
    nextCycle a now = (a.f0 + BitVec.ofNat 16 (framesToCycle a now), slotAdd a.s0 (10 * framesToCycle a now)) := by
  have behind : slotsTo (slotAdd a.s0 0) (slotAdd now 3) = (now + 3 - a.s0).toNat := by
    simp [slotsTo, slotAdd]
  simp only [nextCycle, nextFrame, framesToCycle, behind, if_pos h, Nat.zero_mod, Nat.zero_add, Nat.add_zero]

/-- These frames reach 3 slots ahead, and less than a cycle further. -/
theorem framesToCycle_bounds (a : Anchor) (now : Slot) :
    (now + 3 - a.s0).toNat ≤ 10 * framesToCycle a now ∧ 10 * framesToCycle a now < (now + 3 - a.s0).toNat + 640 := by
  unfold framesToCycle
  dsimp only
  omega

theorem framesToCycle_mod (a : Anchor) (now : Slot) : (a.f0.toNat + framesToCycle a now) % 64 = 0 := by
  unfold framesToCycle
  dsimp only
  omega

/-- The next frame 0 of a cycle, by an anchor in the past: when it starts, and its number. -/
theorem nextCycle_spec {a : Anchor} {now : Slot} (h : (now + 3 - a.s0).toNat < 2 ^ 31) :
    3 ≤ ((nextCycle a now).2 - now).toNat ∧ ((nextCycle a now).2 - now).toNat < 643 ∧
      ((nextCycle a now).2 - a.s0).toNat % 10 = 0 ∧
      (nextCycle a now).1 = a.f0 + BitVec.ofNat 16 (((nextCycle a now).2 - a.s0).toNat / 10) ∧
      (nextCycle a now).1.toNat % 64 = 0 := by
  obtain ⟨hlow, hhigh⟩ := framesToCycle_bounds a now
  have hmod := framesToCycle_mod a now
  have fromAnchor : ((nextCycle a now).2 - a.s0).toNat = 10 * framesToCycle a now := by
    rw [nextCycle_eq h]; unfold slotAdd; bv_omega
  have ahead : ((nextCycle a now).2 - now).toNat = 10 * framesToCycle a now - (now + 3 - a.s0).toNat + 3 := by
    rw [nextCycle_eq h]; unfold slotAdd; bv_omega
  refine ⟨by omega, by omega, by omega, ?_, ?_⟩
  · rw [fromAnchor, nextCycle_eq h, Nat.mul_div_cancel_left _ (by decide)]
  · rw [nextCycle_eq h, BitVec.toNat_add, BitVec.toNat_ofNat]
    omega

/-! ### A window in an empty calendar (R43) -/

/-- The first window of an empty calendar stands where it is asked for. -/
theorem State.insert_empty {s : State} {i : Insertion} (hw : s.cal.windows = []) (hq : s.cal.quiet = false)
    (hnear : 3 ≤ (i.start - s.now).toNat) (hfar : (i.start - s.now).toNat < 2 ^ 31) :
    s.insert i = (s.cal.counter, { s with
      cal := { s.cal with counter := s.cal.counter + 1, windows := [s.newWindow i] } }) := by
  have hm : s.matching i = none := by simp [State.matching, hw]
  have hl : s.tooLate i.start = false := by
    have ahead : liesAhead s.now i.start 3 = true := decide_eq_true ⟨hnear, hfar⟩
    simp [State.tooLate, hq, ahead]
  have hs : settleIn (s.newWindow i) s.cal.windows = ([s.newWindow i], []) := by
    rw [hw]; exact settleIn_clear _ _ (by simp) (by simp) (by decide)
  unfold State.insert
  simp only [hm, hl, hs]
  rfl

/-! ### The blocks at the end of a connection -/

/-- The later of two values of one subscription stands. -/
@[simp] theorem Two.set_set {α : Type} (t : Two α) (x : Sub) (v w : α) : (t.set x v).set x w = t.set x w := by cases x <;> rfl

/-- A subscription without a call has none that ends with its connection. -/
theorem State.endCalls_none {s : State} {x : Sub} (h : ∀ i, (s.call i).sub = some x → (s.call i).state = .free)
    (p : CallRec → Bool) (why : CallCause) : s.endCalls x p why = s := by
  have stays (i : CallId) : ¬((s.call i).sub = some x ∧ (s.call i).state ≠ .free ∧ p (s.call i) = true) :=
    fun ⟨hx, hf, _⟩ => hf (h i hx)
  simp only [State.endCalls, callIds, List.foldl_cons, List.foldl_nil, if_neg (stays _)]

/-- R39: without an open registration the guard timer stops and no notice is posted. -/
theorem State.regDropped_none {s : State} {x : Sub} (h : s.registering x = false) :
    s.regDropped x = s.modSub x fun r => { r with regGuard := none, areaChanged := false } := by
  simp [State.regDropped, h]

/-- R143, R144: with no entry SENDING the incoming reason and the recent records end, and the outbox stands. -/
theorem State.textConnEnded_none {s : State} {x : Sub} (h : s.sendingEntry x = none) :
    s.textConnEnded x = { s with
      text := { s.text with
        recent := s.text.recent.filter fun r => decide (r.sub ≠ x)
        subs := s.text.subs.set x { s.textOf x with incoming := false, idle := .stopped } } } := by
  unfold State.textConnEnded
  rw [h]
  rfl

/-- R66: without a round and without windows the mode NONE takes only what the unit keeps of a mode. -/
theorem State.setMode_none {s : State} {x : Sub} (hc : (s.connection x).isSome = true) (hw : s.cal.windows = [])
    (hr : (s.measOf x).rounds = []) : s.setMode x .none = { s with meas := s.unmeasured x, ctx := s.dropReports.ctx } := by
  have hm : s.measWindows x = [] := by simp [State.measWindows, MeasSub.openWindows, hw, hr]
  have hu : (s.modMeas x fun m =>
      { m with mode := .none, rounds := [], sinceReport := none, evaluations := 0, dedWindows := [] }) =
      { s with meas := s.unmeasured x } := by
    unfold State.modMeas State.unmeasured
    rw [← hr]
    rfl
  unfold State.setMode
  simp only [hm, List.filter_nil, List.foldl_nil, hu]
  exact if_pos hc

/-- The state in which a subscription's connection has ended: its context records are unused and its queue empty, the incoming
reason and the recent records have ended, and the mode is NONE. -/
def State.disconnected (s : State) (x : Sub) : State :=
  { s with
    subs := s.subs.set x { s.sub x with regGuard := none, areaChanged := false }
    text := { s.text with
      recent := s.text.recent.filter fun r => decide (r.sub ≠ x)
      subs := s.text.subs.set x { s.textOf x with incoming := false, idle := .stopped, readySent := false } }
    meas := s.unmeasured x
    ctx := { CtxUnit.reset with nextMsg := s.ctx.nextMsg } }

/-- A connection ends that carries no registration, sends no text, and has no round and no window. -/
theorem State.dropConnection_eq {s : State} {x : Sub} {c : Context} (hc : s.connection x = some c)
    (hreg : s.registering x = false) (hsend : s.sendingEntry x = none) (hw : s.cal.windows = [])
    (hr : (s.measOf x).rounds = []) : s.dropConnection x = s.disconnected x := by
  have hwith : (s.withdrawAll fun w => w.ofContext x) = s := s.withdrawAll_none _ (by simp [hw])
  unfold State.dropConnection
  simp only [hwith, State.regDropped_none hreg]
  rw [State.textConnEnded_none (by exact hsend),
    State.setMode_none (by exact congrArg Option.isSome hc) (by exact hw) (by exact hr)]
  refine (if_pos (by exact congrArg Option.isSome hc)).trans ?_
  simp only [State.disconnected, State.modText, State.modCtx, State.modSub, Two.set_set, Two.get_set_same]
  rfl

/-! ### Purposes raised in a confirming read (R34, R137, R148) -/

/-- The purposes that wait for the end of a subscription's connection. -/
def State.waitingPurposes (s : State) (x : Sub) : List Purpose :=
  (if s.hasReady x then [.text] else []) ++ if s.wantsStoreReady x then [.storeReady] else []

/-- The state in which a request of a subscription for some purposes has joined the engagement queue, if there are any. -/
def State.requesting (s : State) (x : Sub) (ps : List Purpose) : State :=
  { s with
    engQueue := if ps = [] then s.engQueue
      else s.engQueue ++ [{ sub := x, purposes := ps, pageReply := false, moment := s.moments }]
    moments := if ps = [] then s.moments else s.moments + 1 }

/-- R34: while the camped cell is read, a purpose waits in the queue. -/
theorem State.ask_confirming {s : State} {x : Sub} {w : WinId} {f : FrameNo} (hl : s.leaving x = false)
    (hs : (s.sub x).state = .engaged) (he : s.engaged = some { sub := x, stage := .confirming w f }) (ps : List Purpose)
    (page : Bool) : s.ask x ps page = (.queued, s.joinQueue x ps page) := by
  simp [State.ask, hl, hs, he]

/-- A first request of a subscription joins the queue's end. -/
theorem State.joinQueue_new {s : State} {x : Sub} (h : ∀ q ∈ s.engQueue, q.sub ≠ x) (p : Purpose) :
    s.joinQueue x [p] false = s.requesting x [p] := by
  have hn : (s.engQueue.any fun q => decide (q.sub = x)) = false := by simpa using h
  simp [State.joinQueue, hn, State.requesting, State.moment, addAll, addOnce]

/-- A second purpose joins the request. -/
theorem State.joinQueue_requesting {s : State} {x : Sub} (h : ∀ q ∈ s.engQueue, q.sub ≠ x) {p r : Purpose} (hr : r ≠ p) :
    (s.requesting x [p]).joinQueue x [r] false = s.requesting x [p, r] := by
  have hmap : (s.engQueue.map fun q => if q.sub = x then
      { q with purposes := addAll [r] q.purposes, pageReply := q.pageReply || false } else q) = s.engQueue := by
    conv_rhs => rw [← List.map_id s.engQueue]
    exact List.map_congr_left fun q hq => if_neg (h q hq)
  have hany : ((s.requesting x [p]).engQueue.any fun q => decide (q.sub = x)) = true := by simp [State.requesting]
  unfold State.joinQueue
  rw [if_pos hany]
  simp only [State.requesting, reduceCtorEq, if_false, List.map_append, hmap]
  simp [addAll, addOnce, hr]

/-- A request for nothing is none. -/
theorem State.requesting_nil (s : State) (x : Sub) : s.requesting x [] = s := rfl

/-- R137, R148: what waits for the connection's end is raised in the confirming read, in one request. -/
theorem State.raiseReady_confirming {s : State} {x : Sub} {w : WinId} {f : FrameNo} (hl : s.leaving x = false)
    (hs : (s.sub x).state = .engaged) (he : s.engaged = some { sub := x, stage := .confirming w f })
    (hq : ∀ q ∈ s.engQueue, q.sub ≠ x) : s.raiseReady x = s.requesting x (s.waitingPurposes x) := by
  have asks (p : Purpose) : (s.ask x [p] false).2 = s.requesting x [p] :=
    (congrArg Prod.snd (State.ask_confirming hl hs he [p] false)).trans (State.joinQueue_new hq p)
  have asksNext : ((s.requesting x [.text]).ask x [.storeReady] false).2 = s.requesting x [.text, .storeReady] :=
    (congrArg Prod.snd (State.ask_confirming (s := s.requesting x [.text]) hl hs he [.storeReady] false)).trans
      (State.joinQueue_requesting hq (by decide))
  have wants : (s.requesting x [.text]).wantsStoreReady x = s.wantsStoreReady x := rfl
  unfold State.raiseReady State.waitingPurposes
  by_cases ht : s.hasReady x = true
  · by_cases hr : s.wantsStoreReady x = true
    · simp [ht, hr, asks, wants, asksNext]
    · simp [ht, hr, asks, wants]
  · by_cases hr : s.wantsStoreReady x = true
    · simp [ht, hr, asks]
    · simp [ht, hr, s.requesting_nil]

/-! ### RELEASE, and the release timer's expiry (R16, R37) -/

/-- The anchor by which a camped cell is read when a connection on it ends (R37). -/
def Context.campAnchor (c : Context) (k : CampedCell) : Anchor := { s0 := c.s0, f0 := c.f0.getD k.anchor.f0 }

/-- A connection that carries no call and no registration, and sends no text, of a subscription that is not detaching, with an
empty calendar and an anchor in the past. -/
structure State.releasable (s : State) (c : Context) (k : CampedCell) : Prop where
  active : s.ctx.active = some c
  engaged : s.engaged = some { sub := c.sub, stage := .connected }
  state : (s.sub c.sub).state = .engaged
  camped : (s.sub c.sub).camped = some k
  attached : (s.sub c.sub).detaching = none
  unfailed : s.ctx.regFailed = none
  callFree : ∀ i, (s.call i).sub = some c.sub → (s.call i).state = .free
  unsent : s.sendingEntry c.sub = none
  unregistering : Purpose.register ∉ c.purposes
  rounds : (s.measOf c.sub).rounds = []
  requests : ∀ q ∈ s.engQueue, q.sub ≠ c.sub
  windows : s.cal.windows = []
  silenceOver : s.cal.quiet = false
  past : (s.now + 3 - c.s0).toNat < 2 ^ 31

/-- The running connection is this one. -/
theorem State.releasable.connection {s : State} {c : Context} {k : CampedCell} (h : s.releasable c k) :
    s.connection c.sub = some c := by
  simp [State.connection, h.active]

/-- The state in which the cell a connection ended on is its subscription's camped cell. -/
def State.campedOn (s : State) (c : Context) (k : CampedCell) : State :=
  { s with subs := s.subs.set c.sub { s.sub c.sub with camped := some { k with cell := c.cell, anchor := c.campAnchor k } } }

/-- The state in which a subscription, ENGAGED, reads a channel in a frame f at a slot: the window is all the calendar holds. -/
def State.reading (s : State) (x : Sub) (channel : Nat) (start : Slot) (f : FrameNo) : State :=
  { s with
    engaged := some { sub := x, stage := .confirming s.cal.counter f }
    cal := { s.cal with counter := s.cal.counter + 1, windows := [beaconWindow s.cal.counter x channel start 2] } }

/-- R37: the connection's cell and anchor are copied into the camped cell. -/
theorem State.modSub_campedOn {s : State} {c : Context} {k : CampedCell} (hk : (s.sub c.sub).camped = some k) :
    (s.modSub c.sub fun r =>
      { r with camped := r.camped.map fun k => { k with cell := c.cell, anchor := c.campAnchor k } }) = s.campedOn c k := by
  have hk' : (s.subs.get c.sub).camped = some k := hk
  unfold State.modSub State.campedOn
  simp only [hk', Option.map_some]
  rfl

@[simp] theorem State.campedOn_sub (s : State) (c : Context) (k : CampedCell) : (s.campedOn c k).sub c.sub =
    { s.sub c.sub with camped := some { k with cell := c.cell, anchor := c.campAnchor k } } := Two.get_set_same _ _ _

/-- R37: the confirming read of a camped cell is planned in an empty calendar. -/
theorem State.planConfirm_empty {s : State} {x : Sub} {k : CampedCell} (hk : (s.sub x).camped = some k)
    (he : s.engaged = some { sub := x, stage := .connected }) (hw : s.cal.windows = []) (hq : s.cal.quiet = false)
    {start : Slot} (f : FrameNo) (hnear : 3 ≤ (start - s.now).toNat) (hfar : (start - s.now).toNat < 2 ^ 31) :
    s.planConfirm x f start = s.reading x k.cell.channel start f := by
  unfold State.planConfirm State.insertBeacon
  simp only [hk]
  rw [State.insert_empty hw hq hnear hfar]
  simp only [State.setStage, he, Option.map_some, if_true]
  rfl

/-- R37: the camp on the connection's cell is confirmed by its next frame 0 of a cycle, and what waited is raised. -/
theorem State.confirmCamp_eq {s : State} {c : Context} {k : CampedCell}
    (he : s.engaged = some { sub := c.sub, stage := .connected }) (hs : (s.sub c.sub).state = .engaged)
    (hk : (s.sub c.sub).camped = some k) (hd : (s.sub c.sub).detaching = none) (hr : ∀ q ∈ s.engQueue, q.sub ≠ c.sub)
    (hw : s.cal.windows = []) (hq : s.cal.quiet = false) (hp : (s.now + 3 - c.s0).toNat < 2 ^ 31) :
    let read := nextCycle (c.campAnchor k) s.now
    let t := (s.campedOn c k).reading c.sub c.cell.channel read.2 read.1
    s.confirmCamp c.sub c = t.requesting c.sub (t.waitingPurposes c.sub) := by
  intro read t
  obtain ⟨hnear, hfar, -⟩ := nextCycle_spec (a := c.campAnchor k) hp
  have planned : (s.campedOn c k).planConfirm c.sub read.1 read.2 = t :=
    State.planConfirm_empty (s := s.campedOn c k) (congrArg SubRec.camped (s.campedOn_sub c k)) he hw hq read.1 hnear
      (lt_trans hfar (by decide))
  have subs : t.sub c.sub = (s.campedOn c k).sub c.sub := rfl
  have raised : t.raiseReady c.sub = t.requesting c.sub (t.waitingPurposes c.sub) :=
    State.raiseReady_confirming (w := s.cal.counter) (f := read.1) (by simp [State.leaving, subs, hd]) (by simp [subs, hs])
      rfl hr
  unfold State.confirmCamp
  have hadopt := State.modSub_campedOn hk
  unfold Context.campAnchor at hadopt
  simp only [hadopt, State.campedOn_sub]
  exact (congrArg (State.raiseReady · c.sub) planned).trans raised

/-- The state in which a connection has ended and its cell is read in the next frame 0 of a cycle. -/
def State.confirmingRead (s : State) (c : Context) (k : CampedCell) : State :=
  let read := nextCycle (c.campAnchor k) s.now
  ((s.disconnected c.sub).campedOn c k).reading c.sub c.cell.channel read.2 read.1

/-- The same with what waited for the connection's end raised. -/
def State.confirmed (s : State) (c : Context) (k : CampedCell) : State :=
  (s.confirmingRead c k).requesting c.sub ((s.confirmingRead c k).waitingPurposes c.sub)

@[simp] theorem State.disconnected_sub (s : State) (x : Sub) :
    (s.disconnected x).sub x = { s.sub x with regGuard := none, areaChanged := false } := Two.get_set_same _ _ _

/-- What the end of a connection is when nothing stands in its way. -/
theorem State.releasable.confirms {s : State} {c : Context} {k : CampedCell} (h : s.releasable c k) :
    (s.disconnected c.sub).confirmCamp c.sub c = s.confirmed c k :=
  State.confirmCamp_eq (s := s.disconnected c.sub) h.engaged (by simp [h.state]) (by simp [h.camped])
    (by simp [h.attached]) h.requests h.windows h.silenceOver h.past

/-- R16: the end of a connection, once a RELEASE has cleared memory-full-signalled where it does (R148). -/
theorem State.releaseConnection_eq {s u : State} {c : Context} {k : CampedCell} {byNetwork : Bool} (hs : s.releasable c k)
    (hu : (if (byNetwork && (s.textOf c.sub).readySent) = true then s.clearMemoryFull c.sub else s) = u)
    (h : u.releasable c k) : s.releaseConnection c.sub byNetwork = u.confirmed c k := by
  have hreg : u.registering c.sub = false := by simp [State.registering, h.connection, h.unregistering]
  have dropped := State.dropConnection_eq h.connection hreg h.unsent h.windows h.rounds
  have staying : (u.disconnected c.sub).leaving c.sub = false := by
    simp [State.leaving, h.attached]
  unfold State.releaseConnection
  simp only [hs.connection, State.endCalls_none hs.callFree, hu, h.unfailed, dropped, staying]
  exact h.confirms

/-- Local release, and a RELEASE when no STORE_READY was sent on the connection. -/
theorem State.releasable.released {s : State} {c : Context} {k : CampedCell} (h : s.releasable c k) {byNetwork : Bool}
    (hm : (byNetwork && (s.textOf c.sub).readySent) = false) :
    s.releaseConnection c.sub byNetwork = s.confirmed c k :=
  State.releaseConnection_eq h (by simp [hm]) h

/-- The clearing of memory-full-signalled leaves the connection as it is. -/
theorem State.releasable.clearMemoryFull {s : State} {c : Context} {k : CampedCell} (h : s.releasable c k) :
    (s.clearMemoryFull c.sub).releasable c k := by
  have subs : (s.clearMemoryFull c.sub).sub c.sub = { s.sub c.sub with memoryFull := false } := Two.get_set_same _ _ _
  exact { h with
    state := by rw [subs]; exact h.state
    camped := by rw [subs]; exact h.camped
    attached := by rw [subs]; exact h.attached }

/-- A RELEASE on a connection on which STORE_READY was sent first clears memory-full-signalled (R148). -/
theorem State.releasable.released_memory {s : State} {c : Context} {k : CampedCell} (h : s.releasable c k)
    (hm : (s.textOf c.sub).readySent = true) :
    s.releaseConnection c.sub true = (s.clearMemoryFull c.sub).confirmed c k :=
  State.releaseConnection_eq h (by simp [hm]) h.clearMemoryFull

/-- R137: a READY entry of a subscription waits. -/
theorem State.hasReady_iff (s : State) (x : Sub) :
    s.hasReady x = true ↔ ∃ e ∈ s.text.outbox, e.sub = x ∧ e.state = .ready := by
  simp [State.hasReady]

/-- R137, R148: what waits then. The mark of a STORE_READY sent has ended with the connection. -/
theorem State.confirmingRead_waitingPurposes (s : State) (c : Context) (k : CampedCell) :
    (s.confirmingRead c k).waitingPurposes c.sub =
      (if ∃ e ∈ s.text.outbox, e.sub = c.sub ∧ e.state = .ready then [.text] else []) ++
        if (s.sub c.sub).memoryFull = true ∧ 0 < s.store.usableCount then [.storeReady] else [] := by
  have ready : (s.confirmingRead c k).hasReady c.sub = s.hasReady c.sub := rfl
  have unmarked : ((s.confirmingRead c k).textOf c.sub).readySent = false :=
    congrArg TextSub.readySent (Two.get_set_same _ _ _)
  have full : ((s.confirmingRead c k).sub c.sub).memoryFull = (s.sub c.sub).memoryFull := by
    rw [show (s.confirmingRead c k).sub c.sub = ((s.disconnected c.sub).campedOn c k).sub c.sub from rfl]
    simp
  have usable : (s.confirmingRead c k).store = s.store := rfl
  simp [State.waitingPurposes, State.wantsStoreReady, ready, unmarked, full, usable, s.hasReady_iff]

/-- The state a connection's end leads to, block by block. -/
theorem State.confirmed_eq (s : State) (c : Context) (k : CampedCell) :
    let read := nextCycle (c.campAnchor k) s.now
    let raised : List Purpose :=
      (if ∃ e ∈ s.text.outbox, e.sub = c.sub ∧ e.state = .ready then [.text] else []) ++
        if (s.sub c.sub).memoryFull = true ∧ 0 < s.store.usableCount then [.storeReady] else []
    s.confirmed c k = { s with
      ctx := { CtxUnit.reset with nextMsg := s.ctx.nextMsg }
      engaged := some { sub := c.sub, stage := .confirming s.cal.counter read.1 }
      engQueue := if raised = [] then s.engQueue
        else s.engQueue ++ [{ sub := c.sub, purposes := raised, pageReply := false, moment := s.moments }]
      moments := if raised = [] then s.moments else s.moments + 1
      subs := s.subs.set c.sub { s.sub c.sub with
        camped := some { k with cell := c.cell, anchor := c.campAnchor k }, regGuard := none, areaChanged := false }
      text := { s.text with
        recent := s.text.recent.filter fun r => decide (r.sub ≠ c.sub)
        subs := s.text.subs.set c.sub { s.textOf c.sub with incoming := false, idle := .stopped, readySent := false } }
      meas := s.unmeasured c.sub
      cal := { s.cal with
        counter := s.cal.counter + 1, windows := [beaconWindow s.cal.counter c.sub c.cell.channel read.2 2] } } := by
  unfold State.confirmed
  rw [s.confirmingRead_waitingPurposes c k]
  simp only [State.confirmingRead, State.requesting, State.reading, State.campedOn, State.disconnected_sub]
  simp only [State.disconnected, Two.set_set]

/-- R16: the release timer of a running connection has expired. -/
theorem exec_releaseTimerExpiry {s : State} {c : Context} (hc : s.ctx.active = some c) (hawake : s.awake = true)
    (he : s.ctx.release.expired s.now = true) :
    exec .releaseTimerExpiry s = settle (s.releaseConnection c.sub false) := by
  unfold exec execReleaseTimerExpiry
  simp only [hc]
  exact if_pos ⟨hawake, he⟩

/-- Settles O41: the release of such a connection leads to the state `State.confirmed`, whose read lies where `nextCycle_spec`
says. -/
theorem aReleasedConnectionIsConfirmed : Obligations.AReleasedConnectionIsConfirmed := by
  intro c k s hactive hengaged hstate hcamped hattached hunfailed hcalls hunsent hreg hrounds hrequests hwindows hquiet hpast
  have h : s.releasable c k :=
    ⟨hactive, hengaged, hstate, hcamped, hattached, hunfailed, hcalls, hunsent, hreg, hrounds, hrequests, hwindows, hquiet,
      hpast⟩
  obtain ⟨hnear, hfar, hframe, hnumber, hcycle⟩ := nextCycle_spec (a := c.campAnchor k) hpast
  refine ⟨_, _, hnear, hfar, hframe, hnumber, hcycle, fun u hawake hq hrel hexp => ?_,
    fun frame => ⟨fun hm => ?_, fun hm => ?_⟩⟩
  · have expires : s.ctx.release.expired s.now = true := by rw [hrel]; exact decide_eq_true hexp
    rw [exec_releaseTimerExpiry hactive hawake expires, h.released rfl]
    exact (settle_quiet (s := s.confirmed c k) hq).trans (congrArg _ (s.confirmed_eq c k))
  · exact (h.released (by simp [hm])).trans (s.confirmed_eq c k)
  · have same (r : SubRec) : (s.clearMemoryFull c.sub).subs.set c.sub r = s.subs.set c.sub r := Two.set_set _ _ _ _
    have told := (h.released_memory hm).trans ((s.clearMemoryFull c.sub).confirmed_eq c k)
    rw [same] at told
    exact told

end Sys2Proof.Machine
end

section
/-! SUPPORT. SUB_LOAD, SUB_SET and the seven queries (R21, R23, R42, R79, R101, R133, R150, R166): what a taken request makes of a
subscription's record, and the view a query shows, which the dispatch of the query itself leaves as it is. -/

namespace Sys2Proof.Machine

open Sys2Proof

/-! ### The seven queries -/

/-- SUB_QUERY of a subscription, and of a value that names none (R42). -/
theorem exec_subQuery {s : State} {tag b : Byte} (ha : s.accepts tag (.subQuery b)) (hq : s.quiet) :
    (∀ x, subOf b = some x → exec (.subQuery tag b) s = .next (s.replied tag 0x14 .done (.subscription (s.subView x)))) ∧
      (subOf b = none → exec (.subQuery tag b) s = .next (s.replied tag 0x14 .badValue .none)) := by
  unfold exec execSubQuery
  refine ⟨fun x hx => dispatched_replied ha hq _ .done _ ?_, fun hx => dispatched_replied ha hq _ .badValue _ ?_⟩
  · simp only [hx]; rfl
  · simp only [hx]; rfl

/-- CALL_QUERY of a call id, and of a value that names none (R101). -/
theorem exec_callQuery {s : State} {tag b : Byte} (ha : s.accepts tag (.callQuery (some b))) (hq : s.quiet) :
    (∀ i, callIdOf b = some i →
        exec (.callQuery tag (some b)) s = .next (s.replied tag 0x23 .done (.calls [s.callView i]))) ∧
      (callIdOf b = none → exec (.callQuery tag (some b)) s = .next (s.replied tag 0x23 .badValue .none)) := by
  unfold exec execCallQuery
  refine ⟨fun i hi => dispatched_replied ha hq _ .done _ ?_, fun hi => dispatched_replied ha hq _ .badValue _ ?_⟩
  · simp only [hi]; rfl
  · simp only [hi]; rfl

/-- Settles O37: each query is answered by its owner at once with a view of the state, which its dispatch leaves as it was. -/
theorem queriesChangeNothingButTheReplyQueue : Obligations.QueriesChangeNothingButTheReplyQueue := by
  intro tag s hq
  have shown {r : Request} (ha : s.accepts tag r) (view : State → Result)
      (hv : view (s.reserveHead tag (requestCode r)) = view s) :
      dispatched s tag r (fun t u => u.answer t .done (view u)) = .next (s.replied tag (requestCode r) .done (view s)) :=
    dispatched_replied ha hq _ .done _ (congrArg (State.answer _ _ _) hv)
  exact ⟨fun b ha => exec_subQuery ha hq,
    fun ha => shown ha (fun u => .measurement u.meas.entries (u.measView .A) (u.measView .B)) rfl,
    fun ha => shown ha (fun u => .calls [u.callView .one, u.callView .two]) rfl,
    fun b ha => exec_callQuery ha hq,
    fun ha => shown ha (fun u => .voice u.voice) rfl,
    fun ha => shown ha (fun u => .outbox (u.text.outbox.map u.outView) u.text.outbox.length u.partsHeld
      (u.text.table.map u.reasView) u.text.recent (u.textView .A) (u.textView .B)) rfl,
    fun ha => shown ha (fun u => .storage u.storeView) rfl⟩

/-! ### SUB_SET (R23, R52, R80) -/

/-- R52: the class of each window after a look at a subscription's miss count. -/
theorem State.raiseStarved_eq (s : State) (x : Sub) : s.raiseStarved x = { s with
    cal := { s.cal with
      windows := s.cal.windows.map fun w =>
        if decide ((s.sub x).guard ≤ (s.sub x).misses) = true ∧ w.owner = .sub x ∧ w.purpose = .pageRx ∧ w.state = .planned ∧
          w.cls = .page then { w with cls := .pageStarved } else w } } := by
  unfold State.raiseStarved State.starved
  by_cases h : (s.sub x).guard ≤ (s.sub x).misses
  · simp [h, State.modCal]
  · simp [h]

/-- A setting of two values in range is 0 or 1, and 1 sets it. -/
theorem flagOf_eq {n : Byte} (h : (flagOf n).isSome = true) : flagOf n = some (decide (n = 1)) := by
  unfold flagOf at h ⊢
  split_ifs at h ⊢ with h0 h1
  · subst h0; rfl
  · subst h1; rfl
  · cases h

/-- The notices octet of a SUB_SET in range is such a setting. -/
theorem notices_of_inRange {guard notices : Option Byte} {channels : Option (List (BitVec 16))}
    (h : settingsInRange guard notices channels = true) : ∀ n, notices = some n → (flagOf n).isSome = true := by
  rintro n rfl
  simp only [settingsInRange, Bool.and_eq_true] at h
  exact h.1.2

@[simp] theorem Two.set_get {α : Type} (t : Two α) (x : Sub) : t.set x (t.get x) = t := by cases x <;> rfl

/-- A record that a change leaves as it is. -/
theorem State.modSub_self {s : State} {x : Sub} {f : SubRec → SubRec} (h : f (s.sub x) = s.sub x) : s.modSub x f = s := by
  unfold State.modSub
  rw [show f (s.subs.get x) = s.subs.get x from h, Two.set_get]

/-- R23: the allowed channels of a SUB_SET, applied before the rest. -/
theorem State.applySettings_channels (s : State) (x : Sub) (guard notices : Option Byte)
    (channels : Option (List (BitVec 16))) : s.applySettings x guard notices channels =
      (s.modSub x fun r => { r with channels := (channels.map fun cs => cs.map BitVec.toNat).getD r.channels }).applySettings x
        guard notices none := by
  cases channels with
  | none => rw [State.modSub_self]; rfl
  | some cs => rfl

/-- R80: notices turned on make the notice reference absent. -/
def State.noticesTurned (s : State) (x : Sub) (notices : Option Byte) : Meas :=
  if notices = some 1 ∧ (s.sub x).notices = false then
    { s.meas with subs := s.meas.subs.set x { s.meas.subs.get x with reference := none } }
  else s.meas

/-- R23, R80: the notices setting of a SUB_SET, applied before the page guard. -/
theorem State.applySettings_notices (s : State) (x : Sub) (guard notices : Option Byte)
    (h : ∀ n, notices = some n → (flagOf n).isSome = true) : s.applySettings x guard notices none =
      ({ s with meas := s.noticesTurned x notices }.modSub x fun r =>
        { r with notices := (notices.map fun n => decide (n = 1)).getD r.notices }).applySettings x guard none none := by
  cases notices with
  | none => rw [State.modSub_self rfl]; rfl
  | some n =>
    unfold State.applySettings State.noticesTurned
    simp only [Option.bind_some, flagOf_eq (h n rfl), decide_eq_true_eq, Option.some.injEq]
    by_cases ht : n = 1 ∧ (s.sub x).notices = false
    · simp only [if_pos ht]; rfl
    · simp only [if_neg ht]; rfl

/-- R52: the windows of a calendar when a subscription's page guard is set: its PLANNED PAGE window is starved when the guard is
reached. -/
def raisedBy (x : Sub) (misses : Nat) (guard : Option Byte) (ws : List Window) : List Window :=
  ws.map fun w =>
    if (guard.map fun g => decide (g.toNat ≤ misses)) = some true ∧ w.owner = .sub x ∧ w.purpose = .pageRx ∧
        w.state = .planned ∧ w.cls = .page then { w with cls := .pageStarved } else w

/-- R23, R52: the page guard of a SUB_SET. -/
theorem State.applySettings_guard (s : State) (x : Sub) (guard : Option Byte) : s.applySettings x guard none none =
    { s.modSub x fun r => { r with guard := (guard.map BitVec.toNat).getD r.guard } with
      cal := { s.cal with windows := raisedBy x (s.sub x).misses guard s.cal.windows } } := by
  cases guard with
  | none =>
    have stays : raisedBy x (s.sub x).misses none s.cal.windows = s.cal.windows := by simp [raisedBy]
    rw [stays, State.modSub_self rfl]
    rfl
  | some g =>
    refine (State.raiseStarved_eq _ x).trans ?_
    simp [raisedBy]

/-- R23: the record of a subscription after a taken SUB_SET. -/
def SubRec.setTo (r : SubRec) (guard notices : Option Byte) (channels : Option (List (BitVec 16))) : SubRec :=
  { r with
    guard := (guard.map BitVec.toNat).getD r.guard
    notices := (notices.map fun n => decide (n = 1)).getD r.notices
    channels := (channels.map fun cs => cs.map BitVec.toNat).getD r.channels }

/-- R23, R52, R80: what a taken SUB_SET makes of the state. -/
theorem State.applySettings_eq {s : State} {x : Sub} {guard notices : Option Byte} {channels : Option (List (BitVec 16))}
    (h : settingsInRange guard notices channels = true) : s.applySettings x guard notices channels = { s with
      subs := s.subs.set x ((s.sub x).setTo guard notices channels)
      meas := s.noticesTurned x notices
      cal := { s.cal with windows := raisedBy x (s.sub x).misses guard s.cal.windows } } := by
  rw [State.applySettings_channels, State.applySettings_notices _ _ _ _ (notices_of_inRange h), State.applySettings_guard]
  simp only [State.modSub, State.noticesTurned, State.sub, Two.get_set_same, Two.set_set]
  rfl

/-- Settles O36: the checks refuse and change nothing; a taken SUB_SET is what `State.applySettings_eq` says, and its answer. -/
theorem subSetChangesWhatItNames : Obligations.SubSetChangesWhatItNames := by
  intro tag sub guard notices channels s ha hq
  refine ⟨fun hbad => ?_, fun x hx hrange => ⟨fun hempty => ?_, fun htaken => ?_⟩⟩ <;> unfold exec execSubSet
  · refine dispatched_replied ha hq _ .badValue _ ?_
    rcases hbad with hsub | hrange
    · simp only [hsub]; rfl
    · cases hsub : subOf sub <;> simp [hrange] <;> rfl
  · refine dispatched_replied ha hq _ .wrongState _ ?_
    have : ((s.reserveHead tag (requestCode (.subSet sub guard notices channels))).sub x).state = .empty := hempty
    simp only [hx, hrange, if_true, this]
    rfl
  · refine dispatched_eq ha ?_ ?_
    have : ¬((s.reserveHead tag (requestCode (.subSet sub guard notices channels))).sub x).state = .empty := htaken
    simp only [hx, hrange, if_true, this, if_false]
    rw [State.applySettings_eq hrange]
    exact State.answer_ticket _ _ _ _ _ _ rfl
    exact hq

/-! ### SUB_LOAD (R21) -/

/-- R21: what makes an allowed channel list one in range. -/
theorem channelsInRange_iff (cs : List (BitVec 16)) :
    channelsInRange cs = true ↔ cs ≠ [] ∧ cs.length ≤ 32 ∧ cs.Nodup ∧ ∀ c ∈ cs, c.toNat ≤ 2047 := by
  simp only [channelsInRange, Bool.and_eq_true, decide_eq_true_eq, List.all_eq_true, Nat.one_le_iff_ne_zero, ne_eq,
    List.length_eq_zero_iff, and_assoc]

/-- R21: the checks that make a list BAD_VALUE. -/
theorem channelsInRange_false {cs : List (BitVec 16)}
    (h : cs = [] ∨ 32 < cs.length ∨ (∃ c ∈ cs, 2047 < c.toNat) ∨ ¬cs.Nodup) : channelsInRange cs = false := by
  rw [Bool.eq_false_iff, ne_eq, channelsInRange_iff]
  rintro ⟨hne, hlen, hnodup, hrange⟩
  rcases h with h | h | ⟨c, hc, h⟩ | h
  · exact hne h
  · omega
  · have := hrange c hc; omega
  · exact h hnodup

/-- The paging key of an identity (R21). -/
theorem SubRec.loaded_eq (identity : BitVec 32) (cs : List (BitVec 16)) : SubRec.loaded identity cs = { SubRec.reset with
    state := .detached, identity := some identity, key := some (BitVec.ofNat 16 (identity.toNat % 65536))
    channels := cs.map BitVec.toNat } := by
  have key : identity.setWidth 16 = BitVec.ofNat 16 (identity.toNat % 65536) := by bv_omega
  rw [SubRec.loaded, key]

/-- The state with a subscription's record filled anew. -/
def State.loadedInto (s : State) (x : Sub) (identity : BitVec 32) (cs : List (BitVec 16)) : State :=
  { s with subs := s.subs.set x (SubRec.loaded identity cs) }

/-- R180: the answer to a request in a state whose link the request's owner has changed in the notice outbox alone. -/
theorem State.refuse_reserved {s v : State} {tag code : Byte} {out : List Notice} (st : Status)
    (hl : v.link = { (s.reserveHead tag code).link with outbox := out }) (hn : v.now = s.now) :
    v.refuse s.link.ticket st = { v with link := { (s.replied tag code st .none).link with outbox := out } } := by
  refine (State.answer_ticket v { s.link with outbox := out } tag code st .none hl).trans ?_
  rw [hn]
  rfl

/-- R21: SUB_LOAD on a record whose memory-full-signalled flag is clear. -/
theorem State.load_eq {s : State} {x : Sub} (identity : BitVec 32) (cs : List (BitVec 16))
    (hm : (s.sub x).memoryFull = false) : s.load x identity cs = (s.loadedInto x identity cs).postSub x 9 := by
  unfold State.load
  rw [if_neg (by simp [hm])]
  rfl

/-- R21, R149: SUB_LOAD on a record whose flag it clears: the TEXT notice tells of it, and the store looks at its room. -/
theorem State.load_eq_full {s : State} {x : Sub} (identity : BitVec 32) (cs : List (BitVec 16))
    (hm : (s.sub x).memoryFull = true) : s.load x identity cs =
      (((s.loadedInto x identity cs).postText x 4).postSub x 9).report .storeChanged := by
  have cleared : (s.modSub x fun r => { r with memoryFull := false }).textSnapshot x =
      (s.loadedInto x identity cs).textSnapshot x := by
    simp only [State.textSnapshot, State.sub, State.loadedInto, State.modSub, Two.get_set_same]
    rfl
  unfold State.load State.clearMemoryFull
  rw [if_pos hm]
  unfold State.postText
  rw [cleared]
  simp only [State.loadedInto, State.modSub, State.report, State.post, State.modLink, Two.set_set]
  rfl

/-- R21: the dispatch of a SUB_LOAD that is taken. -/
theorem exec_subLoad_taken {s : State} {tag sub : Byte} {identity : BitVec 32} {channels : List (BitVec 16)} {x : Sub}
    (ha : s.accepts tag (.subLoad sub identity channels)) (hx : subOf sub = some x) (hc : channelsInRange channels = true)
    (ht : (s.sub x).state = .empty ∨ (s.sub x).state = .detached) : exec (.subLoad tag sub identity channels) s =
      settle (((s.reserveHead tag 0x10).load x identity channels).refuse s.link.ticket .done) := by
  unfold exec execSubLoad
  refine (dispatched_accepts ha _).trans ?_
  simp only [hx, hc, if_true]
  exact congrArg settle (if_pos ht)

/-- The outcome of a command that told the store of one change. -/
theorem settle_examined_of {o : Host.Outcome State Fault Refusal} {u : State} (ho : o = settle u)
    (hr : u.reports = [.storeChanged]) (hs : ¬u.store.stuck) :
    ∃ t : State, o = .next t ∧ State.examined { u with reports := [] } t :=
  ho ▸ settle_examined (by simp [hr]) hs (by simp [hr, settleBound])

/-- Settles O34: the checks refuse and change nothing; a taken SUB_LOAD leaves what `State.load_eq` says, and what
`State.load_eq_full` says when it clears a flag, with the store's examinations. -/
theorem subLoadFillsTheRecordAnew : Obligations.SubLoadFillsTheRecordAnew := by
  intro tag sub identity channels s ha hq
  refine ⟨fun hbad => ?_, fun x hx hne hlen hrange hnodup => ?_⟩
  · unfold exec execSubLoad
    refine dispatched_replied ha hq _ .badValue _ ?_
    rcases hbad with hsub | hbad
    · simp only [hsub]; rfl
    · cases hsub : subOf sub <;> simp only [channelsInRange_false hbad] <;> rfl
  have hin : channelsInRange channels = true := (channelsInRange_iff channels).2 ⟨hne, hlen, hnodup, hrange⟩
  refine ⟨fun hempty hdetached => ?_, fun htaken => ⟨fun hm => ?_, fun hm hs => ?_⟩⟩
  · unfold exec execSubLoad
    refine dispatched_replied ha hq _ .wrongState _ ?_
    simp only [hx, hin, if_true]
    exact if_neg fun h => h.elim hempty hdetached
  · have answered := (congrArg (State.refuse · s.link.ticket .done)
      (State.load_eq (s := s.reserveHead tag 0x10) identity channels hm)).trans (State.refuse_reserved .done rfl rfl)
    rw [exec_subLoad_taken ha hx hin htaken, answered]
    simp only [← SubRec.loaded_eq]
    exact settle_quiet hq
  · have answered := (congrArg (State.refuse · s.link.ticket .done)
      (State.load_eq_full (s := s.reserveHead tag 0x10) identity channels hm)).trans (State.refuse_reserved .done rfl rfl)
    have reported : (s.replied tag 0x10 .done .none).reports ++ [Report.storeChanged] = [.storeChanged] := by
      rw [show (s.replied tag 0x10 .done .none).reports = [] from hq]
      rfl
    obtain ⟨t, ht, hex⟩ := settle_examined_of ((exec_subLoad_taken ha hx hin htaken).trans (congrArg settle answered))
      reported hs
    refine ⟨t, ht, ?_⟩
    simp only [← SubRec.loaded_eq]
    have told : (s.replied tag 0x10 .done .none).reports = [] := hq
    rw [told]
    exact hex

end Sys2Proof.Machine
end

section
/-! SUPPORT. The running connection (R16, R105, R137, R148): the messages of its queue and of the blocks that wait for room, what is
queued when its purposes change, and how the texts on it go on. -/

namespace Sys2Proof.Machine

open Sys2Proof

/-! ### The running connection -/

theorem State.connection_eq_some {s : State} {x : Sub} {c : Context} :
    s.connection x = some c ↔ s.ctx.active = some c ∧ c.sub = x := by
  unfold State.connection
  cases s.ctx.active with
  | none => simp
  | some d =>
    by_cases h : d.sub = x
    · simp only [if_pos h, Option.some.injEq]
      exact ⟨fun e => ⟨e, e ▸ h⟩, And.left⟩
    · simp only [if_neg h, reduceCtorEq, Option.some.injEq, false_iff, not_and]
      rintro rfl
      exact h

/-- The connection is a matter of the ACTIVE record alone. -/
theorem State.connection_congr {s t : State} (h : t.ctx.active = s.ctx.active) (x : Sub) :
    t.connection x = s.connection x := by
  unfold State.connection
  rw [h]

/-- The state with the running connection's record replaced. -/
def State.withActive (s : State) (c : Context) : State := { s with ctx := { s.ctx with active := some c } }

theorem State.withActive_connection (s : State) (c : Context) : (s.withActive c).connection c.sub = some c :=
  if_pos rfl

theorem State.modPurposes_eq {s : State} {x : Sub} {c : Context} (hc : s.connection x = some c)
    (f : List Purpose → List Purpose) : s.modPurposes x f = s.withActive { c with purposes := f c.purposes } := by
  unfold State.modPurposes
  rw [hc]
  rfl

theorem State.registering_eq {s : State} {x : Sub} {c : Context} (hc : s.connection x = some c) :
    s.registering x = decide (Purpose.register ∈ c.purposes) := by
  unfold State.registering
  rw [hc]
  exact List.contains_eq_mem ..

/-! ### The messages not yet over (R105) -/

/-- No message like this is in the queue or waits for room. -/
abbrev State.lacks (s : State) (m : UpMsg) : Prop := ∀ q ∈ s.ctx.queue ++ s.ctx.waiting, q.msg ≠ m

/-- Room that is filled moves messages, and neither adds nor loses one. -/
theorem CtxUnit.fillRoom_messages (c : CtxUnit) : c.fillRoom.queue ++ c.fillRoom.waiting = c.queue ++ c.waiting := by
  simp [CtxUnit.fillRoom]

theorem State.offer_lacks (s : State) (m n : UpMsg) : (s.offer m).lacks n ↔ s.lacks n ∧ m ≠ n := by
  have messages : (s.offer m).ctx.queue ++ (s.offer m).ctx.waiting =
      s.ctx.queue ++ (s.ctx.waiting ++ [{ id := s.ctx.nextMsg, msg := m }]) := CtxUnit.fillRoom_messages _
  unfold State.lacks
  rw [messages, ← List.append_assoc]
  simp only [List.mem_append, List.mem_singleton, or_imp, forall_and, forall_eq]

/-- A removal of other messages. -/
theorem State.removeMsgs_lacks (s : State) {p : UpMsg → Bool} {m : UpMsg} (hm : p m = false) :
    (s.removeMsgs p).lacks m ↔ s.lacks m := by
  have messages : (s.removeMsgs p).ctx.queue ++ (s.removeMsgs p).ctx.waiting =
      (s.ctx.queue.filter fun q => !p q.msg || s.ctx.carries q.id) ++ s.ctx.waiting.filter fun q => !p q.msg :=
    CtxUnit.fillRoom_messages _
  unfold State.lacks
  rw [messages]
  simp only [List.mem_append, List.mem_filter, Bool.or_eq_true, Bool.not_eq_true']
  constructor
  · rintro h q hq rfl
    exact h q (hq.imp (⟨·, .inl hm⟩) (⟨·, hm⟩)) rfl
  · exact fun h q hq => h q (hq.imp And.left And.left)

/-- Of a kind that one message makes up, none is unsent and none is carried. -/
theorem State.unsent_carried_iff (s : State) {p : UpMsg → Bool} {m : UpMsg} (hp : ∀ n, p n = true ↔ n = m) :
    s.unsent p = false ∧ s.carried p = false ↔ s.lacks m := by
  simp only [State.unsent, State.carried, State.lacks, Bool.or_eq_false_iff, List.any_eq_false, Bool.and_eq_true,
    Bool.not_eq_true', not_and, Bool.not_eq_false, Bool.not_eq_true, hp, List.mem_append]
  constructor
  · rintro ⟨⟨carried, waiting⟩, uncarried⟩ q (h | h) e
    · exact Bool.noConfusion ((uncarried q h e).symm.trans (carried q h e))
    · exact waiting q h e
  · intro h
    exact ⟨⟨fun q hq e => absurd e (h q (.inl hq)), fun q hq => h q (.inr hq)⟩, fun q hq e => absurd e (h q (.inl hq))⟩

theorem UpMsg.isLeave_iff (m : UpMsg) : m.isLeave = true ↔ m = .leave := by cases m <;> simp [UpMsg.isLeave]

theorem UpMsg.isDone_iff (m : UpMsg) : m.isDone = true ↔ m = .done := by cases m <;> simp [UpMsg.isDone]

theorem UpMsg.isStoreReady_iff (m : UpMsg) : m.isStoreReady = true ↔ m = .storeReady := by
  cases m <;> simp [UpMsg.isStoreReady]

/-- DONE is neither sent nor queued. -/
theorem State.doneOpen_iff (s : State) :
    s.doneGone = false ∧ s.unsent UpMsg.isDone = false ↔ s.ctx.doneSent = false ∧ s.lacks .done := by
  rw [← s.unsent_carried_iff UpMsg.isDone_iff]
  simp only [State.doneGone, Bool.or_eq_false_iff]
  tauto

/-! ### What is queued when the purposes change (R16, R41) -/

/-- R16, R41: LEAVE when it is a purpose, no call record is in use and none is queued; DONE when no purpose remains and it is neither
sent nor queued. -/
def State.due (s : State) (x : Sub) (c : Context) : List UpMsg :=
  if Purpose.leave ∈ c.purposes then (if s.inUse x = false ∧ s.lacks .leave then [.leave] else [])
  else if c.purposes = [] ∧ s.ctx.doneSent = false ∧ s.lacks .done then [.done]
  else []

theorem State.settleConn_eq {s : State} {x : Sub} {c : Context} (hc : s.connection x = some c) :
    s.settleConn x = (s.due x c).foldl State.offer s := by
  unfold State.settleConn State.due
  simp only [hc, List.contains_eq_mem, decide_eq_true_eq, s.unsent_carried_iff UpMsg.isLeave_iff, s.doneOpen_iff]
  split
  · split <;> rfl
  · split <;> rfl

/-- With a purpose other than LEAVE nothing is due. -/
theorem State.due_eq_nil (s : State) (x : Sub) {c : Context} (hl : Purpose.leave ∉ c.purposes) (hp : c.purposes ≠ []) :
    s.due x c = [] := by
  unfold State.due
  rw [if_neg hl, if_neg fun h => hp h.1]

theorem State.settleConn_busy {s : State} {x : Sub} {c : Context} (hc : s.connection x = some c)
    (hl : Purpose.leave ∉ c.purposes) (hp : c.purposes ≠ []) : s.settleConn x = s := by
  rw [State.settleConn_eq hc, s.due_eq_nil x hl hp]
  rfl

@[simp] theorem State.offer_connection (s : State) (m : UpMsg) (x : Sub) : (s.offer m).connection x = s.connection x :=
  State.connection_congr rfl x

/-- What was due is no longer, once it has been queued. -/
theorem State.due_queued (s : State) (x : Sub) (c : Context) : ((s.due x c).foldl State.offer s).due x c = [] := by
  have leave_queued : ¬(s.offer .leave).lacks .leave := fun h => ((s.offer_lacks _ _).1 h).2 rfl
  have done_queued : ¬(s.offer .done).lacks .done := fun h => ((s.offer_lacks _ _).1 h).2 rfl
  by_cases hl : Purpose.leave ∈ c.purposes
  · by_cases h : s.inUse x = false ∧ s.lacks .leave
    · have hd : s.due x c = [.leave] := by rw [State.due, if_pos hl, if_pos h]
      rw [hd, State.due, if_pos hl]
      exact if_neg fun h => leave_queued h.2
    · have hd : s.due x c = [] := by rw [State.due, if_pos hl, if_neg h]
      rw [hd]
      exact hd
  · by_cases h : c.purposes = [] ∧ s.ctx.doneSent = false ∧ s.lacks .done
    · have hd : s.due x c = [.done] := by rw [State.due, if_neg hl, if_pos h]
      rw [hd, State.due, if_neg hl]
      exact if_neg fun h => done_queued h.2.2
    · have hd : s.due x c = [] := by rw [State.due, if_neg hl, if_neg h]
      rw [hd]
      exact hd

theorem State.foldl_offer_active (ms : List UpMsg) (s : State) : (ms.foldl State.offer s).ctx.active = s.ctx.active :=
  foldl_keeps (fun t : State => t.ctx.active) State.offer ms s fun _ _ => rfl

theorem State.settleConn_settleConn {s : State} {x : Sub} {c : Context} (hc : s.connection x = some c) :
    (s.settleConn x).settleConn x = s.settleConn x := by
  have hc' : ((s.due x c).foldl State.offer s).connection x = some c :=
    (State.connection_congr (State.foldl_offer_active _ _) x).trans hc
  rw [State.settleConn_eq hc, State.settleConn_eq hc', s.due_queued]
  rfl

/-- R16: a purpose leaves a connection of which LEAVE is none. -/
theorem State.leaveConn_eq {s : State} {x : Sub} {c : Context} {p : Purpose} (hc : s.connection x = some c)
    (hl : Purpose.leave ∉ c.purposes) : s.leaveConn x p = s.leftBy c p := by
  obtain ⟨-, rfl⟩ := State.connection_eq_some.1 hc
  have stays : Purpose.leave ∉ without p c.purposes := fun h => hl (List.mem_filter.1 h).1
  unfold State.leaveConn
  rw [State.modPurposes_eq hc, State.settleConn_eq (s.withActive_connection _), State.due, if_neg stays]
  refine (apply_ite (List.foldl State.offer _) _ _ _).trans ?_
  rfl

/-- A second look at a connection that a purpose has left finds nothing due. -/
theorem State.leftBy_settleConn {s : State} {x : Sub} {c : Context} {p : Purpose} (hc : s.connection x = some c)
    (hl : Purpose.leave ∉ c.purposes) : (s.leftBy c p).settleConn x = s.leftBy c p := by
  have hc' : (s.modPurposes x (without p)).connection x = some { c with purposes := without p c.purposes } := by
    obtain ⟨-, rfl⟩ := State.connection_eq_some.1 hc
    rw [State.modPurposes_eq hc]
    exact s.withActive_connection _
  rw [← State.leaveConn_eq hc hl]
  exact State.settleConn_settleConn hc'

/-! ### Texts on the connection (R137, R139) -/

/-- An entry put in its place adds itself and nothing else. -/
theorem mem_placeBy (key : OutEntry → Nat) (e f : OutEntry) (l : List OutEntry) :
    f ∈ placeBy key e l ↔ f = e ∨ f ∈ l := by
  induction l with
  | nil => simp [placeBy]
  | cons a l ih =>
    unfold placeBy
    split
    · exact List.mem_cons
    · simp only [List.mem_cons, ih]; tauto

/-- An entry that no other goes before stays at the head. -/
theorem head_placeBy {key : OutEntry → Nat} {e f : OutEntry} {l : List OutEntry} (hl : l.head? = some e)
    (hf : f ≠ e → key e < key f) : (placeBy key f l).head? = some e := by
  obtain ⟨l, rfl⟩ := List.head?_eq_some_iff.1 hl
  unfold placeBy
  split
  next h =>
    by_cases he : f = e
    · rw [he]; rfl
    · exact absurd (hf he) (by omega)
  next => rfl

/-- An entry that goes before all the others comes to the head. -/
theorem head_placeBy_first {key : OutEntry → Nat} {e : OutEntry} {l : List OutEntry}
    (hl : ∀ f ∈ l, f ≠ e → key e < key f) : (placeBy key e l).head? = some e := by
  cases l with
  | nil => rfl
  | cons a l =>
    unfold placeBy
    split
    next => rfl
    next h =>
      have : a = e := by_contra fun ha => h (hl a List.mem_cons_self ha)
      rw [this]; rfl

/-- The same while entries are put in their places one after another: it is at the head already, or still to come. -/
theorem head_foldl_placeBy {key : OutEntry → Nat} {e : OutEntry} (es acc : List OutEntry)
    (hes : ∀ f ∈ es, f ≠ e → key e < key f) (hacc : ∀ f ∈ acc, f ≠ e → key e < key f)
    (he : acc.head? = some e ∨ e ∈ es) : (es.foldl (fun l f => placeBy key f l) acc).head? = some e := by
  induction es generalizing acc with
  | nil => simpa using he
  | cons a es ih =>
    refine ih _ (fun f hf => hes f (List.mem_cons_of_mem _ hf)) (fun f hf => ?_) ?_
    · rcases (mem_placeBy key a f acc).1 hf with rfl | hf
      · exact hes f List.mem_cons_self
      · exact hacc f hf
    · rcases he with he | he
      · exact .inl (head_placeBy he (hes a List.mem_cons_self))
      · rcases List.mem_cons.1 he with rfl | he
        · exact .inl (head_placeBy_first hacc)
        · exact .inr he

/-- Entries in order begin with the one that goes before all the others. -/
theorem head_sortBy {key : OutEntry → Nat} {e : OutEntry} {es : List OutEntry} (he : e ∈ es)
    (hf : ∀ f ∈ es, f ≠ e → key e < key f) : (sortBy key es).head? = some e :=
  head_foldl_placeBy es [] hf (by simp) (.inr he)

/-- The entries of a subscription that wait to be sent, in the order they became READY. -/
def State.readyOnes (s : State) (x : Sub) : List OutEntry :=
  sortBy OutEntry.order (s.text.outbox.filter fun e => decide (e.sub = x ∧ e.state = .ready))

theorem State.readyOnes_head {s : State} {x : Sub} {e : OutEntry} (h : s.readyFirst x e) : (s.readyOnes x).head? = some e := by
  obtain ⟨hm, hx, hr, hfirst⟩ := h
  refine head_sortBy (List.mem_filter.2 ⟨hm, by simp [hx, hr]⟩) fun f hf => ?_
  obtain ⟨hfm, hf⟩ := List.mem_filter.1 hf
  obtain ⟨hfx, hfr⟩ := of_decide_eq_true hf
  exact hfirst f hfm hfx hfr

theorem State.readyOnes_nil {s : State} {x : Sub} (h : ∀ e ∈ s.text.outbox, e.sub = x → e.state ≠ .ready) :
    s.readyOnes x = [] := by
  have none_ready : (s.text.outbox.filter fun e => decide (e.sub = x ∧ e.state = .ready)) = [] :=
    List.filter_eq_nil_iff.2 fun e he hp => h e he (of_decide_eq_true hp).1 (of_decide_eq_true hp).2
  rw [State.readyOnes, none_ready]
  rfl

/-- R137: with TEXT on a connection without a registration and no entry SENDING, the first READY entry is sent. -/
theorem State.startSending_eq {s : State} {x : Sub} {c : Context} (hc : s.connection x = some c)
    (ht : Purpose.text ∈ c.purposes) (hr : Purpose.register ∉ c.purposes) (hs : s.sendingEntry x = none) :
    (∀ e, s.readyFirst x e → s.startSending x = s.sendingNow e) ∧
      ((∀ e ∈ s.text.outbox, e.sub = x → e.state ≠ .ready) → s.startSending x = s) := by
  have may : c.purposes.contains .text = true ∧ s.registering x = false ∧ s.sendingEntry x = none :=
    ⟨by simpa using ht, by simp [State.registering_eq hc, hr], hs⟩
  unfold State.startSending
  simp only [hc, if_pos may]
  refine ⟨fun e he => ?_, fun hn => ?_⟩
  · obtain ⟨l, hl⟩ := List.head?_eq_some_iff.1 (State.readyOnes_head he)
    obtain ⟨-, rfl, -⟩ := he
    rw [State.readyOnes] at hl
    simp only [hl]
    simp [State.sendingNow, State.offerPart, State.modOut, State.modCtx, State.offer, CtxUnit.fillRoom, OutEntry.is,
      List.head?_eq_getElem?]
  · have hl := State.readyOnes_nil hn
    rw [State.readyOnes] at hl
    simp only [hl]

theorem State.hasReady_false_iff (s : State) (x : Sub) :
    s.hasReady x = false ↔ ∀ e ∈ s.text.outbox, e.sub = x → e.state ≠ .ready := by
  simp [State.hasReady]

/-- An entry is SENDING once its sending has begun. -/
theorem State.sendingNow_sendingEntry {s : State} {x : Sub} {e : OutEntry} (he : s.readyFirst x e) :
    (s.sendingNow e).sendingEntry x ≠ none := by
  obtain ⟨hm, rfl, -⟩ := he
  intro hn
  refine List.find?_eq_none.1 hn { e with state := .sending, part := some 1, sends := 1 } ?_ (by simp)
  exact List.mem_map.2 ⟨e, hm, if_pos ⟨rfl, rfl⟩⟩

theorem State.sendingNow_connection (s : State) (x : Sub) (e : OutEntry) :
    (s.sendingNow e).connection x = s.connection x :=
  State.connection_congr rfl x

/-- R137: while an entry is SENDING nothing else begins, and TEXT stays. -/
theorem State.afterSending_sending {s : State} {x : Sub} (hs : s.sendingEntry x ≠ none) : s.afterSending x = s := by
  have started : s.startSending x = s := by
    unfold State.startSending
    cases s.connection x with
    | none => rfl
    | some c => exact if_neg fun h => hs h.2.2
  unfold State.afterSending State.textMayLeave
  rw [started]
  cases s.connection x with
  | none => rfl
  | some c => exact if_neg fun h => hs h.2.2.2

/-- A connection without TEXT has no text to send. -/
theorem State.afterSending_without {s : State} {x : Sub} {c : Context} (hc : s.connection x = some c)
    (ht : Purpose.text ∉ c.purposes) : s.afterSending x = s := by
  have started : s.startSending x = s := by
    unfold State.startSending
    simp [hc, ht]
  unfold State.afterSending State.textMayLeave
  rw [started]
  simp [hc, ht]

/-- R137: with none SENDING the first READY entry is sent; with none READY, TEXT leaves unless the incoming reason holds it. -/
theorem State.afterSending_eq {s : State} {x : Sub} {c : Context} (hc : s.connection x = some c)
    (ht : Purpose.text ∈ c.purposes) (hr : Purpose.register ∉ c.purposes) (hl : Purpose.leave ∉ c.purposes)
    (hs : s.sendingEntry x = none) :
    (∀ e, s.readyFirst x e → s.afterSending x = s.sendingNow e) ∧
      ((∀ e ∈ s.text.outbox, e.sub = x → e.state ≠ .ready) →
        ((s.textOf x).incoming = true → s.afterSending x = s) ∧
          ((s.textOf x).incoming = false → s.afterSending x = s.leftBy c .text)) := by
  obtain ⟨first, none_ready⟩ := State.startSending_eq hc ht hr hs
  refine ⟨fun e he => ?_, fun hn => ⟨fun hi => ?_, fun hi => ?_⟩⟩ <;> unfold State.afterSending State.textMayLeave
  · rw [first e he, s.sendingNow_connection, hc]
    exact if_neg fun h => State.sendingNow_sendingEntry he h.2.2.2
  · rw [none_ready hn, hc]
    exact if_neg fun h => by rw [hi] at h; cases h.2.1
  · rw [none_ready hn, ← State.leaveConn_eq hc hl]
    simp only [hc]
    exact if_pos ⟨by simpa using ht, hi, (s.hasReady_false_iff x).2 hn, hs⟩

/-! ### STORE_READY on the connection (R148) -/

theorem State.offerStoreReady_without {s : State} {x : Sub} {c : Context} (hc : s.connection x = some c)
    (hp : Purpose.storeReady ∉ c.purposes) : s.offerStoreReady x = s := by
  unfold State.offerStoreReady
  simp [hc, hp]

theorem State.offerStoreReady_eq {s : State} {x : Sub} {c : Context} (hc : s.connection x = some c)
    (hp : Purpose.storeReady ∈ c.purposes) (hr : Purpose.register ∉ c.purposes) (ha : s.lacks .storeReady) :
    s.offerStoreReady x = s.offer .storeReady := by
  obtain ⟨hu, hca⟩ := (s.unsent_carried_iff UpMsg.isStoreReady_iff).2 ha
  unfold State.offerStoreReady
  simp only [hc]
  exact if_pos ⟨by simpa using hp, by simp [State.registering_eq hc, hr], hu, hca⟩

end Sys2Proof.Machine
end

section
/-! SUPPORT. How a registration on a connection ends, and the exchanges that begin (R39, R95, R137, R85, R87, R148). -/

namespace Sys2Proof.Machine

open Sys2Proof

/-! ### A registration refused, or not answered (R39, R95) -/

/-- The connection when a registration on it has failed: TEXT stays when an entry has become SENDING on it. -/
def Context.refused (c : Context) (begun : Bool) : Context :=
  { c with purposes := c.purposes.filter fun p => decide (p ≠ .register ∧ p ≠ .storeReady ∧ (p ≠ .text ∨ begun = true)) }

theorem Context.mem_refused {c : Context} {begun : Bool} {p : Purpose} : p ∈ (c.refused begun).purposes ↔
    p ∈ c.purposes ∧ p ≠ .register ∧ p ≠ .storeReady ∧ (p ≠ .text ∨ begun = true) := by
  simp [Context.refused, List.mem_filter]

/-- The record of a subscription whose registration has failed. -/
def State.refusedSubs (s : State) (x : Sub) (why : NoServiceReason) : Two SubRec :=
  s.subs.set x { s.sub x with registration := some why.result, regGuard := none, areaChanged := false }

/-- The state in which a registration has failed, before the texts on the connection go on and what is due then is queued. -/
def State.regFailedOn (s : State) (x : Sub) (c : Context) (why : NoServiceReason) : State :=
  let kept := s.ctx.queue.filter fun q => !q.msg.isStoreReady || s.ctx.carries q.id
  let wait := s.ctx.waiting.filter fun q => !q.msg.isStoreReady
  { s with
    subs := s.refusedSubs x why
    text := if s.ctx.textBegun = true then s.text else { s.text with
      subs := s.text.subs.set x { s.text.subs.get x with incoming := false, idle := .stopped } }
    ctx := { s.ctx with
      active := some (c.refused s.ctx.textBegun), regFailed := some why
      queue := kept ++ wait.take (4 - kept.length), waiting := wait.drop (4 - kept.length) }
    link := { s.link with
      outbox := postIn (({ s with subs := s.refusedSubs x why } : State).subSnapshot x) 4 s.link.outbox } }

theorem State.regFailedOn_connection {s : State} {x : Sub} {c : Context} (hc : s.connection x = some c)
    (why : NoServiceReason) : (s.regFailedOn x c why).connection x = some (c.refused s.ctx.textBegun) :=
  State.connection_eq_some.2 ⟨rfl, (State.connection_eq_some.1 hc).2⟩

/-- The state in which the failure of a registration has been told. -/
def State.regTold (s : State) (x : Sub) (why : NoServiceReason) : State :=
  ((s.modSub x fun r => { r with registration := some why.result, regGuard := none, areaChanged := false }).postSub x
    SubFlag.registration).modCtx fun u => { u with regFailed := some why }

/-- The state in which REGISTER and STORE_READY have left the connection then. -/
def State.regUntangled (s : State) (x : Sub) (why : NoServiceReason) : State :=
  (((s.regTold x why).modPurposes x (without .register)).removeMsgs UpMsg.isStoreReady).modPurposes x (without .storeReady)

/-- The calls are no part of a connection's purposes. -/
theorem State.modPurposes_calls (s : State) (x : Sub) (f : List Purpose → List Purpose) : (s.modPurposes x f).calls = s.calls := by
  unfold State.modPurposes
  split <;> rfl

theorem State.callOf_congr {s t : State} (h : t.calls = s.calls) (x : Sub) : t.callOf x = s.callOf x := by
  have same (i : CallId) : t.call i = s.call i := by cases i <;> simp only [State.call, h]
  unfold State.callOf
  simp only [same]

/-- Without a call of the subscription a failed registration ends no call. -/
theorem State.regRefused_uncalled {s : State} {x : Sub} (hcall : s.callOf x = none) (why : NoServiceReason) :
    s.regRefused x why =
      (if (s.regUntangled x why).ctx.textBegun = true then (s.regUntangled x why).afterSending x
        else ((s.regUntangled x why).modText x fun t => { t with incoming := false, idle := .stopped }).modPurposes x
          (without .text)).settleConn x := by
  have uncalled : ((s.regTold x why).modPurposes x (without .register)).callOf x = none :=
    (State.callOf_congr (State.modPurposes_calls _ _ _) x).trans hcall
  unfold State.regTold at uncalled
  unfold State.regRefused
  simp only [uncalled]
  rfl

theorem State.regUntangled_eq {s : State} {x : Sub} {c : Context} (hc : s.connection x = some c) (why : NoServiceReason) :
    s.regUntangled x why = { s with
      subs := s.refusedSubs x why
      ctx := { (s.removeMsgs UpMsg.isStoreReady).ctx with
        active := some { c with purposes := without .storeReady (without .register c.purposes) }, regFailed := some why }
      link := { s.link with
        outbox := postIn (({ s with subs := s.refusedSubs x why } : State).subSnapshot x) 4 s.link.outbox } } := by
  obtain ⟨hactive, rfl⟩ := State.connection_eq_some.1 hc
  have told : (s.regTold c.sub why).connection c.sub = some c := (State.connection_congr rfl _).trans hc
  unfold State.regUntangled
  rw [State.modPurposes_eq told]
  refine (State.modPurposes_eq (c := { c with purposes := without .register c.purposes })
    (State.connection_eq_some.2 ⟨rfl, rfl⟩) _).trans rfl

/-- A failed registration, without a call of the subscription: the texts go on when an entry has become SENDING, and what is due is
queued. -/
theorem State.regRefused_eq {s : State} {x : Sub} {c : Context} (hc : s.connection x = some c) (hcall : s.callOf x = none)
    (why : NoServiceReason) : s.regRefused x why =
      (if s.ctx.textBegun = true then (s.regFailedOn x c why).afterSending x else s.regFailedOn x c why).settleConn x := by
  have begun : (s.regUntangled x why).ctx.textBegun = s.ctx.textBegun := by rw [State.regUntangled_eq hc]; rfl
  have purposes : c.purposes.filter (fun p => decide (p ≠ .register ∧ p ≠ .storeReady ∧ (p ≠ .text ∨ s.ctx.textBegun = true))) =
      if s.ctx.textBegun = true then without .storeReady (without .register c.purposes)
      else without .text (without .storeReady (without .register c.purposes)) := by
    simp only [without, List.filter_filter]
    split <;> refine List.filter_congr fun p _ => ?_ <;> cases p <;> simp [*]
  rw [State.regRefused_uncalled hcall, begun]
  refine congrArg (State.settleConn · x) ?_
  by_cases hb : s.ctx.textBegun = true
  · rw [if_pos hb] at purposes
    rw [if_pos hb, if_pos hb, State.regUntangled_eq hc]
    unfold State.regFailedOn Context.refused
    rw [purposes, if_pos hb]
    rfl
  · rw [if_neg hb] at purposes
    rw [if_neg hb, if_neg hb, State.modPurposes_eq (c := { c with purposes := without .storeReady (without .register c.purposes) })
      (by rw [State.regUntangled_eq hc]; exact State.connection_eq_some.2 ⟨rfl, (State.connection_eq_some.1 hc).2⟩),
      State.regUntangled_eq hc]
    unfold State.regFailedOn Context.refused
    rw [purposes, if_neg hb]
    rfl

/-- A failed registration leaves every message but STORE_READY. -/
theorem State.regFailedOn_lacks (s : State) (x : Sub) (c : Context) (why : NoServiceReason) {m : UpMsg}
    (hm : m.isStoreReady = false) : (s.regFailedOn x c why).lacks m ↔ s.lacks m :=
  s.removeMsgs_lacks hm

theorem State.regFailedOn_due (s : State) (x : Sub) (c : Context) (why : NoServiceReason) (d : Context) :
    (s.regFailedOn x c why).due x d = s.due x d := by
  have leave := s.regFailedOn_lacks x c why (m := .leave) rfl
  have done := s.regFailedOn_lacks x c why (m := .done) rfl
  have calls : (s.regFailedOn x c why).inUse x = s.inUse x := rfl
  have sent : (s.regFailedOn x c why).ctx.doneSent = s.ctx.doneSent := rfl
  unfold State.due
  simp only [leave, done, calls, sent]

/-- With TEXT still on the connection an entry has become SENDING on it, and the text transfer unit stands. -/
theorem State.regFailedOn_text {s : State} {c : Context} (ht : Purpose.text ∈ (c.refused s.ctx.textBegun).purposes)
    (x : Sub) (why : NoServiceReason) : s.ctx.textBegun = true ∧ (s.regFailedOn x c why).text = s.text := by
  obtain ⟨-, -, -, h⟩ := Context.mem_refused.1 ht
  have begun := h.resolve_left (by simp)
  exact ⟨begun, if_pos begun⟩

/-- A failed registration that takes TEXT from the connection, or finds none: what is due is queued. -/
theorem State.regRefused_without_text {s : State} {x : Sub} {c : Context} (hc : s.connection x = some c)
    (hcall : s.callOf x = none) (why : NoServiceReason) (ht : Purpose.text ∉ (c.refused s.ctx.textBegun).purposes) :
    s.regRefused x why = (s.due x (c.refused s.ctx.textBegun)).foldl State.offer (s.regFailedOn x c why) := by
  have hu := State.regFailedOn_connection hc why
  rw [State.regRefused_eq hc hcall, State.afterSending_without hu ht, ite_self, State.settleConn_eq hu, State.regFailedOn_due]

/-- A failed registration that leaves TEXT on the connection: the texts go on, and nothing else is due. -/
theorem State.regRefused_with_text {s : State} {x : Sub} {c : Context} (hc : s.connection x = some c)
    (hcall : s.callOf x = none) (why : NoServiceReason) (ht : Purpose.text ∈ (c.refused s.ctx.textBegun).purposes)
    (hl : Purpose.leave ∉ (c.refused s.ctx.textBegun).purposes) :
    (s.sendingEntry x ≠ none → s.regRefused x why = s.regFailedOn x c why) ∧
      (s.sendingEntry x = none →
        (∀ e, s.readyFirst x e → s.regRefused x why = (s.regFailedOn x c why).sendingNow e) ∧
          ((∀ e ∈ s.text.outbox, e.sub = x → e.state ≠ .ready) →
            ((s.textOf x).incoming = true → s.regRefused x why = s.regFailedOn x c why) ∧
              ((s.textOf x).incoming = false →
                s.regRefused x why = (s.regFailedOn x c why).leftBy (c.refused s.ctx.textBegun) .text))) := by
  obtain ⟨begun, text⟩ := State.regFailedOn_text ht x why
  have hu := State.regFailedOn_connection hc why
  have unregistered : Purpose.register ∉ (c.refused s.ctx.textBegun).purposes := fun h => (Context.mem_refused.1 h).2.1 rfl
  have stands : (s.regFailedOn x c why).settleConn x = s.regFailedOn x c why :=
    State.settleConn_busy hu hl (List.ne_nil_of_mem ht)
  rw [State.regRefused_eq hc hcall, if_pos begun]
  simp only [State.sendingEntry, State.readyFirst, State.textOf, ← text]
  refine ⟨fun hs => ?_, fun hs => ?_⟩
  · rw [State.afterSending_sending hs, stands]
  obtain ⟨first, none_ready⟩ := State.afterSending_eq hu ht unregistered hl hs
  refine ⟨fun e he => ?_, fun hn => ⟨fun hi => ?_, fun hi => ?_⟩⟩
  · rw [first e he]
    exact State.settleConn_busy ((State.sendingNow_connection ..).trans hu) hl (List.ne_nil_of_mem ht)
  · rw [(none_ready hn).1 hi, stands]
  · rw [(none_ready hn).2 hi, State.leftBy_settleConn hu hl]

/-! ### ENROL_OK, and answers without a registration (R39) -/

/-- R39: ENROL_OK on a connection with a registration. -/
theorem State.registered_eq {s : State} {x : Sub} {c : Context} (hc : s.connection x = some c) (key : BitVec 16) :
    let u : State := { s with
      subs := s.subs.set x { s.sub x with
        area := some c.area, key := some key, registration := some .ok, regGuard := none, areaChanged := false }
      ctx := { s.ctx with active := some { c with purposes := c.purposes.filter fun p => decide (p ≠ .register) } } }
    s.registered x key = ({ u with
      link := { s.link with
        outbox := postIn (u.subSnapshot x) (if (s.sub x).key = some key then 4 else 12) s.link.outbox } } :
          State).beginExchanges x := by
  intro u
  unfold State.registered
  simp only [hc]
  refine (congrArg (State.beginExchanges · x) (State.modPurposes_eq (c := c) ?_ _)).trans
    (congrArg (State.beginExchanges · x) ?_)
  · exact (State.connection_congr rfl _).trans hc
  by_cases hk : (s.sub x).key = some key
  · simp only [hk, ne_eq, not_true, decide_false, if_true]; rfl
  · simp only [hk, ne_eq, not_false_eq_true, decide_true, if_true, if_false]; rfl

theorem State.received_enrolOk {s : State} {x : Sub} {c : Context} (hc : s.connection x = some c) (frame : Slot)
    (key : BitVec 16) : s.received x frame (.enrolOk key) = if Purpose.register ∈ c.purposes then s.registered x key else s := by
  refine (if_neg (by simp [downInRange])).trans ?_
  simp only [State.registering_eq hc, decide_eq_true_eq]

/-- The reason that the cause of an ENROL_NO is. -/
def enrolReason : EnrolCause → NoServiceReason
  | .rejected => .rejected
  | .notAllowed => .notAllowed

theorem State.received_enrolNo {s : State} {x : Sub} {c : Context} (hc : s.connection x = some c) (frame : Slot)
    (why : EnrolCause) : s.received x frame (.enrolNo why) =
      if Purpose.register ∈ c.purposes then s.regRefused x (enrolReason why) else s := by
  refine (if_neg (by simp [downInRange])).trans ?_
  cases why <;> simp only [State.registering_eq hc, decide_eq_true_eq] <;> rfl

/-- REGISTRATION_GUARD_EXPIRY on a connection with a registration. -/
theorem exec_registrationGuardExpiry {s : State} {x : Sub} {c : Context} {u : Slot} (hc : s.connection x = some c)
    (hreg : Purpose.register ∈ c.purposes) (hawake : s.awake = true) (hu : (s.sub x).regGuard = some u)
    (hexp : (s.now - u).toNat < 2 ^ 31) : exec (.registrationGuardExpiry x) s = settle (s.regRefused x .noReply) := by
  have expires : expired s.now (s.sub x).regGuard = true := by rw [hu]; exact decide_eq_true hexp
  exact if_pos ⟨hawake, expires, by simp [State.registering_eq hc, hreg]⟩

@[simp] theorem State.offer_reports (s : State) (m : UpMsg) : (s.offer m).reports = s.reports := rfl

@[simp] theorem State.modPurposes_reports (s : State) (x : Sub) (f : List Purpose → List Purpose) :
    (s.modPurposes x f).reports = s.reports := by
  unfold State.modPurposes; split <;> rfl

@[simp] theorem State.settleConn_reports (s : State) (x : Sub) : (s.settleConn x).reports = s.reports := by
  unfold State.settleConn
  split
  · simp [apply_ite State.reports]
  · rfl

@[simp] theorem State.startSending_reports (s : State) (x : Sub) : (s.startSending x).reports = s.reports := by
  unfold State.startSending
  split
  · split
    · split <;> rfl
    · rfl
  · rfl

@[simp] theorem State.afterSending_reports (s : State) (x : Sub) : (s.afterSending x).reports = s.reports := by
  unfold State.afterSending State.textMayLeave
  split
  · simp [apply_ite State.reports, State.leaveConn]
  · simp

/-- The failure of a registration raises no report. -/
theorem State.regRefused_reports {s : State} {x : Sub} {c : Context} (hc : s.connection x = some c)
    (hcall : s.callOf x = none) (why : NoServiceReason) : (s.regRefused x why).reports = s.reports := by
  have told : (s.regFailedOn x c why).reports = s.reports := rfl
  simp [State.regRefused_eq hc hcall, apply_ite State.reports, told]

/-! ### The exchanges begin (R85, R87, R137, R148) -/

/-- R85, R87, R95: what begins for the call of a connection: DIAL for a call the host asked for, RING for an arrived one whose RING
waited, with TAKE behind it when it was answered. -/
def State.callExchange (s : State) (i : CallId) : State :=
  let r := s.call i
  let answering : CallRec := { r with ringWaits := false, state := .answering, timer := some (slotAdd s.now 20000) }
  if r.state = .dialling ∨ r.state = .requesting then
    { s.callTold i { r with state := .offering, timer := some (slotAdd s.now 60000) } 1 with
      ctx := (s.offer (.dial (r.number.getD []))).ctx }
  else if r.state = .incoming ∧ r.ringWaits = true then
    if r.answered = true then { s.callTold i answering 1 with ctx := ((s.offer .ring).offer .take).ctx }
    else
      { s with
        calls := (s.setCall i { r with ringWaits := false, timer := some (slotAdd s.now 60000) }).calls
        ctx := (s.offer .ring).ctx }
  else s

/-- The state in which the exchange of a subscription's call has begun, if it has one. -/
def State.callBegun (s : State) (x : Sub) : State := ((s.callOf x).map s.callExchange).getD s

theorem State.offerDial_eq {s : State} {i : CallId} (h : (s.call i).state = .dialling ∨ (s.call i).state = .requesting) :
    s.offerDial i = s.callExchange i := by
  have unconnected : (s.call i).state ≠ .connected := by rcases h with h | h <;> simp [h]
  have voice : ¬(((s.offer (.dial ((s.call i).number.getD []))).call i).state = .connected ∧
      CallState.offering ≠ .connected) := fun hv => unconnected (by cases i <;> exact hv.1)
  unfold State.offerDial State.callExchange
  rw [State.enterCall_eq, if_neg voice]
  simp only [if_pos h]
  cases i <;> rfl

/-- A RING that has been offered, with the timer set: the record is this one. -/
def CallRec.rung (r : CallRec) (now : Slot) : CallRec := { r with ringWaits := false, timer := some (slotAdd now 60000) }

theorem State.ringNow_eq {s : State} {i : CallId} (hs : (s.call i).state = .incoming) (hr : (s.call i).ringWaits = true) :
    s.ringNow i = s.callExchange i := by
  have called : ¬((s.call i).state = .dialling ∨ (s.call i).state = .requesting) := by simp [hs]
  have rung : (((s.offer .ring).setCall i ((s.call i).rung s.now)).offer .take).call i = (s.call i).rung s.now :=
    State.call_setCall ..
  have ring : s.ringNow i = if (s.call i).answered = true then
      (((s.offer .ring).setCall i ((s.call i).rung s.now)).offer .take).enterCall i .answering 0
      else (s.offer .ring).setCall i ((s.call i).rung s.now) := by cases i <;> rfl
  have begun : s.callExchange i = if (s.call i).answered = true then
      { s.callTold i { s.call i with ringWaits := false, state := .answering, timer := some (slotAdd s.now 20000) } 1 with
        ctx := ((s.offer .ring).offer .take).ctx }
      else { s with calls := (s.setCall i ((s.call i).rung s.now)).calls, ctx := (s.offer .ring).ctx } :=
    (if_neg called).trans (if_pos ⟨hs, hr⟩)
  rw [ring, begun]
  by_cases ha : (s.call i).answered = true
  · have unconnected : ¬(((s.call i).rung s.now).state = .connected ∧ CallState.answering ≠ .connected) := by
      simp [CallRec.rung, hs]
    rw [if_pos ha, if_pos ha, State.enterCall_eq, rung, if_neg unconnected]
    cases i <;> rfl
  · rw [if_neg ha, if_neg ha]
    cases i <;> rfl

theorem State.callExchange_other {s : State} {i : CallId} (hd : (s.call i).state ≠ .dialling)
    (hq : (s.call i).state ≠ .requesting) (hr : (s.call i).state ≠ .incoming ∨ (s.call i).ringWaits = false) :
    s.callExchange i = s := by
  have called : ¬((s.call i).state = .dialling ∨ (s.call i).state = .requesting) := fun h => h.elim hd hq
  have rings : ¬((s.call i).state = .incoming ∧ (s.call i).ringWaits = true) := by
    rintro ⟨hs, hw⟩
    rcases hr with hr | hr
    · exact hr hs
    · simp [hr] at hw
  unfold State.callExchange
  simp only [if_neg called, if_neg rings]

/-- The exchanges of a connection begin with its call, then its texts, STORE_READY, and what is due. -/
theorem State.beginExchanges_eq (s : State) (x : Sub) :
    s.beginExchanges x = (((s.callBegun x).afterSending x).offerStoreReady x).settleConn x := by
  unfold State.beginExchanges State.callBegun State.afterSending
  refine congrArg (fun t : State => (((t.startSending x).textMayLeave x).offerStoreReady x).settleConn x) ?_
  cases s.callOf x with
  | none => rfl
  | some i =>
    simp only [Option.map_some, Option.getD_some]
    split
    next h => exact State.offerDial_eq (.inr h)
    next h => exact State.offerDial_eq (.inl h)
    next h =>
      by_cases hr : (s.call i).ringWaits = true
      · rw [if_pos hr, State.ringNow_eq h hr]
      · rw [if_neg hr, State.callExchange_other (by simp [h]) (by simp [h]) (.inr (by simpa using hr))]
    next hq hd hi => exact (State.callExchange_other hd hq (.inl hi)).symm

theorem State.callBegun_eq {s : State} {x : Sub} {called : State}
    (h : (s.callOf x = none ∧ called = s) ∨ ∃ i, s.callOf x = some i ∧ called = s.callExchange i) :
    called = s.callBegun x := by
  unfold State.callBegun
  rcases h with ⟨hn, rfl⟩ | ⟨i, hi, rfl⟩
  · rw [hn]; rfl
  · rw [hi]; rfl

theorem State.callExchange_text (s : State) (i : CallId) : (s.callExchange i).text = s.text := by
  simp only [State.callExchange, apply_ite State.text]
  simp [State.callTold]

theorem State.callExchange_active (s : State) (i : CallId) : (s.callExchange i).ctx.active = s.ctx.active := by
  simp only [State.callExchange, apply_ite State.ctx, apply_ite CtxUnit.active]
  simp [State.offer, CtxUnit.fillRoom]

/-- The exchange of a call queues no STORE_READY. -/
theorem State.callExchange_lacks {s : State} {i : CallId} (h : s.lacks .storeReady) :
    (s.callExchange i).lacks .storeReady := by
  have dialled (n : Digits) : (s.offer (.dial n)).lacks .storeReady := (s.offer_lacks _ _).2 ⟨h, by simp⟩
  have rung : (s.offer .ring).lacks .storeReady := (s.offer_lacks _ _).2 ⟨h, by simp⟩
  have taken : ((s.offer .ring).offer .take).lacks .storeReady := (State.offer_lacks _ _ _).2 ⟨rung, by simp⟩
  unfold State.callExchange
  dsimp only
  split
  · exact dialled _
  · split
    · split
      · exact taken
      · exact rung
    · exact h

/-- What the exchange of a connection's call leaves as it is. -/
theorem State.callBegun_frame (s : State) (x : Sub) : (s.callBegun x).text = s.text ∧
    (∀ y, (s.callBegun x).connection y = s.connection y) ∧ (s.lacks .storeReady → (s.callBegun x).lacks .storeReady) := by
  unfold State.callBegun
  cases s.callOf x with
  | none => exact ⟨rfl, fun _ => rfl, id⟩
  | some i =>
    exact ⟨s.callExchange_text i, State.connection_congr (s.callExchange_active i), State.callExchange_lacks⟩

/-- A change that leaves the purposes as they are leaves the connection as it is. -/
theorem State.modPurposes_self {s : State} {x : Sub} {c : Context} (hc : s.connection x = some c)
    {f : List Purpose → List Purpose} (hf : f c.purposes = c.purposes) : s.modPurposes x f = s := by
  rw [State.modPurposes_eq hc, hf]
  unfold State.withActive
  rw [show ({ c with purposes := c.purposes } : Context) = c from rfl, ← (State.connection_eq_some.1 hc).1]

theorem State.leftBy_connection {s : State} {x : Sub} {c : Context} (hc : s.connection x = some c) (p : Purpose) :
    (s.leftBy c p).connection x = some { c with purposes := c.purposes.filter fun q => decide (q ≠ p) } := by
  refine State.connection_eq_some.2 ⟨?_, (State.connection_eq_some.1 hc).2⟩
  simp only [State.leftBy, apply_ite State.ctx, apply_ite CtxUnit.active]
  exact ite_self _

/-- A text that begins to be sent queues its first part alone. -/
theorem State.sendingNow_lacks {s : State} {m : UpMsg} (h : s.lacks m) (e : OutEntry)
    (hm : ∀ r k n d b, UpMsg.textPart r k n d b ≠ m) : (s.sendingNow e).lacks m :=
  (s.offer_lacks _ m).2 ⟨h, hm _ _ _ _ _⟩

/-- R36, R85, R87, R137, R148: the exchanges that begin on a connection without a registration and without LEAVE, by its purposes. -/
theorem State.beginExchanges_cases {s : State} {x : Sub} {c : Context} (hc : s.connection x = some c)
    (hr : Purpose.register ∉ c.purposes) (hl : Purpose.leave ∉ c.purposes) (hs : s.sendingEntry x = none) :
    (c.purposes = [.call] → s.beginExchanges x = s.callBegun x) ∧
    (Purpose.text ∈ c.purposes → Purpose.storeReady ∉ c.purposes →
      (∀ e, s.readyFirst x e → s.beginExchanges x = (s.callBegun x).sendingNow e) ∧
      ((∀ e ∈ s.text.outbox, e.sub = x → e.state ≠ .ready) →
        ((s.textOf x).incoming = true → s.beginExchanges x = s.callBegun x) ∧
        ((s.textOf x).incoming = false → s.beginExchanges x = (s.callBegun x).leftBy c .text))) ∧
    (Purpose.text ∉ c.purposes → Purpose.storeReady ∈ c.purposes → s.lacks .storeReady →
      s.beginExchanges x = (s.callBegun x).offer .storeReady) ∧
    (∀ e, Purpose.text ∈ c.purposes → Purpose.storeReady ∈ c.purposes → s.lacks .storeReady → s.readyFirst x e →
      s.beginExchanges x = ((s.callBegun x).sendingNow e).offer .storeReady) ∧
    (c.purposes = [] → s.beginExchanges x = (s.callBegun x).leftBy c .text) := by
  obtain ⟨text, conn, lacking⟩ := s.callBegun_frame x
  rw [← conn] at hc
  rw [s.beginExchanges_eq]
  simp only [State.sendingEntry, State.readyFirst, State.textOf, ← text] at hs ⊢
  generalize s.callBegun x = u at *
  have busy {t : State} (ht : t.connection x = some c) (hp : c.purposes ≠ []) : t.settleConn x = t :=
    State.settleConn_busy ht hl hp
  have sent (e : OutEntry) : (u.sendingNow e).connection x = some c := (u.sendingNow_connection x e).trans hc
  refine ⟨fun hp => ?call, fun ht hsr => ⟨fun e he => ?first, fun hn => ⟨fun hi => ?held, fun hi => ?leaves⟩⟩,
    fun ht hsr ha => ?storeReady, fun e ht hsr ha he => ?both, fun hp => ?none⟩
  case call =>
    rw [State.afterSending_without hc (by simp [hp]), State.offerStoreReady_without hc (by simp [hp]), busy hc (by simp [hp])]
  case first =>
    rw [(State.afterSending_eq hc ht hr hl hs).1 e he, State.offerStoreReady_without (sent e) hsr,
      busy (sent e) (List.ne_nil_of_mem ht)]
  case held =>
    rw [((State.afterSending_eq hc ht hr hl hs).2 hn).1 hi, State.offerStoreReady_without hc hsr,
      busy hc (List.ne_nil_of_mem ht)]
  case leaves =>
    rw [((State.afterSending_eq hc ht hr hl hs).2 hn).2 hi, State.offerStoreReady_without (State.leftBy_connection hc .text)
      fun h => hsr (List.mem_filter.1 h).1, State.leftBy_settleConn hc hl]
  case storeReady =>
    rw [State.afterSending_without hc ht, State.offerStoreReady_eq hc hsr hr (lacking ha),
      busy ((u.offer_connection _ _).trans hc) (List.ne_nil_of_mem hsr)]
  case both =>
    have unqueued := State.sendingNow_lacks (lacking ha) e (by simp)
    rw [(State.afterSending_eq hc ht hr hl hs).1 e he, State.offerStoreReady_eq (sent e) hsr hr unqueued,
      busy ((State.offer_connection _ _ _).trans (sent e)) (List.ne_nil_of_mem ht)]
  case none =>
    have stays : u.modPurposes x (without .text) = u := State.modPurposes_self hc (by simp [hp, without])
    have left : u.leftBy c .text = u.settleConn x := by
      rw [← State.leaveConn_eq hc hl, State.leaveConn, stays]
    rw [State.afterSending_without hc (by simp [hp]), State.offerStoreReady_without hc (by simp [hp]), left]

/-- Settles O40: a failed registration by `State.regRefused_without_text` and `State.regRefused_with_text`, one that succeeds by
`State.registered_eq`, and what begins then by `State.beginExchanges_cases`. -/
theorem aRegistrationEndsByItsAnswerOrByNone : Obligations.ARegistrationEndsByItsAnswerOrByNone := by
  refine ⟨fun x c s hc hreg => ⟨fun hcall => ?refused, fun frame key => ?registered⟩,
    fun x c frame s hc hreg => ⟨fun key => ?ok, fun why => ?no, fun hl hs called hcalled => ?exchanges⟩⟩
  case refused =>
    refine ⟨fun u hawake hq hu hexp => ⟨_, ?_, State.regRefused_without_text hc hcall .noReply,
        State.regRefused_with_text hc hcall .noReply⟩, fun frame => ⟨?_, ?_⟩⟩
    · exact (exec_registrationGuardExpiry hc hreg hawake hu hexp).trans
        (settle_quiet ((State.regRefused_reports hc hcall _).trans hq))
    · rw [State.received_enrolNo hc, if_pos hreg]
      exact ⟨State.regRefused_without_text hc hcall .rejected, State.regRefused_with_text hc hcall .rejected⟩
    · rw [State.received_enrolNo hc, if_pos hreg]
      exact ⟨State.regRefused_without_text hc hcall .notAllowed, State.regRefused_with_text hc hcall .notAllowed⟩
  case registered => rw [State.received_enrolOk hc, if_pos hreg, State.registered_eq hc]
  case ok => rw [State.received_enrolOk hc, if_neg hreg]
  case no => rw [State.received_enrolNo hc, if_neg hreg]
  case exchanges =>
    rw [State.callBegun_eq hcalled]
    exact State.beginExchanges_cases hc hreg hl hs

end Sys2Proof.Machine
end

section
/-! SUPPORT. What a subscription leaves of the blocks that another action of it no longer needs: its calls when none is in use, its
windows, its measurements, its texts (R40, R55, R64, R66, R142). -/

namespace Sys2Proof.Machine

open Sys2Proof

/-! ### Calls when none is in use -/

/-- No call record of a subscription is in use. -/
def State.uncalled (s : State) (x : Sub) : Prop := ∀ i, (s.call i).sub = some x → (s.call i).state = .free

theorem State.freeCalls_none {s : State} {x : Sub} (h : s.uncalled x) (p : CallRec → Bool) (why : CallCause) :
    s.freeCalls x p why = s := by
  have stays (i : CallId) : ¬((s.call i).sub = some x ∧ (s.call i).state ≠ .free ∧ p (s.call i) = true) :=
    fun ⟨hx, hf, _⟩ => hf (h i hx)
  simp only [State.freeCalls, callIds, List.foldl_cons, List.foldl_nil, if_neg (stays _)]

theorem State.clearAll_none {s : State} {x : Sub} (h : s.uncalled x) (why : CallCause) : s.clearAll x why = s := by
  have stays (i : CallId) : (if (s.call i).sub = some x then s.localClear i why else s) = s := by
    split
    next hx =>
      unfold State.localClear
      simp only [h i hx]
    next => rfl
  simp only [State.clearAll, callIds, List.foldl_cons, List.foldl_nil, stays]

theorem State.inUse_none {s : State} {x : Sub} (h : s.uncalled x) : s.inUse x = false := by
  have free (i : CallId) : ¬((s.call i).sub = some x ∧ (s.call i).state ≠ .free) := fun ⟨hx, hf⟩ => hf (h i hx)
  simp only [State.inUse, free, decide_false, Bool.or_self]

/-! ### Withdrawals (R55) -/

/-- What the withdrawal of the windows of a kind leaves of some. -/
def withdrawnBy (p : Window → Bool) (ws : List Window) : List Window :=
  (ws.filter fun w => !(p w && w.isPlanned)).map fun w => if p w then { w with withdrawn := true } else w

theorem State.withdrawAll_eq (s : State) (p : Window → Bool) :
    s.withdrawAll p = { s with cal := { s.cal with windows := withdrawnBy p s.cal.windows } } := rfl

theorem withdrawnBy_congr {p q : Window → Bool} {ws : List Window} (h : ∀ w ∈ ws, p w = q w) :
    withdrawnBy p ws = withdrawnBy q ws := by
  unfold withdrawnBy
  rw [List.filter_congr fun w hw => by rw [h w hw]]
  exact List.map_congr_left fun w hw => by rw [h w (List.mem_filter.1 hw).1]

theorem withdrawnBy_cons (p : Window → Bool) (w : Window) (ws : List Window) : withdrawnBy p (w :: ws) =
    if p w = true then
      if w.isPlanned = true then withdrawnBy p ws else { w with withdrawn := true } :: withdrawnBy p ws
    else w :: withdrawnBy p ws := by
  unfold withdrawnBy
  split
  next hp => split <;> simp [*]
  next hp => simp [*]

/-- A withdrawal of more windows makes up for one before. -/
theorem withdrawnBy_withdrawnBy {p q : Window → Bool} (hpq : ∀ w, p w = true → q w = true)
    (hq : ∀ w : Window, q { w with withdrawn := true } = q w) (ws : List Window) :
    withdrawnBy q (withdrawnBy p ws) = withdrawnBy q ws := by
  induction ws with
  | nil => rfl
  | cons w ws ih =>
    have planned : ({ w with withdrawn := true } : Window).isPlanned = w.isPlanned := rfl
    rw [withdrawnBy_cons p, withdrawnBy_cons q]
    by_cases hp : p w = true
    · by_cases hs : w.isPlanned = true
      · rw [if_pos hp, if_pos hs, if_pos (hpq w hp), if_pos hs, ih]
      · rw [if_pos hp, if_neg hs, if_pos (hpq w hp), if_neg hs, withdrawnBy_cons, hq, if_pos (hpq w hp), planned, if_neg hs, ih]
    · rw [if_neg hp, withdrawnBy_cons, ih]

/-- Of windows that are all PLANNED and of the kind none is left. -/
theorem withdrawnBy_all {p : Window → Bool} {ws : List Window} (h : ∀ w ∈ ws, p w = true ∧ w.isPlanned = true) :
    withdrawnBy p ws = [] := by
  have gone : (ws.filter fun w => !(p w && w.isPlanned)) = [] :=
    List.filter_eq_nil_iff.2 fun w hw => by simp [h w hw]
  rw [withdrawnBy, gone]
  rfl

/-! ### The measurement unit (R64, R66, R76) -/

theorem State.modMeas_self {s : State} {x : Sub} {f : MeasSub → MeasSub} (h : f (s.measOf x) = s.measOf x) :
    s.modMeas x f = s := by
  unfold State.modMeas
  rw [show f (s.meas.subs.get x) = s.meas.subs.get x from h, Two.set_get]

/-- R76: without a reselection read the target is absent, and nothing else changes. -/
theorem State.endResel_none {s : State} {x : Sub} (h : (s.measOf x).resel = .none) :
    s.endResel x = s.modSub x fun r => { r with target := none } := by
  have stands : (s.modMeas x fun m => { m with resel := .none }) = s := State.modMeas_self (by rw [← h])
  unfold State.endResel
  simp only [h, stands]

/-- R66: the mode NONE of a subscription that has no connection, no MEAS window and no round. -/
theorem State.setMode_unconnected {s : State} {x : Sub} (hc : s.connection x = none)
    (hw : ∀ w ∈ s.cal.windows, w.owner = .sub x → w.purpose ≠ .meas) (hr : (s.measOf x).rounds = []) :
    s.setMode x .none = { s with meas := s.unmeasured x } := by
  have hm : s.measWindows x = [] := by simpa [State.measWindows, MeasSub.openWindows, hr] using hw
  have hu : (s.modMeas x fun m =>
      { m with mode := .none, rounds := [], sinceReport := none, evaluations := 0, dedWindows := [] }) =
      { s with meas := s.unmeasured x } := by
    unfold State.modMeas State.unmeasured
    rw [← hr]
    rfl
  unfold State.setMode
  simp only [hm, List.filter_nil, List.foldl_nil, hu]
  exact if_neg (by rw [show ({ s with meas := s.unmeasured x } : State).connection x = none from hc]; simp)

/-- Nothing in the measurement unit hangs on an entry: no window, no round, no reselection target. -/
def State.entriesFree (s : State) : Prop :=
  (∀ e ∈ s.meas.entries, e.bound = none) ∧ (∀ y, (s.measOf y).rounds = []) ∧ ∀ y, (s.sub y).target = none

/-- The state with the entries of the neighbour table replaced. -/
def State.withEntries (s : State) (es : List Entry) : State := { s with meas := { s.meas with entries := es } }

/-- What holds of the new value and of the other subscription's holds of both. -/
theorem Two.get_set_cases {α : Type} {P : α → Prop} {t : Two α} {x : Sub} {v : α} (hv : P v) (ho : P (t.get x.other))
    (y : Sub) : P ((t.set x v).get y) := by
  cases x <;> cases y
  · exact hv
  · exact ho
  · exact ho
  · exact hv

/-- R64: an entry on which nothing hangs is deleted. -/
theorem State.deleteEntry_free {s : State} (h : s.entriesFree) {e : Entry} (he : e.bound = none) :
    s.deleteEntry e = s.withEntries (s.meas.entries.filter fun f => decide (f.index ≠ e.index)) := by
  obtain ⟨-, hr, ht⟩ := h
  let t := s.withEntries (s.meas.entries.filter fun f => decide (f.index ≠ e.index))
  have tries (y : Sub) : t.dropTries y e.index = t :=
    if_neg (by rw [show (t.measOf y).rounds = [] from hr y]; simp)
  have resels (y : Sub) : t.endReselAt y e.index = t :=
    if_neg (by rw [show (t.sub y).target = none from ht y]; simp)
  have deleted : s.deleteEntry e = (((t.dropTries .A e.index).dropTries .B e.index).endReselAt .A e.index).endReselAt .B
      e.index := by
    unfold State.deleteEntry
    simp only [he, State.withdrawOpt, ite_self]
    rfl
  rw [deleted, tries, tries, resels, resels]

/-- R64: entries on which nothing hangs are deleted one after another. -/
theorem State.deleteEntries_free (es : List Entry) {s : State} (h : s.entriesFree) (he : ∀ e ∈ es, e.bound = none) :
    es.foldl State.deleteEntry s = s.withEntries (s.meas.entries.filter fun f => es.all fun e => decide (f.index ≠ e.index)) := by
  induction es generalizing s with
  | nil => simp [State.withEntries]
  | cons e es ih =>
    obtain ⟨hb, hr, ht⟩ := h
    rw [List.foldl_cons, State.deleteEntry_free ⟨hb, hr, ht⟩ (he e List.mem_cons_self)]
    refine (ih (s := s.withEntries (s.meas.entries.filter fun f => decide (f.index ≠ e.index)))
      ⟨fun f hf => hb f (List.mem_filter.1 hf).1, hr, ht⟩ fun f hf => he f (List.mem_cons_of_mem _ hf)).trans ?_
    simp only [State.withEntries, List.filter_filter, List.all_cons, Bool.and_comm]

/-- Entries of different indexes: those whose index is none of the idle ones' are the others. -/
theorem filter_not_idle {es : List Entry} (h : (es.map Entry.index).Nodup) :
    (es.filter fun f => (es.filter Entry.idle).all fun e => decide (f.index ≠ e.index)) = es.filter fun f => !f.idle := by
  refine List.filter_congr fun f hf => ?_
  rw [Bool.eq_iff_iff, List.all_eq_true, Bool.not_eq_true']
  constructor
  · intro hall
    by_contra hidle
    have := hall f (List.mem_filter.2 ⟨hf, by simpa using hidle⟩)
    simp at this
  · intro hidle e he
    obtain ⟨hmem, he⟩ := List.mem_filter.1 he
    refine decide_eq_true fun heq => ?_
    have := List.inj_on_of_nodup_map h hf hmem heq
    rw [this, he] at hidle
    cases hidle

/-- R64: every entry whose interest set is empty is deleted. -/
theorem State.deleteIdle_free {s : State} (h : s.entriesFree) (hi : (s.meas.entries.map Entry.index).Nodup) :
    s.deleteIdle none = s.withEntries (s.meas.entries.filter fun e => !e.idle) := by
  have idle : (s.meas.entries.filter fun e => e.idle && decide (some e.cell ≠ (none : Option CellId))) =
      s.meas.entries.filter Entry.idle := List.filter_congr fun e _ => by simp
  unfold State.deleteIdle
  rw [idle, State.deleteEntries_free _ h fun e he => h.1 e (List.mem_filter.1 he).1, filter_not_idle hi]

/-- R64: an entry that a subscription no longer owns and that no longer serves it. -/
def Entry.leftBy (e : Entry) (x : Sub) : Entry :=
  { e with
    owner := e.owner.set x false, serving := e.serving.set x false, offset := e.offset.set x 0, trigger := e.trigger.set x 0 }

theorem Entry.leftBy_idle (e : Entry) (x : Sub) :
    (e.leftBy x).idle = !(e.owner.get x.other || e.serving.get x.other) := by
  cases x <;> simp [Entry.idle, Entry.interests, Entry.leftBy, Two.get, Two.set, Sub.other]

/-- R64: what the entries of the table become when a subscription camps no longer. -/
def keptEntries (x : Sub) (es : List Entry) : List Entry :=
  (es.map fun e => e.leftBy x).filter fun e => !e.idle

theorem keptEntries_levels (x : Sub) (es : List Entry) : ((keptEntries x es).map fun e => (e.cell, e.level)) =
    (es.filter fun e => e.owner.get x.other || e.serving.get x.other).map fun e => (e.cell, e.level) := by
  unfold keptEntries
  rw [List.filter_map, List.map_map]
  refine congrArg₂ List.map rfl (List.filter_congr fun e _ => ?_)
  simp [Entry.leftBy_idle]

theorem keptEntries_left {x : Sub} {es : List Entry} {e : Entry} (he : e ∈ keptEntries x es) :
    e.owner.get x = false ∧ e.serving.get x = false := by
  obtain ⟨e, -, rfl⟩ := List.mem_map.1 (List.mem_filter.1 he).1
  exact ⟨Two.get_set_same .., Two.get_set_same ..⟩

/-- A subscription on whose entries nothing hangs, without a connection, a MEAS window, a round or a reselection read. -/
structure State.unmeasuring (s : State) (x : Sub) : Prop where
  unconnected : s.connection x = none
  windows : ∀ w ∈ s.cal.windows, w.owner = .sub x → w.purpose ≠ .meas
  rounds : ∀ y, (s.measOf y).rounds = []
  resel : (s.measOf x).resel = .none
  unbound : ∀ e ∈ s.meas.entries, e.bound = none
  indices : (s.meas.entries.map Entry.index).Nodup
  untargeted : (s.sub x.other).target = none

/-- R64: such a subscription camps no longer: its target is absent, its mode NONE, and of the entries those of the other
subscription are left, their depths computed anew. -/
theorem State.unmeasuring.campsNoMore {s : State} {x : Sub} (h : s.unmeasuring x) : ∃ es : List Entry,
    s.campsNoMore x = { s with
      subs := s.subs.set x { s.sub x with target := none }, meas := { s.unmeasured x with entries := es } } ∧
    (es.map fun e => (e.cell, e.level)) =
      ((s.meas.entries.filter fun e => e.owner.get x.other || e.serving.get x.other).map fun e => (e.cell, e.level)) ∧
    ∀ e ∈ es, e.owner.get x = false ∧ e.serving.get x = false := by
  let left : State := { s with
    subs := s.subs.set x { s.sub x with target := none }
    meas := { s.unmeasured x with entries := s.meas.entries.map fun e => e.leftBy x } }
  have free : left.entriesFree := by
    refine ⟨fun e he => ?_, Two.get_set_cases (P := fun m : MeasSub => m.rounds = []) (h.rounds x) (h.rounds x.other),
      Two.get_set_cases (P := fun r : SubRec => r.target = none) rfl h.untargeted⟩
    obtain ⟨f, hf, rfl⟩ := List.mem_map.1 he
    exact h.unbound f hf
  have indices : (left.meas.entries.map Entry.index).Nodup := by
    rw [show left.meas.entries.map Entry.index = s.meas.entries.map Entry.index from List.map_map ..]
    exact h.indices
  have steps : s.campsNoMore x = (left.deleteIdle none).recompute := by
    have mode : (s.endResel x).setMode x .none = { s.modSub x fun r => { r with target := none } with
        meas := s.unmeasured x } := by
      rw [State.endResel_none h.resel]
      exact State.setMode_unconnected h.unconnected h.windows (h.rounds x)
    unfold State.campsNoMore
    dsimp only
    rw [mode]
    rfl
  rw [steps, State.deleteIdle_free free indices]
  refine ⟨(keptEntries x s.meas.entries).map fun e => { e with depth := (left.withEntries (keptEntries x s.meas.entries)).depthFor e },
    rfl, ?_, fun e he => ?_⟩
  · rw [List.map_map]
    exact keptEntries_levels x s.meas.entries
  · obtain ⟨f, hf, rfl⟩ := List.mem_map.1 he
    exact keptEntries_left (e := f) hf

end Sys2Proof.Machine
end

section
/-! SUPPORT. SUB_DETACH of a subscription that is detached at once (R40). -/

namespace Sys2Proof.Machine

open Sys2Proof

/-! ### Texts when there are none (R142) -/

/-- The text transfer unit holds nothing of a subscription. -/
structure State.textless (s : State) (x : Sub) : Prop where
  outbox : ∀ e ∈ s.text.outbox, e.sub ≠ x
  table : ∀ e ∈ s.text.table, e.sub ≠ x
  recent : ∀ r ∈ s.text.recent, r.sub ≠ x

theorem State.textDetached_none {s : State} {x : Sub} (h : s.textless x) (hc : s.connection x = none) :
    s.textDetached x = s := by
  have outbox : (s.text.outbox.filter fun e => decide (e.sub = x) && !e.isEnded) = [] :=
    List.filter_eq_nil_iff.2 fun e he => by simp [h.outbox e he]
  have table : (s.text.table.filter fun e => decide (e.sub = x) && e.opened) = [] :=
    List.filter_eq_nil_iff.2 fun e he => by simp [h.table e he]
  have recent : (s.text.recent.filter fun r => decide (r.sub ≠ x)) = s.text.recent :=
    List.filter_eq_self.2 fun r hr => by simp [h.recent r hr]
  unfold State.textDetached
  simp only [outbox, List.filter_nil, List.append_nil, sortBy, List.foldl_nil, hc, table, recent]

/-! ### DETACHED (R40) -/

/-- R40: the record of a subscription that has become DETACHED. -/
def SubRec.detached (r : SubRec) : SubRec :=
  { r with
    state := .detached, camped := none, target := none, search := .none, page := none, refresh := none, retry := none,
    regGuard := none, textWaiting := false, areaChanged := false, reason := none, detaching := none }

/-- A window of a subscription, of any block. -/
def Window.isOwn (w : Window) (x : Sub) : Bool := decide (w.owner = .sub x)

theorem mem_withdrawnBy {p : Window → Bool} {ws : List Window} {w : Window} (h : w ∈ withdrawnBy p ws) :
    ∃ v ∈ ws, w.owner = v.owner ∧ w.purpose = v.purpose := by
  obtain ⟨v, hv, rfl⟩ := List.mem_map.1 h
  refine ⟨v, (List.mem_filter.1 hv).1, ?_⟩
  split <;> exact ⟨rfl, rfl⟩

theorem State.unmeasuring.withdrawAll {s : State} {x : Sub} (h : s.unmeasuring x) (p : Window → Bool) :
    (s.withdrawAll p).unmeasuring x :=
  { h with
    windows := fun w hw howner => by
      obtain ⟨v, hv, hvo, hvp⟩ := mem_withdrawnBy hw
      rw [hvp]
      exact h.windows v hv (hvo ▸ howner) }

/-- R40: a subscription that measures nothing and has no text becomes DETACHED, and the SUB_DETACH is answered. -/
theorem State.becomeDetached_eq {s : State} {x : Sub} {ticket : Nat} (h : s.unmeasuring x) (ht : s.textless x)
    (hd : (s.sub x).detaching = some ticket) : ∃ es : List Entry,
    s.becomeDetached x = (({ s with
      subs := s.subs.set x (s.sub x).detached
      engQueue := s.engQueue.filter fun q => decide (q.sub ≠ x)
      cal := { s.cal with windows := withdrawnBy (fun w => w.isOwn x) s.cal.windows }
      meas := { s.unmeasured x with entries := es } } : State).refuse ticket .done).postSub x
        (if (s.sub x).textWaiting then 19 else 3) ∧
    (es.map fun e => (e.cell, e.level)) =
      ((s.meas.entries.filter fun e => e.owner.get x.other || e.serving.get x.other).map fun e => (e.cell, e.level)) ∧
    ∀ e ∈ es, e.owner.get x = false ∧ e.serving.get x = false := by
  have gone : s.withdrawAll (fun w => decide (w.owner = .sub x ∧ w.purpose ≠ .meas)) = s.withdrawAll fun w => w.isOwn x := by
    have same : withdrawnBy (fun w => decide (w.owner = .sub x ∧ w.purpose ≠ .meas)) s.cal.windows =
        withdrawnBy (fun w => w.isOwn x) s.cal.windows :=
      withdrawnBy_congr fun w hw => decide_eq_decide.2 ⟨And.left, fun ho => ⟨ho, h.windows w hw ho⟩⟩
    rw [State.withdrawAll_eq, State.withdrawAll_eq, same]
  obtain ⟨es, hes, levels, left⟩ := (h.withdrawAll fun w => w.isOwn x).campsNoMore
  refine ⟨es, ?_, levels, left⟩
  let u : State := { s with
    subs := s.subs.set x (s.sub x).detached
    engQueue := s.engQueue.filter fun q => decide (q.sub ≠ x)
    cal := { s.cal with windows := withdrawnBy (fun w => w.isOwn x) s.cal.windows }
    meas := { s.unmeasured x with entries := es } }
  let v : State := { u with subs := s.subs.set x { s.sub x with target := none } }
  have camps : ((s.withdrawAll fun w => decide (w.owner = .sub x ∧ w.purpose ≠ .meas)).campsNoMore x).dropRequest x = v := by
    rw [gone, hes]
    rfl
  have record : v.sub x = { s.sub x with target := none } := Two.get_set_same _ _ _
  have detached : v.modSub x SubRec.detached = u := by
    unfold State.modSub
    rw [show v.subs.get x = { s.sub x with target := none } from record, Two.set_set]
    rfl
  have texts : u.textDetached x = u := State.textDetached_none ⟨ht.outbox, ht.table, ht.recent⟩ h.unconnected
  have answer : s.becomeDetached x = ((match (v.sub x).detaching with
      | some t => ((v.modSub x SubRec.detached).textDetached x).refuse t .done
      | none => (v.modSub x SubRec.detached).textDetached x)).postSub x
        (SubFlag.state ||| SubFlag.cell ||| if (v.sub x).textWaiting then SubFlag.textWaiting else 0) := by
    rw [← camps]
    rfl
  rw [answer, detached, texts, record]
  simp only [hd]
  cases (s.sub x).textWaiting <;> rfl

end Sys2Proof.Machine
end

section
/-! SUPPORT. The access attempt for LEAVE that a SUB_DETACH opens (R9, R35, R40, R41): its burst's slot, and the grant of the radio to a
camped subscription. -/

namespace Sys2Proof.Machine

open Sys2Proof

/-! ### The first burst's slot (R9) -/

/-- The frames from an anchor in the past to the first whose slot 8 lies at least 3 slots ahead. -/
def framesToBurst (a : Anchor) (now : Slot) : Nat := ((now + 3 - (a.s0 + 8)).toNat + 9) / 10

theorem nextFrame_burst {a : Anchor} {now : Slot} (h : (now + 3 - (a.s0 + 8)).toNat < 2 ^ 31) :
    nextFrame a now 3 8 1 0 =
      (a.f0 + BitVec.ofNat 16 (framesToBurst a now), slotAdd a.s0 (10 * framesToBurst a now + 8)) := by
  have behind : slotsTo (slotAdd a.s0 8) (slotAdd now 3) = (now + 3 - (a.s0 + 8)).toNat := by simp [slotsTo, slotAdd]
  simp only [nextFrame, framesToBurst, behind, if_pos h, Nat.mod_one, Nat.add_zero]

/-- R9: an attempt's first burst is placed in slot 8 of the first frame of which that slot lies at least 3 slots ahead. -/
theorem burstSlot_nextFrame {a : Anchor} {now : Slot} (h : (now + 3 - (a.s0 + 8)).toNat < 2 ^ 31) :
    burstSlot a now (nextFrame a now 3 8 1 0).2 (nextFrame a now 3 8 1 0).1 := by
  have bounds : (now + 3 - (a.s0 + 8)).toNat ≤ 10 * framesToBurst a now ∧
      10 * framesToBurst a now ≤ (now + 3 - (a.s0 + 8)).toNat + 9 := by
    unfold framesToBurst
    omega
  rw [nextFrame_burst h]
  have fromAnchor : (slotAdd a.s0 (10 * framesToBurst a now + 8) - a.s0).toNat = 10 * framesToBurst a now + 8 := by
    unfold slotAdd; bv_omega
  have ahead : (slotAdd a.s0 (10 * framesToBurst a now + 8) - now).toNat =
      10 * framesToBurst a now - (now + 3 - (a.s0 + 8)).toNat + 3 := by
    unfold slotAdd; bv_omega
  refine ⟨?_, ?_, ?_, ?_⟩
  · rw [ahead]; omega
  · rw [ahead]; omega
  · rw [fromAnchor]; omega
  · rw [fromAnchor, show (10 * framesToBurst a now + 8) / 10 = framesToBurst a now by omega]

/-! ### The grant of the radio for LEAVE (R35) -/

/-- A camped subscription that does not search, whose cell's anchor lies in the past, without a connection, its paging windows all the
calendar holds, and a measurement unit at rest. -/
structure State.standsBy (s : State) (x : Sub) (k : CampedCell) : Prop where
  state : (s.sub x).state = .camped
  camped : (s.sub x).camped = some k
  search : (s.sub x).search = .none
  silenceOver : s.cal.quiet = false
  past : (s.now + 3 - (k.anchor.s0 + 8)).toNat < 2 ^ 31
  unconnected : s.connection x = none
  rounds : (s.measOf x).rounds = []
  resel : (s.measOf x).resel = .none
  windows : s.holdsOnly x [.pageRx, .beaconRx]

/-- Windows of a subscription controller that are all PLANNED go when they are withdrawn. -/
theorem State.withdrawAll_holdsOnly {s : State} {x : Sub} {ps : List WinPurpose} (h : s.holdsOnly x ps) :
    (s.withdrawAll fun w => w.isOf x ps) = { s with cal := { s.cal with windows := [] } } := by
  rw [State.withdrawAll_eq, withdrawnBy_all fun w hw => ?_]
  obtain ⟨owner, reporter, planned, purpose⟩ := h w hw
  simp [Window.isOf, Window.isPlanned, owner, reporter, planned, purpose]

theorem State.adoptCandidate_none {s : State} {x : Sub} (h : (s.sub x).search = .none) : s.adoptCandidate x = s := by
  unfold State.adoptCandidate
  rw [h]

/-- R29, R32, R35: a subscription that stands by gives up its paging windows and its measurements. -/
theorem State.standsBy.unpaged {s : State} {x : Sub} {k : CampedCell} (h : s.standsBy x k) :
    (((s.adoptCandidate x).dropPaging x).endResel x).setMode x .none = { s with
      subs := s.subs.set x { s.sub x with page := none, refresh := none, target := none }
      cal := { s.cal with windows := [] }
      meas := s.unmeasured x } := by
  have paging : (s.adoptCandidate x).dropPaging x = { s with
      subs := s.subs.set x { s.sub x with page := none, refresh := none }
      cal := { s.cal with windows := [] } } := by
    rw [State.adoptCandidate_none h.search, State.dropPaging, State.withdrawAll_holdsOnly h.windows]
    rfl
  let v : State := { s with
    subs := s.subs.set x { s.sub x with page := none, refresh := none }
    cal := { s.cal with windows := [] } }
  have record : v.sub x = { s.sub x with page := none, refresh := none } := Two.get_set_same _ _ _
  have target : (v.modSub x fun r => { r with target := none }) = { v with
      subs := s.subs.set x { s.sub x with page := none, refresh := none, target := none } } := by
    unfold State.modSub
    rw [show v.subs.get x = { s.sub x with page := none, refresh := none } from record, Two.set_set]
  rw [paging, State.endResel_none (s := v) h.resel, target]
  exact State.setMode_unconnected h.unconnected (fun w hw => absurd hw List.not_mem_nil) h.rounds

/-- The state with a link, in whose notice outbox a SUB notice of a subscription with STATE is posted. -/
def State.posting (s : State) (x : Sub) (l : Link) : State :=
  { s with link := { l with outbox := postIn (s.subSnapshot x) 1 l.outbox } }

/-- R9: a burst of an attempt in an empty calendar. -/
theorem State.insertBurst_empty {s : State} {x : Sub} {k : CampedCell} {st : Stage} (hk : (s.sub x).camped = some k)
    (he : s.engaged = some { sub := x, stage := st }) (hw : s.cal.windows = []) (hq : s.cal.quiet = false) (a : Attempt)
    (f : FrameNo) {start : Slot} (hnear : 3 ≤ (start - s.now).toNat) (hfar : (start - s.now).toNat ≤ 12) :
    s.insertBurst x a f start = { s with
      engaged := some { sub := x, stage := .attempt { a with placed := a.placed + 1, tx := some (s.cal.counter, f) } }
      cal := { s.cal with
        counter := s.cal.counter + 1
        windows := [{
          id := s.cal.counter, owner := .sub x, reporter := .subscription, purpose := .accessTx, cls := .access
          channel := k.cell.channel, start := start, len := 1, requested := start, slack := none
          block := some (.burst a.burst a.reference), state := .planned, withdrawn := false }] } } := by
  unfold State.insertBurst
  simp only [hk]
  rw [State.insert_empty hw hq hnear (lt_of_le_of_lt hfar (by decide))]
  simp only [State.setStage, he, Option.map_some, if_true]
  rfl

/-- The attempt for LEAVE before its first burst is placed (R35). -/
def leaveAttempt (draws : Nat) : Attempt :=
  { purposes := [.leave], pageReply := false, burst := .leave, reference := Config.reference draws, placed := 0, tx := none
    watches := [] }

/-- R35: the state in which a subscription has become ENGAGED in an attempt for LEAVE, with its SUB notice, and no burst placed. -/
def State.engagedForLeave (s : State) (x : Sub) (flags : BitVec 16) : State :=
  { (s.modSub x fun r => { r with state := .engaged }).postSub x flags with
    draws := s.draws + 1, engaged := some { sub := x, stage := .attempt (leaveAttempt s.draws) } }

/-- R35: the steps of a grant for LEAVE alone. -/
theorem State.grant_leave_steps {s v : State} {x : Sub} {k : CampedCell} {flags : BitVec 16} (n : Nat)
    (hflags : (SubFlag.state ||| if (s.sub x).state = .searching then SubFlag.cell else 0) = flags)
    (hv : (((s.adoptCandidate x).dropPaging x).endResel x).setMode x .none = v)
    (hk : ((v.engagedForLeave x flags).sub x).camped = some k) :
    s.grant { sub := x, purposes := [.leave], pageReply := false, moment := n } =
      (v.engagedForLeave x flags).insertBurst x (leaveAttempt v.draws) (nextFrame k.anchor v.now 3 8 1 0).1
        (nextFrame k.anchor v.now 3 8 1 0).2 := by
  subst hflags
  unfold State.grant
  dsimp only
  rw [hv]
  change (match ((v.engagedForLeave x _).sub x).camped with
    | some c => (v.engagedForLeave x _).insertBurst x (leaveAttempt v.draws) (nextFrame c.anchor v.now 3 8 1 0).1
        (nextFrame c.anchor v.now 3 8 1 0).2
    | none => v.engagedForLeave x _) = _
  rw [hk]

/-- R9, R35: the radio granted for LEAVE to a subscription that stands by. -/
theorem State.standsBy.grant_leave {s : State} {x : Sub} {k : CampedCell} (h : s.standsBy x k) (n : Nat) {f : FrameNo}
    {start : Slot} (hf : nextFrame k.anchor s.now 3 8 1 0 = (f, start)) :
    s.grant { sub := x, purposes := [.leave], pageReply := false, moment := n } =
      ({ s.attempting x k .leave .leave start f with engQueue := s.engQueue, moments := s.moments } : State).posting x s.link := by
  obtain ⟨near, far, -, -⟩ : burstSlot k.anchor s.now start f := by simpa only [hf] using burstSlot_nextFrame h.past
  let v : State := { s with
    subs := s.subs.set x { s.sub x with page := none, refresh := none, target := none }
    cal := { s.cal with windows := [] }
    meas := s.unmeasured x }
  let w : State := ({ v with
    subs := s.subs.set x { s.sub x with state := .engaged, page := none, refresh := none, target := none }, draws := s.draws + 1
    engaged := some { sub := x, stage := .attempt (leaveAttempt s.draws) } } : State).posting x s.link
  have record : v.subs.get x = { s.sub x with page := none, refresh := none, target := none } := Two.get_set_same _ _ _
  have engaged : v.engagedForLeave x 1 = w := by
    unfold State.engagedForLeave State.modSub
    rw [record, Two.set_set]
    rfl
  have camped : (w.sub x).camped = some k := (congrArg SubRec.camped (Two.get_set_same _ _ _)).trans h.camped
  rw [State.grant_leave_steps n (flags := 1) (by rw [h.state]; rfl) h.unpaged (by rw [← camped, ← engaged]),
    show v.engagedForLeave x 1 = w from engaged, show nextFrame k.anchor v.now 3 8 1 0 = (f, start) from hf]
  exact State.insertBurst_empty camped rfl rfl h.silenceOver _ f near far

/-! ### SUB_DETACH of a subscription that leaves through an attempt (R40, R41) -/

theorem State.grantIfFree_idle {s : State} (hq : s.engQueue = []) : s.grantIfFree = s := by
  unfold State.grantIfFree
  rw [hq]
  cases s.engaged <;> rfl

theorem State.grantIfFree_only {s : State} {q : EngRequest} (he : s.engaged = none) (hq : s.engQueue = [q]) :
    s.grantIfFree = ({ s with engQueue := [] } : State).grant q := by
  unfold State.grantIfFree
  simp only [he, hq, firstRequest]
  simp

theorem State.dropRequest_all {s : State} {x : Sub} (h : ∀ q ∈ s.engQueue, q.sub = x) :
    s.dropRequest x = { s with engQueue := [] } := by
  have gone : (s.engQueue.filter fun q => decide (q.sub ≠ x)) = [] :=
    List.filter_eq_nil_iff.2 fun q hq => by simp [h q hq]
  rw [State.dropRequest, gone]

/-- R40: a subscription that stands by while the radio is free is granted it for LEAVE. -/
theorem State.standsBy.detachCamped {s : State} {x : Sub} {k : CampedCell} (h : s.standsBy x k) (hc : s.uncalled x)
    (he : s.engaged = none) (hq : ∀ q ∈ s.engQueue, q.sub = x) {f : FrameNo} {start : Slot}
    (hf : nextFrame k.anchor s.now 3 8 1 0 = (f, start)) :
    s.detachCamped x = (s.attempting x k .leave .leave start f).posting x s.link := by
  let dropped : State := { s with engQueue := [] }
  have asked : dropped.joinQueue x [.leave] false = dropped.requesting x [.leave] :=
    State.joinQueue_new (fun q hq => absurd hq List.not_mem_nil) .leave
  have first : (dropped.requesting x [.leave]).grantIfFree =
      ({ s with engQueue := [], moments := s.moments + 1 } : State).grant
        { sub := x, purposes := [.leave], pageReply := false, moment := s.moments } :=
    State.grantIfFree_only he rfl
  have stands : ({ s with engQueue := [], moments := s.moments + 1 } : State).standsBy x k := { h with }
  unfold State.detachCamped
  rw [State.dropRequest_all hq]
  dsimp only
  rw [State.freeCalls_none (s := dropped) hc, if_pos (by rw [show dropped.engaged = none from he]; rfl), asked, first,
    stands.grant_leave _ hf]
  rfl

/-- R183: a second notice of a kind and key, with the flags of the first, replaces it. -/
theorem postIn_postIn {a b : Snapshot} (h : a.key = b.key) (flags : BitVec 16) (ns : List Notice) :
    postIn b flags (postIn a flags ns) = postIn b flags ns := by
  induction ns with
  | nil => simp [postIn, h]
  | cons n ns ih =>
    by_cases hn : n.snapshot.key = a.key
    · simp [postIn, h, h ▸ hn, BitVec.or_assoc]
    · simp [postIn, hn, h ▸ hn, ih]

/-- R41: a subscription that holds the radio leaves ENGAGED for CAMPED. -/
theorem State.leaveEngaged_eq {s : State} {x : Sub} {st : Stage} (he : s.engaged = some { sub := x, stage := st })
    (hq : ∀ q ∈ s.engQueue, q.sub = x) : s.leaveEngaged x = ({ s with
      subs := s.subs.set x { s.sub x with state := .camped }, engQueue := [], engaged := none } : State).posting x s.link := by
  have left : s.disengage x = { s with engaged := none } := by simp [State.disengage, he]
  unfold State.leaveEngaged
  rw [left, State.dropRequest_all (s := { s with engaged := none }) hq]
  exact State.grantIfFree_idle rfl

/-- R41: what a subscription that holds the radio, and would stand by without it, does with it when it detaches. -/
theorem State.detachEngaged {s : State} {x : Sub} {k : CampedCell} {st : Stage} (ha : s.grantsAlone x k)
    (hw : s.holdsOnly x [.pageRx, .beaconRx]) (hc : s.uncalled x) (he : s.engaged = some { sub := x, stage := st })
    {f : FrameNo} {start : Slot} (hf : nextFrame k.anchor s.now 3 8 1 0 = (f, start)) :
    (s.leaveEngaged x).detachCamped x = (s.attempting x k .leave .leave start f).posting x s.link := by
  obtain ⟨camped, search, silenceOver, past, own, unconnected, rounds, resel⟩ := ha
  let left : State := ({ s with
    subs := s.subs.set x { s.sub x with state := .camped }, engQueue := [], engaged := none } : State).posting x s.link
  have record : left.sub x = { s.sub x with state := .camped } := Two.get_set_same _ _ _
  have stands : left.standsBy x k :=
    { state := by rw [record], camped := by rw [record]; exact camped, search := by rw [record]; exact search
      silenceOver := silenceOver, past := past, unconnected := unconnected, rounds := rounds x, resel := resel, windows := hw }
  have reposted : (left.attempting x k .leave .leave start f).posting x left.link =
      (s.attempting x k .leave .leave start f).posting x s.link := by
    have same : left.attempting x k .leave .leave start f =
        { s.attempting x k .leave .leave start f with link := left.link } := by
      unfold State.attempting
      rw [record, show left.subs = s.subs.set x { s.sub x with state := .camped } from rfl, Two.set_set]
      rfl
    rw [same]
    unfold State.posting
    exact congrArg (fun out => ({ s.attempting x k .leave .leave start f with link := { s.link with outbox := out } } : State))
      (postIn_postIn (a := left.subSnapshot x) (b := (s.attempting x k .leave .leave start f).subSnapshot x) rfl 1 s.link.outbox)
  rw [State.leaveEngaged_eq he own, stands.detachCamped hc rfl (fun q hq => absurd hq List.not_mem_nil) hf, reposted]

end Sys2Proof.Machine
end

section
/-! SUPPORT. SUB_DETACH (R40, R41): what its dispatch makes of each state of the subscription. -/

namespace Sys2Proof.Machine

open Sys2Proof

/-! ### The dispatch -/

/-- R40: the dispatch of a SUB_DETACH that names a subscription. -/
theorem exec_subDetach {s : State} {tag sub : Byte} {x : Sub} (ha : s.accepts tag (.subDetach sub)) (hx : subOf sub = some x) :
    exec (.subDetach tag sub) s = settle ((s.reserveHead tag 0x12).detach x s.link.ticket) := by
  unfold exec execSubDetach
  refine (dispatched_accepts ha _).trans ?_
  simp only [hx]
  rfl

/-- R180: a SUB_DETACH that is answered at once and changes nothing. -/
theorem exec_subDetach_replied {s : State} {tag sub : Byte} {x : Sub} (ha : s.accepts tag (.subDetach sub)) (hq : s.quiet)
    (hx : subOf sub = some x) {st : Status}
    (h : (s.reserveHead tag 0x12).detach x s.link.ticket = (s.reserveHead tag 0x12).refuse s.link.ticket st) :
    exec (.subDetach tag sub) s = .next (s.replied tag 0x12 st .none) := by
  rw [exec_subDetach ha hx, h]
  exact (congrArg settle (State.reserveHead_answer s tag 0x12 st .none)).trans (settle_quiet hq)

/-! ### The checks -/

theorem State.detach_busy {s : State} {x : Sub} (h : (s.sub x).detaching ≠ none) (t : Nat) :
    s.detach x t = s.refuse t .busy :=
  if_pos (by rw [State.leaving, Option.isSome_iff_ne_none]; exact h)

/-- The state in which a SUB_DETACH has been taken and is not answered (R40). -/
def State.holding (s : State) (x : Sub) (t : Nat) : State :=
  { s with subs := s.subs.set x { s.sub x with detaching := some t } }

@[simp] theorem State.holding_sub (s : State) (x : Sub) (t : Nat) :
    (s.holding x t).sub x = { s.sub x with detaching := some t } := Two.get_set_same _ _ _

theorem State.leaving_false {s : State} {x : Sub} (h : (s.sub x).detaching = none) : ¬s.leaving x = true := by
  simp [State.leaving, h]

theorem State.detach_empty {s : State} {x : Sub} (h : (s.sub x).detaching = none) (hs : (s.sub x).state = .empty) (t : Nat) :
    s.detach x t = s.refuse t .wrongState := by
  rw [State.detach, if_neg (State.leaving_false h), hs]

theorem State.detach_detached {s : State} {x : Sub} (h : (s.sub x).detaching = none) (hs : (s.sub x).state = .detached)
    (t : Nat) : s.detach x t = s.refuse t .done := by
  rw [State.detach, if_neg (State.leaving_false h), hs]

/-! ### The states in which the subscription is detached at once or leaves (R40, R41) -/

section
variable {s : State} {x : Sub} (h : (s.sub x).detaching = none) (hc : s.uncalled x) (t : Nat)
include h

theorem State.detach_connected (hs : (s.sub x).state = .engaged) {y : Sub}
    (he : s.engaged = some { sub := y, stage := .connected }) : s.detach x t = (s.holding x t).detachConnected x := by
  rw [State.detach, if_neg (State.leaving_false h), hs, he]
  rfl

theorem State.detach_camped (hs : (s.sub x).state = .camped) : s.detach x t = (s.holding x t).detachCamped x := by
  rw [State.detach, if_neg (State.leaving_false h), hs]
  rfl

include hc

theorem State.detach_searching (hs : (s.sub x).state = .searching) :
    s.detach x t = ((s.holding x t).stopSearch x).becomeDetached x := by
  rw [State.detach, if_neg (State.leaving_false h), hs]
  exact congrArg (fun u : State => (u.stopSearch x).becomeDetached x) (State.freeCalls_none (s := s.holding x t) hc _ _)

theorem State.detach_noService (hs : (s.sub x).state = .noService) : s.detach x t = (s.holding x t).becomeDetached x := by
  rw [State.detach, if_neg (State.leaving_false h), hs]
  exact congrArg (State.becomeDetached · x) (State.freeCalls_none (s := s.holding x t) hc _ _)

theorem State.detach_confirming (hs : (s.sub x).state = .engaged) {y : Sub} {w : WinId} {f : FrameNo}
    (he : s.engaged = some { sub := y, stage := .confirming w f }) :
    s.detach x t = (((s.holding x t).withdraw w).leaveEngaged x).detachCamped x := by
  rw [State.detach, if_neg (State.leaving_false h), hs, he]
  exact congrArg (fun u : State => (u.leaveEngaged x).detachCamped x)
    (State.freeCalls_none (s := (s.holding x t).withdraw w) hc _ _)

/-- R41: an attempt for neither TEXT nor REGISTER is abandoned. -/
theorem State.detach_attempt (hs : (s.sub x).state = .engaged) {y : Sub} {a : Attempt}
    (he : s.engaged = some { sub := y, stage := .attempt a }) (ht : Purpose.text ∉ a.purposes)
    (hr : Purpose.register ∉ a.purposes) :
    s.detach x t = (((s.holding x t).withdrawAttempt x).leaveEngaged x).detachCamped x := by
  rw [State.detach, if_neg (State.leaving_false h), hs, he]
  have abandoned : ((s.holding x t).withdrawAttempt x).freeCalls x (fun _ => true) .byHost = (s.holding x t).withdrawAttempt x :=
    State.freeCalls_none (s := (s.holding x t).withdrawAttempt x) hc _ _
  have text : a.purposes.contains .text = false := by simpa using ht
  have register : a.purposes.contains .register = false := by simpa using hr
  refine Eq.trans (b := (s.holding x t).detachAttempt x a) rfl ?_
  simp only [State.detachAttempt, abandoned, text, register]
  rfl

/-- R40: a CAMPED subscription is detached at once while the radio is not free. -/
theorem State.detach_camped_busy (hs : (s.sub x).state = .camped) (he : s.engaged ≠ none) :
    s.detach x t = ((s.holding x t).dropRequest x).becomeDetached x := by
  have stays : ((s.holding x t).dropRequest x).freeCalls x (fun _ => true) .byHost = (s.holding x t).dropRequest x :=
    State.freeCalls_none (s := (s.holding x t).dropRequest x) hc _ _
  rw [State.detach_camped h t hs, State.detachCamped, stays]
  exact if_neg fun hn => he (Option.isNone_iff_eq_none.1 hn)

end

/-! ### Detached at once (R40) -/

/-- R40: what becoming DETACHED makes of a record, but for the SUB_DETACH that is to be answered. -/
def SubRec.offAir (r : SubRec) : SubRec :=
  { r with
    state := .detached, camped := none, target := none, search := .none, page := none, refresh := none, retry := none
    regGuard := none, textWaiting := false, areaChanged := false, reason := none }

theorem SubRec.detached_eq {r : SubRec} (h : r.detaching = none) : r.detached = r.offAir := by
  rw [SubRec.detached, SubRec.offAir, h]

/-- What a SUB_DETACH that detaches a subscription at once leaves (R40). -/
structure State.detachesTo (s : State) (x : Sub) (tag : Byte) (t : State) : Prop where
  left : t = { s.replied tag 0x12 .done .none with
    subs := s.subs.set x (s.sub x).offAir
    engQueue := s.engQueue.filter fun q => decide (q.sub ≠ x)
    cal := { s.cal with
      windows := (s.cal.windows.filter fun w => decide (¬(w.owner = .sub x ∧ w.state = .planned))).map fun w =>
        if w.owner = .sub x then { w with withdrawn := true } else w }
    meas := { s.unmeasured x with entries := t.meas.entries }
    link := { (s.replied tag 0x12 .done .none).link with outbox := t.link.outbox } }
  levels : (t.meas.entries.map fun e => (e.cell, e.level)) =
    ((s.meas.entries.filter fun e => e.owner.get x.other || e.serving.get x.other).map fun e => (e.cell, e.level))
  unowned : ∀ e ∈ t.meas.entries, e.owner.get x = false ∧ e.serving.get x = false
  noticed : t.link.outbox = postIn (t.subSnapshot x) (if (s.sub x).textWaiting then 19 else 3) s.link.outbox

/-- The state in which a SUB_DETACH has been taken, and a search, some requests and some windows of the subscription may be gone. -/
def State.stripped (s : State) (x : Sub) (tag : Byte) (r : Search) (qs : List EngRequest) (ws : List Window) : State :=
  { s.reserveHead tag 0x12 with
    subs := s.subs.set x { s.sub x with search := r, detaching := some s.link.ticket }
    engQueue := qs, cal := { s.cal with windows := ws } }

/-- R55: the windows that a detached subscription leaves. -/
theorem withdrawnBy_isOwn (x : Sub) (ws : List Window) : withdrawnBy (fun w => w.isOwn x) ws =
    (ws.filter fun w => decide (¬(w.owner = .sub x ∧ w.state = .planned))).map fun w =>
      if w.owner = .sub x then { w with withdrawn := true } else w := by
  simp [withdrawnBy, Window.isOwn, Window.isPlanned]

/-- R40: the subscription becomes DETACHED from any such state. -/
theorem State.stripped_becomeDetached {s : State} {x : Sub} {tag : Byte} {r : Search} {qs : List EngRequest} {ws : List Window}
    (h : s.unmeasuring x) (ht : s.textless x) (hd : (s.sub x).detaching = none)
    (hqs : (qs.filter fun q => decide (q.sub ≠ x)) = s.engQueue.filter fun q => decide (q.sub ≠ x))
    (hws : withdrawnBy (fun w => w.isOwn x) ws = withdrawnBy (fun w => w.isOwn x) s.cal.windows)
    (hm : ∀ w ∈ ws, w.owner = .sub x → w.purpose ≠ .meas) :
    s.detachesTo x tag ((s.stripped x tag r qs ws).becomeDetached x) := by
  let v := s.stripped x tag r qs ws
  have record : v.sub x = { s.sub x with search := r, detaching := some s.link.ticket } := Two.get_set_same _ _ _
  have unmeasuring : v.unmeasuring x :=
    { h with windows := hm, untargeted := (congrArg SubRec.target (Two.get_set_other _ _ _)).trans h.untargeted }
  obtain ⟨es, becomes, levels, unowned⟩ :=
    State.becomeDetached_eq unmeasuring (x := x) { ht with } (show (v.sub x).detaching = some s.link.ticket by rw [record])
  let u : State := { v with
    subs := s.subs.set x (s.sub x).offAir
    engQueue := s.engQueue.filter fun q => decide (q.sub ≠ x)
    cal := { s.cal with
      windows := (s.cal.windows.filter fun w => decide (¬(w.owner = .sub x ∧ w.state = .planned))).map fun w =>
        if w.owner = .sub x then { w with withdrawn := true } else w }
    meas := { s.unmeasured x with entries := es } }
  have detached : (v.sub x).detached = (s.sub x).offAir := by
    rw [record, ← SubRec.detached_eq hd]
    rfl
  have subs : v.subs.set x (v.sub x).detached = u.subs := by
    rw [detached]
    exact Two.set_set _ _ _ _
  have waits : (v.sub x).textWaiting = (s.sub x).textWaiting := by rw [record]
  have windows : withdrawnBy (fun w => w.isOwn x) v.cal.windows = u.cal.windows := hws.trans (withdrawnBy_isOwn x _)
  have answered : u.refuse s.link.ticket .done =
      { u with link := { (s.replied tag 0x12 .done .none).link with outbox := s.link.outbox } } :=
    State.refuse_reserved .done rfl rfl
  have result : v.becomeDetached x = (u.refuse s.link.ticket .done).postSub x (if (s.sub x).textWaiting then 19 else 3) := by
    rw [becomes, subs, windows, waits, show v.engQueue = qs from rfl, hqs]
    rfl
  rw [show s.stripped x tag r qs ws = v from rfl, result, answered]
  exact ⟨rfl, levels, unowned, rfl⟩

end Sys2Proof.Machine
end

section
/-! SUPPORT. SUB_DETACH by the subscription's state (R40, R41), and its settlement. -/

namespace Sys2Proof.Machine

open Sys2Proof

/-! ### At once (R40) -/

/-- R40: without a service, in a search, and camped while the radio is not free, the subscription is detached at once. -/
theorem State.detach_atOnce {s : State} {x : Sub} {tag : Byte} (h : s.unmeasuring x) (ht : s.textless x) (hc : s.uncalled x)
    (hd : (s.sub x).detaching = none)
    (hs : (s.sub x).state = .noService ∨ (s.sub x).state = .searching ∨ ((s.sub x).state = .camped ∧ s.engaged ≠ none)) :
    s.detachesTo x tag ((s.reserveHead tag 0x12).detach x s.link.ticket) := by
  rcases hs with hs | hs | ⟨hs, he⟩
  · rw [State.detach_noService (s := s.reserveHead tag 0x12) hd hc _ hs]
    exact State.stripped_becomeDetached (r := (s.sub x).search) h ht hd rfl rfl h.windows
  · let searchEnds (w : Window) : Bool := w.isOf x [.search, .beaconRx]
    have stopped : ((s.reserveHead tag 0x12).holding x s.link.ticket).stopSearch x =
        s.stripped x tag .none s.engQueue (withdrawnBy searchEnds s.cal.windows) := by
      unfold State.stopSearch State.modSub State.holding
      rw [State.withdrawAll_eq]
      dsimp only
      rw [Two.get_set_same, Two.set_set]
      rfl
    rw [State.detach_searching (s := s.reserveHead tag 0x12) hd hc _ hs, stopped]
    refine State.stripped_becomeDetached h ht hd rfl (withdrawnBy_withdrawnBy (fun w hw => ?_) (fun w => rfl) _)
      (h.withdrawAll searchEnds).windows
    obtain ⟨owner, -⟩ := Bool.and_eq_true_iff.1 hw
    exact decide_eq_true (of_decide_eq_true owner).1
  · rw [State.detach_camped_busy (s := s.reserveHead tag 0x12) hd hc _ hs he]
    exact State.stripped_becomeDetached (r := (s.sub x).search) h ht hd
      (by rw [List.filter_filter]; simp only [Bool.and_self]; rfl) rfl h.windows

/-! ### Through an attempt for LEAVE (R40, R41) -/

theorem State.confirms_iff {s : State} {x : Sub} : s.confirms x = true ↔
    ∃ w f, s.engaged = some { sub := x, stage := .confirming w f } := by
  unfold State.confirms
  split
  next y w f he => simp [he]
  next other =>
    refine ⟨fun h => Bool.noConfusion h, fun ⟨w, f, he⟩ => absurd he (other x w f)⟩

/-- R55: a withdrawal leaves no window of another owner or purpose. -/
theorem State.holdsOnly_withdraw {s : State} {x : Sub} {ps : List WinPurpose} (h : s.holdsOnly x ps) (id : WinId) :
    (s.withdraw id).holdsOnly x ps := by
  intro w hw
  obtain ⟨v, hv, rfl⟩ := List.mem_map.1 hw
  have := h v (List.mem_filter.1 hv).1
  split <;> exact this

/-- R9: an abandoned attempt's PLANNED windows are gone. -/
theorem State.holdsOnly_withdrawAttempt {s : State} {x : Sub} (h : s.holdsOnly x [.accessTx, .grantRx, .pageRx, .beaconRx]) :
    (s.withdrawAttempt x).holdsOnly x [.pageRx, .beaconRx] := by
  intro w hw
  obtain ⟨v, hv, rfl⟩ := List.mem_map.1 hw
  obtain ⟨hmem, hstays⟩ := List.mem_filter.1 hv
  obtain ⟨owner, reporter, planned, purpose⟩ := h v hmem
  have stays : v.purpose ≠ .accessTx ∧ v.purpose ≠ .grantRx := by
    simpa [Window.isOf, Window.isPlanned, owner, reporter, planned] using hstays
  have remains : v.purpose ∈ [WinPurpose.pageRx, .beaconRx] := by simpa [stays] using purpose
  split <;> exact ⟨owner, reporter, planned, remains⟩

/-- R40: the subscription leaves through an attempt. -/
theorem State.detach_leaves {s : State} {x : Sub} {k : CampedCell} {t : Nat} (hd : (s.sub x).detaching = none)
    (hc : s.uncalled x) (ha : s.grantsAlone x k) {f : FrameNo} {start : Slot}
    (hf : nextFrame k.anchor s.now 3 8 1 0 = (f, start))
    (hs : ((s.sub x).state = .camped ∧ s.engaged = none ∧ s.holdsOnly x [.pageRx, .beaconRx]) ∨
      ((s.sub x).state = .engaged ∧
        ((s.confirms x = true ∧ s.holdsOnly x [.pageRx, .beaconRx]) ∨
          ∃ a : Attempt, s.engaged = some { sub := x, stage := .attempt a } ∧ Purpose.text ∉ a.purposes ∧
            Purpose.register ∉ a.purposes ∧ s.holdsOnly x [.accessTx, .grantRx, .pageRx, .beaconRx]))) :
    s.detach x t = ((s.holding x t).attempting x k .leave .leave start f).posting x s.link := by
  obtain ⟨camped, search, silenceOver, past, own, unconnected, rounds, resel⟩ := ha
  have camped : ((s.holding x t).sub x).camped = some k := (congrArg SubRec.camped (s.holding_sub x t)).trans camped
  have search : ((s.holding x t).sub x).search = .none := (congrArg SubRec.search (s.holding_sub x t)).trans search
  have alone (ws : List Window) : ({ s.holding x t with cal := { s.cal with windows := ws } } : State).grantsAlone x k :=
    ⟨camped, search, silenceOver, past, own, unconnected, rounds, resel⟩
  rcases hs with ⟨hs, he, hw⟩ | ⟨hs, ⟨hr, hw⟩ | ⟨a, he, ht, hr, hw⟩⟩
  · have stands : (s.holding x t).standsBy x k :=
      { state := by rw [s.holding_sub]; exact hs, camped := camped, search := search, silenceOver := silenceOver, past := past, unconnected := unconnected, rounds := rounds x, resel := resel, windows := hw }
    rw [State.detach_camped hd t hs, stands.detachCamped hc he own hf]
    rfl
  · obtain ⟨w, frame, he⟩ := State.confirms_iff.1 hr
    rw [State.detach_confirming hd hc t hs he]
    exact State.detachEngaged (alone _) (State.holdsOnly_withdraw (s := s.holding x t) hw w) hc he hf
  · rw [State.detach_attempt hd hc t hs he ht hr]
    exact State.detachEngaged (alone _) (State.holdsOnly_withdrawAttempt (s := s.holding x t) hw) hc he hf

/-! ### On a connection (R41) -/

/-- What a SUB_DETACH takes out of the queue of a connection. -/
def UpMsg.goesWithDetach (m : UpMsg) : Bool := m.isEnrol || m.isStoreReady || m.isDone

/-- R41: on a connection without a call, a registration and a text being sent LEAVE alone remains, and is queued. -/
theorem State.detachConnected_eq {s : State} {x : Sub} {c : Context} (hc : s.uncalled x) (hx : s.connection x = some c)
    (hr : Purpose.register ∉ c.purposes) (hn : s.sendingEntry x = none) (hl : s.lacks .leave) :
    s.detachConnected x = { s with
      subs := s.subs.set x { s.sub x with regGuard := none, areaChanged := false }
      text := { s.text with subs := s.text.subs.set x { s.textOf x with incoming := false, idle := .stopped } }
      ctx := (((s.withActive { c with purposes := c.purposes.filter (fun p => decide (p = .call)) ++ [.leave] }).removeMsgs
        UpMsg.goesWithDetach).offer .leave).ctx } := by
  obtain ⟨-, rfl⟩ := State.connection_eq_some.1 hx
  let left : Context := { c with purposes := c.purposes.filter (fun p => decide (p = .call)) ++ [.leave] }
  let dropped : State := { s with subs := s.subs.set c.sub { s.sub c.sub with regGuard := none, areaChanged := false } }
  let removed := dropped.removeMsgs UpMsg.goesWithDetach
  let quiet := removed.modText c.sub fun t => { t with incoming := false, idle := .stopped }
  have unregistered : (s.clearAll c.sub .byHost).regDropped c.sub = dropped := by
    rw [State.clearAll_none hc, State.regDropped_none (by simp [State.registering_eq hx, hr])]
    rfl
  have connected : quiet.connection c.sub = some c := (State.connection_congr rfl c.sub).trans hx
  have due : (quiet.withActive left).due c.sub left = [.leave] := by
    have unqueued : removed.lacks .leave := (dropped.removeMsgs_lacks rfl).2 hl
    have unused : (quiet.withActive left).inUse c.sub = false := State.inUse_none hc
    rw [State.due, if_pos (by simp [left])]
    exact if_pos ⟨unused, unqueued⟩
  have steps : s.detachConnected c.sub = (quiet.modPurposes c.sub fun ps =>
      ps.filter (fun p => decide (p = .call)) ++ [.leave]).settleConn c.sub := by
    unfold State.detachConnected
    dsimp only
    rw [unregistered, if_neg (by rw [show (dropped.removeMsgs _).sendingEntry c.sub = none from hn]; simp)]
    rfl
  rw [steps, State.modPurposes_eq connected, State.settleConn_eq (State.withActive_connection _ _)]
  refine (congrArg (List.foldl State.offer _) due).trans ?_
  rfl

/-! ### The settlement -/

/-- Settles O39: the checks refuse and change nothing; `State.detach_atOnce`, `State.detach_leaves` and `State.detachConnected_eq` say
what a taken SUB_DETACH makes of each state of the subscription. -/
theorem subDetachByState : Obligations.SubDetachByState := by
  intro tag sub s ha hq
  refine ⟨fun hx => ?_, fun x hx => ⟨fun hd => ?_, fun hd => ⟨fun hs => ?_, fun hs => ?_, fun hc => ⟨?_, ?_, ?_⟩⟩⟩⟩
  · unfold exec execSubDetach
    refine dispatched_replied ha hq _ .badValue _ ?_
    simp only [hx]
    rfl
  · exact exec_subDetach_replied ha hq hx (State.detach_busy (s := s.reserveHead tag 0x12) hd _)
  · exact exec_subDetach_replied ha hq hx (State.detach_empty (s := s.reserveHead tag 0x12) hd hs _)
  · exact exec_subDetach_replied ha hq hx (State.detach_detached (s := s.reserveHead tag 0x12) hd hs _)
  · intro hs ⟨rounds, resel, windows⟩ hconn bound indices other outbox table recent
    obtain ⟨left, levels, unowned, noticed⟩ := State.detach_atOnce (tag := tag)
      ⟨hconn, windows, rounds, resel, bound, indices, other⟩ ⟨outbox, table, recent⟩ hc hd hs
    exact ⟨_, (exec_subDetach ha hx).trans (settle_quiet ((congrArg State.reports left).trans hq)), left, levels, unowned, noticed⟩
  · intro k hk hs
    let u := (s.reserveHead tag 0x12).holding x s.link.ticket
    let burst := nextFrame k.anchor s.now 3 8 1 0
    have leaves : (s.reserveHead tag 0x12).detach x s.link.ticket =
        (u.attempting x k .leave .leave burst.2 burst.1).posting x (s.reserveHead tag 0x12).link :=
      State.detach_leaves (s := s.reserveHead tag 0x12) hd hc hk rfl hs
    have settled : exec (.subDetach tag sub) s =
        .next ((u.attempting x k .leave .leave burst.2 burst.1).posting x (s.reserveHead tag 0x12).link) := by
      rw [exec_subDetach ha hx, leaves]
      exact settle_quiet hq
    obtain ⟨-, -, -, past, -⟩ := hk
    exact ⟨_, burst.2, burst.1, settled, burstSlot_nextFrame past, rfl⟩
  · intro c hs he hconn hr hn hl
    let u := (s.reserveHead tag 0x12).holding x s.link.ticket
    have connected := State.detachConnected_eq (s := u) hc hconn hr hn hl
    have subs : u.subs.set x { u.sub x with regGuard := none, areaChanged := false } =
        s.subs.set x { s.sub x with regGuard := none, areaChanged := false, detaching := some s.link.ticket } := by
      rw [State.holding_sub]
      exact Two.set_set _ _ _ _
    rw [exec_subDetach ha hx, State.detach_connected (s := s.reserveHead tag 0x12) hd _ hs he, connected, subs]
    exact settle_quiet hq

end Sys2Proof.Machine
end

section
/-! SUPPORT. Conflict (R46): which slots two windows share, and when one begins right after the other. -/

namespace Sys2Proof.Machine

open Sys2Proof

theorem add_slotsTo (s t : Slot) : s + BitVec.ofNat 32 (slotsTo s t) = t := by
  rw [slotsTo, BitVec.ofNat_toNat, BitVec.setWidth_eq]
  bv_omega

/-- A slot that lies i slots after s and j slots after t, j at most i, puts t i - j slots after s. -/
theorem slotsTo_of_common_slot {s t : Slot} {i j : Nat} (h : s + BitVec.ofNat 32 i = t + BitVec.ofNat 32 j) (hji : j ≤ i)
    (hi : i < 2 ^ 32) : slotsTo s t = i - j := by
  have distance : t - s = BitVec.ofNat 32 (i - j) := by bv_omega
  rw [slotsTo, distance, BitVec.toNat_ofNat, Nat.mod_eq_of_lt (by omega)]

theorem slotsTo_eq_iff {s t : Slot} {n : Nat} (hn : n < 2 ^ 32) : slotsTo s t = n ↔ t = s + BitVec.ofNat 32 n := by
  constructor
  · rintro rfl
    exact (add_slotsTo s t).symm
  · rintro rfl
    exact slotsTo_of_common_slot (j := 0) (by simp) n.zero_le hn

/-- Two windows share a slot exactly when a slot of one is a slot of the other: when they do, the later start is one. -/
theorem shareSlot_iff {a b : Window} (ha : 1 ≤ a.len) (ha' : a.len ≤ 2 ^ 31) (hb : 1 ≤ b.len) (hb' : b.len ≤ 2 ^ 31) :
    shareSlot a b = true ↔
      ∃ i < a.len, ∃ j < b.len, a.start + BitVec.ofNat 32 i = b.start + BitVec.ofNat 32 j := by
  rw [shareSlot, decide_eq_true_eq]
  constructor
  · rintro (h | h)
    · exact ⟨_, h, 0, hb, by simp [add_slotsTo]⟩
    · exact ⟨0, ha, _, h, by simp [add_slotsTo]⟩
  · rintro ⟨i, hi, j, hj, common⟩
    rcases le_total j i with hji | hij
    · have := slotsTo_of_common_slot common hji (by omega)
      omega
    · have := slotsTo_of_common_slot common.symm hij (by omega)
      omega

/-- One window begins n slots after another's start exactly when it begins right after that one's last slot, the n-th. -/
theorem slotsTo_eq_len_iff {s t : Slot} {n : Nat} (hn : 1 ≤ n) (hn' : n ≤ 2 ^ 31) :
    slotsTo s t = n ↔ t = s + BitVec.ofNat 32 (n - 1) + 1 := by
  have last : s + BitVec.ofNat 32 (n - 1) + 1 = s + BitVec.ofNat 32 n := by bv_omega
  rw [slotsTo_eq_iff (by omega), last]

/-- Settles O58: the shared slots by `shareSlot_iff`, the neighbouring ones by `slotsTo_eq_len_iff`. -/
theorem twoWindowsConflictExactlyWhen : Obligations.TwoWindowsConflictExactlyWhen := by
  intro a b ha ha' hb hb'
  rw [conflict, Bool.or_eq_true, Bool.and_eq_true, shareSlot_iff ha ha' hb hb', backToBack, decide_eq_true_eq, decide_eq_true_eq,
    slotsTo_eq_len_iff ha ha', slotsTo_eq_len_iff hb hb']

end Sys2Proof.Machine
end

section
/-! SUPPORT. The settlement of an insertion (R44, R47 to R51): the order of classes, the moves within a slack, the windows that a
newcomer displaces, and the place it takes in a calendar with and without room. -/

namespace Sys2Proof.Machine

open Sys2Proof

/-! ### Classes (R44) -/

theorem Class.idxOf_classOrder (c : Class) : classOrder.idxOf c = c.rank := by cases c <;> rfl

theorem Class.higher_iff {c d : Class} : c.higher d = true ↔ c.above d := by
  rw [higher, decide_eq_true_eq, above, idxOf_classOrder, idxOf_classOrder]

theorem Class.above_iff {c d : Class} : c.above d ↔ c.rank < d.rank := by
  rw [above, idxOf_classOrder, idxOf_classOrder]

/-- Some window is of the highest class. -/
theorem highestClass_spec {ws : List Window} (h : ws ≠ []) :
    ∃ v ∈ ws, highestClass ws = some v.cls ∧ ∀ u ∈ ws, ¬u.cls.above v.cls := by
  induction ws with
  | nil => exact absurd rfl h
  | cons w rest ih =>
    by_cases hr : rest = []
    · subst hr
      exact ⟨w, List.mem_cons_self, rfl, fun u hu => by rw [List.mem_singleton.1 hu, Class.above_iff]; omega⟩
    · obtain ⟨v, hv, hc, top⟩ := ih hr
      simp only [Class.above_iff] at top ⊢
      by_cases hw : w.cls.higher v.cls = true
      · have above := Class.above_iff.1 (Class.higher_iff.1 hw)
        refine ⟨w, List.mem_cons_self, by simp [highestClass, hc, hw], fun u hu => ?_⟩
        rcases List.mem_cons.1 hu with rfl | hu
        · omega
        · have := top u hu; omega
      · have below := mt (Class.higher_iff.2 ∘ Class.above_iff.2) hw
        refine ⟨v, List.mem_cons_of_mem _ hv, by simp [highestClass, hc, hw], fun u hu => ?_⟩
        rcases List.mem_cons.1 hu with rfl | hu
        · exact below
        · exact top u hu

/-! ### A move within the slack (R48) -/

/-- The moves within the slack, as the search for another start runs through them. -/
theorem mayMoveTo_iff {w : Window} {k m : Nat} (hk : w.slack = some k) :
    w.mayMoveTo m ↔ m < 10 * k + 1 ∧ slotsTo w.requested w.start < m := by
  simp [Window.mayMoveTo, hk, slotsTo]

theorem not_mayMoveTo {w : Window} (h : w.slack = none) (m : Nat) : ¬w.mayMoveTo m := by
  rintro ⟨k, hk, -⟩
  rw [h] at hk
  cases hk

/-- The search for another start of a movable window, among the moves its slack allows. -/
theorem replaceIn_movable {w : Window} {k : Nat} (hk : w.slack = some k) (ws : List Window) :
    replaceIn ws w = ((List.range (10 * k + 1)).find? fun m =>
      decide (slotsTo w.requested w.start < m) && ws.all fun u => !conflict (w.movedTo m) u).map w.movedTo := by
  unfold replaceIn
  split
  next h => rw [hk] at h; cases h
  next l h => cases hk.symm.trans h; rfl

theorem replaceIn_unmovable {w : Window} (h : w.slack = none) (ws : List Window) : replaceIn ws w = none := by
  simp only [replaceIn, h]

/-- A re-placement answers the earliest of the moves that conflict with none. -/
theorem replaceIn_eq_some_iff {ws : List Window} {w v : Window} : replaceIn ws w = some v ↔ w.movesTo ws v := by
  cases hk : w.slack with
  | none =>
    rw [replaceIn_unmovable hk]
    exact ⟨fun h => (by cases h), fun ⟨m, hm, _⟩ => absurd hm (not_mayMoveTo hk m)⟩
  | some k =>
    simp only [replaceIn_movable hk, Window.movesTo, Option.map_eq_some_iff, List.find?_range_eq_some, mayMoveTo_iff hk,
      List.mem_range, Bool.and_eq_true, decide_eq_true_eq, List.all_eq_true, Bool.not_eq_true', Bool.and_eq_false_imp,
      List.all_eq_false, Bool.not_eq_false]
    constructor
    · rintro ⟨m, ⟨⟨later, free⟩, within, first⟩, rfl⟩
      exact ⟨m, ⟨within, later⟩, rfl, free, fun n hn hmay => first n hn hmay.2⟩
    · rintro ⟨m, ⟨within, later⟩, rfl, free, first⟩
      exact ⟨m, ⟨⟨later, free⟩, within, fun n hn h => first n hn ⟨hn.trans within, h⟩⟩, rfl⟩

theorem replaceIn_eq_none_iff {ws : List Window} {w : Window} : replaceIn ws w = none ↔ w.noPlace ws := by
  cases hk : w.slack with
  | none => exact iff_of_true (replaceIn_unmovable hk ws) fun m hm => absurd hm (not_mayMoveTo hk m)
  | some k =>
    simp only [replaceIn_movable hk, Window.noPlace, Option.map_eq_none_iff, List.find?_range_eq_none, mayMoveTo_iff hk,
      Bool.not_eq_true', Bool.and_eq_false_imp, decide_eq_true_eq, List.all_eq_false, Bool.not_eq_false, and_imp]

/-- The cause the model gives a window without another start. -/
theorem Window.lostBy_eq (w : Window) (c : SkipCause) : (if w.slack.isSome then .noPlace else c) = w.lostBy c := by
  cases h : w.slack <;> simp [Window.lostBy, h]

/-- R44, R48: window u is window v, in its place or at another start within its slack. -/
def Window.stemsFrom (u v : Window) : Prop :=
  u = v ∨ ∃ k m, v.slack = some k ∧ m ≤ 10 * k ∧ u = { v with start := v.requested + BitVec.ofNat 32 m }

theorem Window.movesTo.stemsFrom {w v : Window} {ws : List Window} (h : w.movesTo ws v) : v.stemsFrom w := by
  obtain ⟨m, ⟨k, slack, within, -⟩, rfl, -⟩ := h
  exact .inr ⟨k, m, slack, within, rfl⟩

theorem Window.movesTo.id_eq {w v : Window} {ws : List Window} (h : w.movesTo ws v) : v.id = w.id := by
  obtain ⟨m, -, rfl, -⟩ := h
  rfl

theorem Window.movesTo.free {w v : Window} {ws : List Window} (h : w.movesTo ws v) : ∀ u ∈ ws, conflict v u = false := by
  obtain ⟨-, -, -, free, -⟩ := h
  exact free

/-! ### Displaced windows (R48) -/

theorem place_perm (w : Window) (ws : List Window) : (place w ws).Perm (w :: ws) := by
  induction ws with
  | nil => exact .refl _
  | cons a l ih =>
    unfold place
    split
    · exact .refl _
    · exact (ih.cons a).trans (.swap w a l)

theorem movesTo_perm {w v : Window} {ws ws' : List Window} (h : ws.Perm ws') (hv : w.movesTo ws v) : w.movesTo ws' v := by
  simpa only [Window.movesTo, h.mem_iff] using hv

theorem noPlace_perm {w : Window} {ws ws' : List Window} (h : ws.Perm ws') (hw : w.noPlace ws) : w.noPlace ws' := by
  simpa only [Window.noPlace, h.mem_iff] using hw

/-- What becomes of displaced windows does not depend on the order of the others. -/
theorem displaced_perm {w : Window} {rs ws ws' out : List Window} {skips : List Skip} (h : ws.Perm ws')
    (hd : displaced w rs ws out skips) : displaced w rs ws' out skips := by
  induction rs generalizing ws ws' skips with
  | nil =>
    obtain ⟨same, length, none⟩ := hd
    exact ⟨fun u => (same u).trans h.mem_iff, length.trans h.length_eq, none⟩
  | cons r rest ih =>
    rcases hd with ⟨v, moves, rests⟩ | ⟨stuck, more, rests, eq⟩
    · exact .inl ⟨v, movesTo_perm (h.cons w) moves, ih (h.cons v) rests⟩
    · exact .inr ⟨noPlace_perm (h.cons w) stuck, more, ih h rests, eq⟩

/-- The first displaced window moves, or is skipped. -/
theorem replaceEach_cons (w r : Window) (rest ws : List Window) :
    (∃ v, r.movesTo (w :: ws) v ∧ replaceEach w (r :: rest) ws = replaceEach w rest (place v ws)) ∨
      (r.noPlace (w :: ws) ∧ replaceEach w (r :: rest) ws = ((replaceEach w rest ws).1,
        { window := r, cause := r.lostBy .displaced, winner := some w.cls } :: (replaceEach w rest ws).2)) := by
  cases hr : replaceIn (w :: ws) r with
  | some v => exact .inl ⟨v, replaceIn_eq_some_iff.1 hr, by simp only [replaceEach, hr]⟩
  | none => exact .inr ⟨replaceIn_eq_none_iff.1 hr, by simp only [replaceEach, hr, Window.lostBy_eq]⟩

theorem displaced_replaceEach (w : Window) (rs ws : List Window) :
    displaced w rs ws (replaceEach w rs ws).1 (replaceEach w rs ws).2 := by
  induction rs generalizing ws with
  | nil => exact ⟨fun _ => .rfl, rfl, rfl⟩
  | cons r rest ih =>
    rcases replaceEach_cons w r rest ws with ⟨v, moves, eq⟩ | ⟨stuck, eq⟩
    · rw [eq]
      exact .inl ⟨v, moves, displaced_perm (place_perm v ws) (ih _)⟩
    · rw [eq]
      exact .inr ⟨stuck, _, ih ws, rfl⟩

/-- Every identity is kept: each displaced window is in the calendar or skipped. -/
theorem replaceEach_ids (w : Window) (rs ws : List Window) :
    ((replaceEach w rs ws).1.map Window.id ++ (replaceEach w rs ws).2.map fun k => k.window.id).Perm
      ((rs ++ ws).map Window.id) := by
  induction rs generalizing ws with
  | nil => simp [replaceEach]
  | cons r rest ih =>
    rcases replaceEach_cons w r rest ws with ⟨v, moves, eq⟩ | ⟨-, eq⟩
    · have placed : ((rest ++ place v ws).map Window.id).Perm ((v :: (rest ++ ws)).map Window.id) :=
        (((place_perm v ws).append_left rest).trans List.perm_middle).map _
      rw [List.map_cons, moves.id_eq] at placed
      rw [eq]
      exact (ih _).trans placed
    · rw [eq]
      exact List.perm_middle.trans ((ih ws).cons r.id)

/-- The windows that were not displaced stay. -/
theorem mem_replaceEach {w u : Window} (rs : List Window) {ws : List Window} (h : u ∈ ws) : u ∈ (replaceEach w rs ws).1 := by
  induction rs generalizing ws with
  | nil => exact h
  | cons r rest ih =>
    rcases replaceEach_cons w r rest ws with ⟨v, -, eq⟩ | ⟨-, eq⟩
    · rw [eq]
      exact ih ((mem_place v u ws).2 (.inr h))
    · rw [eq]
      exact ih h

/-- Each window was there already or is a displaced one. -/
theorem replaceEach_stemsFrom {w u : Window} {rs ws : List Window} (h : u ∈ (replaceEach w rs ws).1) :
    u ∈ ws ∨ ∃ v ∈ rs, u.stemsFrom v := by
  induction rs generalizing ws with
  | nil => exact .inl h
  | cons r rest ih =>
    rcases replaceEach_cons w r rest ws with ⟨v, moves, eq⟩ | ⟨-, eq⟩
    · rw [eq] at h
      rcases ih h with h | ⟨t, ht, stems⟩
      · rcases (mem_place v u ws).1 h with rfl | h
        · exact .inr ⟨r, List.mem_cons_self, moves.stemsFrom⟩
        · exact .inl h
      · exact .inr ⟨t, List.mem_cons_of_mem _ ht, stems⟩
    · rw [eq] at h
      exact (ih h).imp_right fun ⟨t, ht, stems⟩ => ⟨t, List.mem_cons_of_mem _ ht, stems⟩

/-- No conflict arises between windows that stay, and none of these with the newcomer. -/
theorem replaceEach_conflictFree {w : Window} (rs : List Window) {ws : List Window} (hf : conflictFree ws)
    (hw : ∀ v ∈ ws, conflict w v = false) :
    conflictFree (replaceEach w rs ws).1 ∧ ∀ v ∈ (replaceEach w rs ws).1, conflict w v = false := by
  induction rs generalizing ws with
  | nil => exact ⟨hf, hw⟩
  | cons r rest ih =>
    rcases replaceEach_cons w r rest ws with ⟨v, moves, eq⟩ | ⟨-, eq⟩
    · obtain ⟨newcomer, others⟩ := List.forall_mem_cons.1 moves.free
      rw [eq]
      refine ih (conflictFree_place v ws hf others) fun u hu => ?_
      rcases (mem_place v u ws).1 hu with rfl | hu
      · rwa [conflict_comm]
      · exact hw u hu
    · rw [eq]
      exact ih hf hw

/-! ### A full calendar (R49) -/

theorem isLater_iff {s t : Slot} : isLater s t = true ↔ (s - (t + 1)).toNat < 2 ^ 31 - 1 := by
  rw [isLater, decide_eq_true_eq, slotsTo]
  constructor <;> intro h <;> bv_omega

theorem isLater_asymm {s t : Slot} (h : isLater s t = true) : ¬isLater t s = true := by
  rw [isLater_iff] at *
  bv_omega

theorem betterVictim_iff {v w : Window} : betterVictim v w = true ↔ v.goesBefore w := by
  simp only [betterVictim, Window.goesBefore, Bool.or_eq_true, Bool.and_eq_true, decide_eq_true_eq, Class.higher_iff, isLater_iff]

theorem Window.goesBefore_asymm {v w : Window} (h : v.goesBefore w) : ¬w.goesBefore v := by
  simp only [goesBefore, Class.above_iff, ← isLater_iff] at *
  rcases h with h | ⟨cls, h | ⟨start, h⟩⟩
  · rintro (g | ⟨cls', -⟩)
    · omega
    · rw [cls'] at h; omega
  · rintro (g | ⟨-, g | ⟨start', -⟩⟩)
    · rw [cls] at g; omega
    · exact isLater_asymm h g
    · rw [start'] at h; exact isLater_asymm h h
  · rintro (g | ⟨-, g | ⟨-, g⟩⟩)
    · rw [cls] at g; omega
    · rw [start] at g; exact isLater_asymm g g
    · exact isLater_asymm h g

theorem Window.isPlanned_iff {w : Window} : w.isPlanned = true ↔ w.state = .planned := decide_eq_true_iff

theorem victimOf_cons_better {w : Window} {rest : List Window} (planned : w.state = .planned)
    (better : ∀ v, victimOf rest = some v → w.goesBefore v) : victimOf (w :: rest) = some w := by
  cases hr : victimOf rest with
  | none => simp [victimOf, hr, Window.isPlanned_iff.2 planned]
  | some v => simp [victimOf, hr, Window.isPlanned_iff.2 planned, betterVictim_iff.2 (better v hr)]

theorem victimOf_cons_no_better {w : Window} {rest : List Window}
    (h : w.state = .planned → ∃ v, victimOf rest = some v ∧ ¬w.goesBefore v) : victimOf (w :: rest) = victimOf rest := by
  by_cases planned : w.state = .planned
  · obtain ⟨v, hr, worse⟩ := h planned
    simp [victimOf, hr, mt betterVictim_iff.1 worse]
  · cases hr : victimOf rest <;> simp [victimOf, hr, mt Window.isPlanned_iff.1 planned]

theorem victimOf_mem {ws : List Window} {v : Window} (h : victimOf ws = some v) : v ∈ ws ∧ v.state = .planned := by
  induction ws with
  | nil => cases h
  | cons w rest ih =>
    by_cases hw : w.state = .planned ∧ ∀ u, victimOf rest = some u → w.goesBefore u
    · obtain ⟨planned, better⟩ := hw
      rw [victimOf_cons_better planned better] at h
      cases h
      exact ⟨List.mem_cons_self, planned⟩
    · push Not at hw
      rw [victimOf_cons_no_better hw] at h
      exact (ih h).imp_left (List.mem_cons_of_mem w)

/-- The victim is the PLANNED window that goes before every other one. -/
theorem victimOf_eq_some {ws : List Window} {v : Window} (hv : v ∈ ws) (planned : v.state = .planned)
    (best : ∀ u ∈ ws, u.state = .planned → u ≠ v → v.goesBefore u) : victimOf ws = some v := by
  induction ws with
  | nil => cases hv
  | cons w rest ih =>
    obtain ⟨bestW, bestRest⟩ := List.forall_mem_cons.1 best
    by_cases hw : w = v
    · subst hw
      by_cases better : ∀ u, victimOf rest = some u → w.goesBefore u
      · exact victimOf_cons_better planned better
      · push Not at better
        obtain ⟨u, hu, worse⟩ := better
        obtain ⟨mem, uPlanned⟩ := victimOf_mem hu
        have same : u = w := by_contra fun ne => worse (bestRest u mem uPlanned ne)
        rw [victimOf_cons_no_better fun _ => ⟨u, hu, worse⟩, hu, same]
    · have found := ih ((List.mem_cons.1 hv).resolve_left (Ne.symm hw)) bestRest
      rw [victimOf_cons_no_better fun wPlanned => ⟨v, found, Window.goesBefore_asymm (bestW wPlanned hw)⟩, found]

theorem victimOf_eq_none {ws : List Window} (h : ∀ v ∈ ws, v.state ≠ .planned) : victimOf ws = none := by
  cases hv : victimOf ws with
  | none => rfl
  | some v => exact absurd (victimOf_mem hv).2 (h v (victimOf_mem hv).1)

/-! ### The place of a window in the calendar (R49, R51) -/

/-- What the settlement leaves when a window is to be placed beside others after some skips. -/
def placing (w : Window) (ws : List Window) (skips : List Skip) : List Window × List Skip :=
  ((enter w ws).1, (enter w ws).2.1.foldl (fun acc k => placeSkip k acc) skips ++
    if (enter w ws).2.2 then [] else [{ window := w, cause := .full, winner := none }])

theorem placing_of_room {w : Window} {ws : List Window} (room : ws.length < 32) (skips : List Skip) :
    placing w ws skips = (place w ws, skips) := by
  simp [placing, enter, calendarRoom, room]

theorem placing_of_victim {w v : Window} {ws : List Window} (full : 32 ≤ ws.length) (hv : victimOf ws = some v)
    (above : w.cls.above v.cls) (skips : List Skip) :
    placing w ws skips = (place w (ws.filter fun u => decide (u.id ≠ v.id)),
      placeSkip { window := v, cause := .evicted, winner := none } skips) := by
  simp [placing, enter, calendarRoom, Nat.not_lt.2 full, hv, Class.higher_iff.2 above]

theorem placing_of_full {w : Window} {ws : List Window} (full : 32 ≤ ws.length)
    (hv : ∀ v, victimOf ws = some v → ¬w.cls.above v.cls) (skips : List Skip) :
    placing w ws skips = (ws, skips ++ [{ window := w, cause := .full, winner := none }]) := by
  cases hr : victimOf ws with
  | none => simp [placing, enter, calendarRoom, Nat.not_lt.2 full, hr]
  | some v => simp [placing, enter, calendarRoom, Nat.not_lt.2 full, hr, mt Class.higher_iff.1 (hv v hr)]

/-- At most one window is evicted, so its skip alone is in order. -/
theorem enter_alone (w : Window) (ws : List Window) :
    (enter w ws).2.1.foldl (fun acc k => placeSkip k acc) [] = (enter w ws).2.1 := by
  unfold enter
  split
  · rfl
  · split
    · split <;> rfl
    · rfl

/-- There is room for the window, or a victim of a lower class, or neither. -/
theorem placing_cases (w : Window) (ws : List Window) (skips : List Skip) :
    (ws.length < 32 ∧ placing w ws skips = (place w ws, skips)) ∨
      (∃ v ∈ ws, v.state = .planned ∧ placing w ws skips = (place w (ws.filter fun u => decide (u.id ≠ v.id)),
        placeSkip { window := v, cause := .evicted, winner := none } skips)) ∨
      placing w ws skips = (ws, skips ++ [{ window := w, cause := .full, winner := none }]) := by
  rcases Nat.lt_or_ge ws.length 32 with room | full
  · exact .inl ⟨room, placing_of_room room skips⟩
  · by_cases hv : ∃ v, victimOf ws = some v ∧ w.cls.above v.cls
    · obtain ⟨v, hv, above⟩ := hv
      obtain ⟨mem, planned⟩ := victimOf_mem hv
      exact .inr (.inl ⟨v, mem, planned, placing_of_victim full hv above skips⟩)
    · exact .inr (.inr (placing_of_full full (fun v h above => hv ⟨v, h, above⟩) skips))

theorem placing_conflictFree {w : Window} {ws : List Window} (hf : conflictFree ws) (hw : ∀ v ∈ ws, conflict w v = false)
    (skips : List Skip) : conflictFree (placing w ws skips).1 := by
  rcases placing_cases w ws skips with ⟨-, eq⟩ | ⟨v, -, -, eq⟩ | eq
  · rw [eq]
    exact conflictFree_place w ws hf hw
  · rw [eq]
    exact conflictFree_place w _ (List.Pairwise.filter _ hf) fun u hu => hw u (List.mem_filter.1 hu).1
  · rw [eq]
    exact hf

theorem placing_length {w : Window} {ws : List Window} (hl : ws.length ≤ 32) (skips : List Skip) :
    (placing w ws skips).1.length ≤ 32 := by
  rcases placing_cases w ws skips with ⟨room, eq⟩ | ⟨v, hv, -, eq⟩ | eq
  · rw [eq, length_place]
    exact room
  · have fewer : (ws.filter fun u => decide (u.id ≠ v.id)).length < ws.length :=
      List.length_filter_lt_length_iff_exists.2 ⟨v, hv, by simp⟩
    rw [eq, length_place]
    omega
  · rw [eq]
    exact hl

theorem mem_placing {w u : Window} {ws : List Window} {skips : List Skip} (h : u ∈ (placing w ws skips).1) : u = w ∨ u ∈ ws := by
  rcases placing_cases w ws skips with ⟨-, eq⟩ | ⟨v, -, -, eq⟩ | eq
  · rw [eq] at h
    exact (mem_place w u ws).1 h
  · rw [eq] at h
    exact ((mem_place w u _).1 h).imp_right fun h => (List.mem_filter.1 h).1
  · rw [eq] at h
    exact .inr h

/-- Only a PLANNED window gives way. -/
theorem placing_keeps_ordered {w v : Window} {ws : List Window} (hn : (ws.map Window.id).Nodup) (hv : v ∈ ws)
    (ordered : v.state = .ordered) (skips : List Skip) : v ∈ (placing w ws skips).1 := by
  rcases placing_cases w ws skips with ⟨-, eq⟩ | ⟨u, hu, planned, eq⟩ | eq
  · rw [eq]
    exact (mem_place w v ws).2 (.inr hv)
  · have other : v.id ≠ u.id := fun same => by
      rw [List.inj_on_of_nodup_map hn hv hu same, planned] at ordered
      cases ordered
    rw [eq]
    exact (mem_place w v _).2 (.inr (List.mem_filter.2 ⟨hv, decide_eq_true other⟩))
  · rw [eq]
    exact hv

/-- The skip of an evicted window stands before the first one that is later in calendar order. -/
theorem placeSkip_split (k : Skip) (skips : List Skip) :
    ∃ pre post, skips = pre ++ post ∧ placeSkip k skips = pre ++ k :: post ∧ (∀ j ∈ pre, before k.window j.window = false) ∧
      ∀ j, post.head? = some j → before k.window j.window = true := by
  induction skips with
  | nil => exact ⟨[], [], rfl, rfl, by simp, by simp⟩
  | cons j rest ih =>
    by_cases hj : before k.window j.window = true
    · exact ⟨[], j :: rest, rfl, by simp [placeSkip, hj], by simp, by simpa using hj⟩
    · obtain ⟨pre, post, split, put, earlier, later⟩ := ih
      refine ⟨j :: pre, post, by rw [split]; rfl, by simp [placeSkip, hj, put], ?_, later⟩
      exact List.forall_mem_cons.2 ⟨Bool.eq_false_iff.2 hj, earlier⟩

theorem mem_placeSkip {j k : Skip} {skips : List Skip} : j ∈ placeSkip k skips ↔ j = k ∨ j ∈ skips := by
  obtain ⟨pre, post, split, put, -⟩ := placeSkip_split k skips
  rw [put, split]
  simp only [List.mem_append, List.mem_cons]
  tauto

/-- R48, R49: a window is in the calendar, by its identity, or among the skips. -/
def accountedFor (v : Window) (res : List Window × List Skip) : Prop :=
  (∃ u ∈ res.1, u.id = v.id) ∨ ∃ k ∈ res.2, k.window.id = v.id

/-- The window that is placed, the others and the windows skipped before are all accounted for. -/
theorem accountedFor_placing {w v : Window} {ws : List Window} {skips : List Skip} (h : accountedFor v (w :: ws, skips)) :
    accountedFor v (placing w ws skips) := by
  rcases placing_cases w ws skips with ⟨-, eq⟩ | ⟨t, -, -, eq⟩ | eq <;> rw [eq]
  · exact h.imp_left fun ⟨u, hu, same⟩ => ⟨u, (mem_place w u ws).2 (List.mem_cons.1 hu), same⟩
  · rcases h with ⟨u, hu, same⟩ | ⟨k, hk, same⟩
    · rcases List.mem_cons.1 hu with rfl | hu
      · exact .inl ⟨u, (mem_place u u _).2 (.inl rfl), same⟩
      · by_cases evicted : u.id = t.id
        · exact .inr ⟨_, mem_placeSkip.2 (.inl rfl), evicted.symm.trans same⟩
        · exact .inl ⟨u, (mem_place w u _).2 (.inr (List.mem_filter.2 ⟨hu, decide_eq_true evicted⟩)), same⟩
    · exact .inr ⟨k, mem_placeSkip.2 (.inr hk), same⟩
  · rcases h with ⟨u, hu, same⟩ | ⟨k, hk, same⟩
    · rcases List.mem_cons.1 hu with rfl | hu
      · exact .inr ⟨_, List.mem_append_right _ (List.mem_singleton.2 rfl), same⟩
      · exact .inl ⟨u, hu, same⟩
    · exact .inr ⟨k, List.mem_append_left _ hk, same⟩

/-- R49, R51: what the statement asks of a window's place. -/
theorem placedIn_placing {w : Window} {ws : List Window} (hn : (ws.map Window.id).Nodup) (skips : List Skip) :
    placedIn w ws skips (placing w ws skips) := by
  refine ⟨fun room => ?_, fun full none => ?_, fun v hv full planned best => ?_⟩
  · rw [placing_of_room room]
    exact ⟨fun u => mem_place w u ws, rfl⟩
  · rw [placing_of_full full fun v h => absurd h (by simp [victimOf_eq_none none])]
    exact ⟨rfl, rfl⟩
  · have victim := victimOf_eq_some hv planned best
    refine ⟨fun low => ?_, fun above => ?_⟩
    · rw [placing_of_full full fun u h => by cases victim.symm.trans h; exact low]
      exact ⟨rfl, rfl⟩
    · have others (u : Window) : u ∈ (ws.filter fun u => decide (u.id ≠ v.id)) ↔ u ∈ ws ∧ u ≠ v := by
        rw [List.mem_filter, decide_eq_true_eq]
        exact and_congr_right fun hu => not_congr ⟨List.inj_on_of_nodup_map hn hu hv, congrArg Window.id⟩
      rw [placing_of_victim full victim above]
      exact ⟨fun u => by rw [mem_place, others], placeSkip_split _ skips⟩

/-! ### The settlement (R47 to R49) -/

/-- R47: a newcomer wins when each of its rivals is PLANNED and of a lower class. -/
def Window.beats (w : Window) (ws : List Window) : Prop :=
  ∀ v ∈ ws.filter (fun v => conflict w v), v.state = .planned ∧ w.cls.above v.cls

theorem Window.beats_iff {w : Window} {ws : List Window} :
    ((ws.filter fun v => conflict w v).all fun v => v.isPlanned && w.cls.higher v.cls) = true ↔ w.beats ws := by
  simp only [List.all_eq_true, Bool.and_eq_true, isPlanned_iff, Class.higher_iff, beats]

theorem settleIn_of_beats {w : Window} {ws : List Window} (h : w.beats ws) :
    let moved := replaceEach w (ws.filter fun v => conflict w v) (ws.filter fun v => !conflict w v)
    settleIn w ws = placing w moved.1 moved.2 := by
  unfold settleIn
  simp only [Window.beats_iff.2 h, if_true]
  rfl

theorem settleIn_of_movesTo {w v : Window} {ws : List Window} (h : ¬w.beats ws) (hv : w.movesTo ws v) :
    settleIn w ws = placing v ws [] := by
  unfold settleIn
  simp only [mt Window.beats_iff.1 h, if_false, replaceIn_eq_some_iff.2 hv, Bool.false_eq_true, placing, enter_alone]

theorem settleIn_of_noPlace {w : Window} {ws : List Window} (h : ¬w.beats ws) (hw : w.noPlace ws) :
    settleIn w ws = (ws, [{
      window := w, cause := w.lostBy .outclassed, winner := highestClass (ws.filter fun v => conflict w v) }]) := by
  unfold settleIn
  simp only [mt Window.beats_iff.1 h, replaceIn_eq_none_iff.2 hw, Window.lostBy_eq, Bool.false_eq_true, if_false]

/-- R44, R47 to R49: what every settlement of a newcomer against a calendar keeps. -/
structure Settled (w : Window) (ws : List Window) (res : List Window × List Skip) : Prop where
  free : conflictFree res.1
  length : res.1.length ≤ 32
  ordered : ∀ v ∈ ws, v.state = .ordered → v ∈ res.1
  origin : ∀ u ∈ res.1, ∃ v ∈ w :: ws, u.stemsFrom v
  accounted : ∀ v ∈ w :: ws, accountedFor v res

/-- A window, newcomer or moved, that conflicts with none of the others is placed beside them. -/
theorem settled_placing {w t : Window} {ws out : List Window} {skips : List Skip} (free : conflictFree out)
    (clear : ∀ v ∈ out, conflict t v = false) (length : out.length ≤ 32) (ids : (out.map Window.id).Nodup)
    (ordered : ∀ v ∈ ws, v.state = .ordered → v ∈ out) (origin : ∀ u ∈ t :: out, ∃ v ∈ w :: ws, u.stemsFrom v)
    (accounted : ∀ v ∈ w :: ws, accountedFor v (t :: out, skips)) : Settled w ws (placing t out skips) where
  free := placing_conflictFree free clear skips
  length := placing_length length skips
  ordered v hv hs := placing_keeps_ordered ids (ordered v hv hs) hs skips
  origin u hu := origin u (List.mem_cons.2 (mem_placing hu))
  accounted v hv := accountedFor_placing (accounted v hv)

section
variable {w : Window} {ws : List Window}

/-- The windows after the displaced ones were moved, and the skips of those that were not, have the identities there were. -/
theorem displaced_ids :
    let moved := replaceEach w (ws.filter fun v => conflict w v) (ws.filter fun v => !conflict w v)
    (moved.1.map Window.id ++ moved.2.map fun k => k.window.id).Perm (ws.map Window.id) :=
  (replaceEach_ids w _ _).trans ((List.filter_append_perm _ ws).map _)

theorem nodup_displaced (hn : (ws.map Window.id).Nodup) :
    ((replaceEach w (ws.filter fun v => conflict w v) (ws.filter fun v => !conflict w v)).1.map Window.id).Nodup :=
  (List.nodup_append.1 (displaced_ids.nodup_iff.2 hn)).1

theorem settled_of_beats (h : w.beats ws) (hf : conflictFree ws) (hl : ws.length ≤ 32) (hn : (ws.map Window.id).Nodup) :
    Settled w ws (settleIn w ws) := by
  have clear : ∀ v ∈ ws.filter (fun v => !conflict w v), conflict w v = false := fun v hv => by
    simpa using (List.mem_filter.1 hv).2
  obtain ⟨free, newcomer⟩ := replaceEach_conflictFree (ws.filter fun v => conflict w v) (List.Pairwise.filter _ hf) clear
  have ids := displaced_ids (w := w) (ws := ws)
  have length := ids.length_eq
  rw [List.length_append, List.length_map, List.length_map, List.length_map] at length
  rw [settleIn_of_beats h]
  refine settled_placing free newcomer (by omega) (nodup_displaced hn) (fun v hv ordered => ?_) (fun u hu => ?_) fun v hv => ?_
  · refine mem_replaceEach _ (List.mem_filter.2 ⟨hv, ?_⟩)
    by_contra rival
    have planned := (h v (List.mem_filter.2 ⟨hv, by simpa using rival⟩)).1
    rw [ordered] at planned
    cases planned
  · rcases List.mem_cons.1 hu with rfl | hu
    · exact ⟨u, List.mem_cons_self, .inl rfl⟩
    · rcases replaceEach_stemsFrom hu with hu | ⟨v, hv, stems⟩
      · exact ⟨u, List.mem_cons_of_mem _ (List.mem_filter.1 hu).1, .inl rfl⟩
      · exact ⟨v, List.mem_cons_of_mem _ (List.mem_filter.1 hv).1, stems⟩
  · rcases List.mem_cons.1 hv with rfl | hv
    · exact .inl ⟨v, List.mem_cons_self, rfl⟩
    · rcases List.mem_append.1 (ids.mem_iff.2 (List.mem_map_of_mem hv)) with stays | skipped
      · obtain ⟨u, hu, same⟩ := List.mem_map.1 stays
        exact .inl ⟨u, List.mem_cons_of_mem _ hu, same⟩
      · exact .inr (List.mem_map.1 skipped)

theorem settled_of_movesTo {v : Window} (h : ¬w.beats ws) (hv : w.movesTo ws v) (hf : conflictFree ws) (hl : ws.length ≤ 32)
    (hn : (ws.map Window.id).Nodup) : Settled w ws (settleIn w ws) := by
  rw [settleIn_of_movesTo h hv]
  refine settled_placing hf hv.free hl hn (fun _ hu _ => hu) (List.forall_mem_cons.2 ⟨?_, fun u hu => ?_⟩)
    (List.forall_mem_cons.2 ⟨?_, fun u hu => ?_⟩)
  · exact ⟨w, List.mem_cons_self, hv.stemsFrom⟩
  · exact ⟨u, List.mem_cons_of_mem _ hu, .inl rfl⟩
  · exact .inl ⟨v, List.mem_cons_self, hv.id_eq⟩
  · exact .inl ⟨u, List.mem_cons_of_mem _ hu, rfl⟩

theorem settled_of_noPlace (h : ¬w.beats ws) (hw : w.noPlace ws) (hf : conflictFree ws) (hl : ws.length ≤ 32) :
    Settled w ws (settleIn w ws) := by
  rw [settleIn_of_noPlace h hw]
  exact {
    free := hf
    length := hl
    ordered := fun _ hv _ => hv
    origin := fun u hu => ⟨u, List.mem_cons_of_mem _ hu, .inl rfl⟩
    accounted := List.forall_mem_cons.2
      ⟨.inr ⟨_, List.mem_singleton.2 rfl, rfl⟩, fun v hv => .inl ⟨v, hv, rfl⟩⟩ }

theorem settled_settleIn (hf : conflictFree ws) (hl : ws.length ≤ 32) (hn : (ws.map Window.id).Nodup) :
    Settled w ws (settleIn w ws) := by
  by_cases h : w.beats ws
  · exact settled_of_beats h hf hl hn
  · cases hr : replaceIn ws w with
    | some v => exact settled_of_movesTo h (replaceIn_eq_some_iff.1 hr) hf hl hn
    | none => exact settled_of_noPlace h (replaceIn_eq_none_iff.1 hr) hf hl

/-- A newcomer that loses has a rival. -/
theorem rivals_ne_nil (h : ¬w.beats ws) : (ws.filter fun v => conflict w v) ≠ [] := fun none =>
  h fun v hv => by rw [none] at hv; cases hv

end

/-- Settles O59: what is kept by `settled_settleIn`; who wins by what `settleIn` is in each of its three cases. -/
theorem settlingKeepsTheCalendarFreeOfConflicts : Obligations.SettlingKeepsTheCalendarFreeOfConflicts := by
  intro w ws hf hl hn
  have ids : (ws.map Window.id).Nodup := (List.nodup_cons.1 hn).2
  obtain ⟨free, length, ordered, origin, accounted⟩ := settled_settleIn (w := w) hf hl ids
  refine ⟨free, length, ordered, origin, accounted, fun wins => ?_, fun loses => ⟨fun v hv => ?_, fun hw => ?_⟩⟩
  · rw [settleIn_of_beats wins]
    exact ⟨_, _, displaced_replaceEach w _ _, placedIn_placing (nodup_displaced ids) _⟩
  · rw [settleIn_of_movesTo loses hv]
    exact placedIn_placing ids []
  · obtain ⟨v, hv, highest, top⟩ := highestClass_spec (rivals_ne_nil loses)
    exact ⟨v, hv, top, by rw [settleIn_of_noPlace loses hw, highest]⟩

end Sys2Proof.Machine
end

section
/-! SUPPORT. The measurement unit's filter, and the order of entries by rank (R71, R72). -/

namespace Sys2Proof.Machine

open Sys2Proof

/-! ### The filter (R71) -/

/-- The size of the filter's step for a difference of a given size. -/
def stepSize (a k : Nat) : Nat := (2 * a + 2 ^ k) / (2 * 2 ^ k)

theorem filterStep_eq (d : Int) (k : Nat) : filterStep d k = if d < 0 then -(stepSize d.natAbs k : Int)
    else stepSize d.natAbs k := rfl

@[simp] theorem filterStep_natAbs (d : Int) (k : Nat) : (filterStep d k).natAbs = stepSize d.natAbs k := by
  rw [filterStep_eq]
  split <;> simp

/-- The nearest whole number: a half is rounded up. -/
theorem stepSize_nearest (a k : Nat) :
    2 * 2 ^ k * stepSize a k ≤ 2 * a + 2 ^ k ∧ 2 * a + 2 ^ k < 2 * 2 ^ k * (stepSize a k + 1) :=
  ⟨Nat.mul_div_le _ _, Nat.lt_mul_div_succ _ (by positivity)⟩

theorem stepSize_zero (a : Nat) : stepSize a 0 = a := by
  simp only [stepSize, Nat.pow_zero]
  omega

/-- A depth of 1 or more takes at most half the difference, rounded up. -/
theorem stepSize_half (a : Nat) {k : Nat} (hk : 1 ≤ k) : 2 * stepSize a k ≤ a + 1 := by
  have two : 2 ≤ 2 ^ k := Nat.le_self_pow (by omega) 2
  refine Nat.le_of_mul_le_mul_left (c := 2 ^ k) ?_ (by omega)
  calc 2 ^ k * (2 * stepSize a k) = 2 * 2 ^ k * stepSize a k := by ring
    _ ≤ 2 * a + 2 ^ k := (stepSize_nearest a k).1
    _ ≤ 2 ^ k * a + 2 ^ k := by gcongr
    _ = 2 ^ k * (a + 1) := by ring

theorem stepSize_le (a k : Nat) : stepSize a k ≤ a := by
  rcases Nat.eq_zero_or_pos k with rfl | hk
  · exact (stepSize_zero a).le
  · have := stepSize_half a hk
    omega

/-- The step goes the way of the difference, and not beyond it. -/
theorem filterStep_between (d : Int) (k : Nat) :
    (0 ≤ filterStep d k ∧ filterStep d k ≤ d) ∨ (d ≤ filterStep d k ∧ filterStep d k ≤ 0) := by
  have := stepSize_le d.natAbs k
  rw [filterStep_eq]
  split <;> omega

/-- The filtered level is the old one moved by the step, which never passes 0. -/
theorem filtered_some (f k sample : Nat) :
    (filtered (some f) k sample : Int) = f + filterStep (16 * (sample : Int) - f) k := by
  have := filterStep_between (16 * (sample : Int) - f) k
  exact Int.toNat_of_nonneg (by omega)

/-! ### Order by rank (R72) -/

/-- A pair of an entry and its rank that may stand before another. -/
def ranksBefore (p q : Entry × Int) : Prop := q.2 < p.2 ∨ (p.2 = q.2 ∧ p.1.index ≤ q.1.index)

theorem ranksBefore_trans {p q r : Entry × Int} (h : ranksBefore p q) (h' : ranksBefore q r) : ranksBefore p r := by
  unfold ranksBefore at *
  omega

theorem placeRanked_perm (p : Entry × Int) (l : List (Entry × Int)) : (placeRanked p l).Perm (p :: l) := by
  induction l with
  | nil => rfl
  | cons q l ih =>
    unfold placeRanked
    split
    · rfl
    · exact (ih.cons q).trans (.swap p q l)

theorem placeRanked_ordered (p : Entry × Int) {l : List (Entry × Int)} (h : l.Pairwise ranksBefore) :
    (placeRanked p l).Pairwise ranksBefore := by
  induction l with
  | nil => exact List.pairwise_singleton _ _
  | cons q l ih =>
    obtain ⟨first, rest⟩ := List.pairwise_cons.1 h
    unfold placeRanked
    split
    next hp =>
      have before : ranksBefore p q := by unfold ranksBefore; omega
      refine List.pairwise_cons.2 ⟨fun r hr => ?_, h⟩
      rcases List.mem_cons.1 hr with rfl | hr
      · exact before
      · exact ranksBefore_trans before (first r hr)
    next hp =>
      have after : ranksBefore q p := by unfold ranksBefore; omega
      refine List.pairwise_cons.2 ⟨fun r hr => ?_, ih rest⟩
      rcases List.mem_cons.1 ((placeRanked_perm p l).mem_iff.1 hr) with rfl | hr
      · exact after
      · exact first r hr

theorem foldl_placeRanked (ps l : List (Entry × Int)) (h : l.Pairwise ranksBefore) :
    (ps.foldl (fun l p => placeRanked p l) l).Pairwise ranksBefore ∧
      (ps.foldl (fun l p => placeRanked p l) l).Perm (ps ++ l) := by
  induction ps generalizing l with
  | nil => exact ⟨h, .refl _⟩
  | cons p ps ih =>
    obtain ⟨ordered, perm⟩ := ih (placeRanked p l) (placeRanked_ordered p h)
    exact ⟨ordered, perm.trans (((placeRanked_perm p l).append_left ps).trans List.perm_middle)⟩

theorem ranked_ordered (x : Sub) (es : List Entry) : (ranked x es).Pairwise ranksBefore :=
  (foldl_placeRanked _ [] .nil).1

theorem mem_ranked {x : Sub} {es : List Entry} {p : Entry × Int} : p ∈ ranked x es ↔ p.1 ∈ es ∧ p.1.rankFor x = some p.2 := by
  obtain ⟨e, n⟩ := p
  unfold ranked
  rw [(foldl_placeRanked _ [] .nil).2.mem_iff, List.append_nil, List.mem_filterMap]
  simp only [Option.map_eq_some_iff, Prod.mk.injEq]
  constructor
  · rintro ⟨e, he, n, hn, rfl, rfl⟩
    exact ⟨he, hn⟩
  · rintro ⟨he, hn⟩
    exact ⟨e, he, n, hn, rfl, rfl⟩

theorem rankFor_eq_some_iff {e : Entry} {x : Sub} {n : Int} :
    e.rankFor x = some n ↔ ∃ f : Nat, e.level = some f ∧ n = (f : Int) + 16 * e.offset.get x := by
  cases h : e.level <;> simp [Entry.rankFor, h, eq_comm]

/-- No entry has a rank when none has a level. -/
theorem ranked_eq_nil {x : Sub} {es : List Entry} (h : ∀ e ∈ es, e.level = none) : ranked x es = [] := by
  refine List.eq_nil_iff_forall_not_mem.2 fun p hp => ?_
  obtain ⟨he, hn⟩ := mem_ranked.1 hp
  simp [Entry.rankFor, h p.1 he] at hn

/-- An entry that goes before every other stands first. -/
theorem ranked_eq_cons {x : Sub} {es : List Entry} {e : Entry} {n : Int} (he : e ∈ es) (hn : e.rankFor x = some n)
    (best : ∀ f ∈ es, ∀ m, f.rankFor x = some m → f ≠ e → m < n ∨ (m = n ∧ e.index < f.index)) :
    ∃ rest, ranked x es = (e, n) :: rest := by
  have hmem : (e, n) ∈ ranked x es := mem_ranked.2 ⟨he, hn⟩
  have ordered := ranked_ordered x es
  cases hr : ranked x es with
  | nil => rw [hr] at hmem; cases hmem
  | cons p rest =>
    rw [hr] at hmem ordered
    obtain ⟨hp, hm⟩ := mem_ranked.1 (hr ▸ List.mem_cons_self : p ∈ ranked x es)
    rcases List.mem_cons.1 hmem with rfl | hrest
    · exact ⟨rest, rfl⟩
    · have first : ranksBefore p (e, n) := (List.pairwise_cons.1 ordered).1 _ hrest
      by_cases same : p.1 = e
      · rw [same, hn] at hm
        exact ⟨rest, by rw [← same, Option.some.inj hm]⟩
      · have later := best p.1 hp p.2 hm same
        unfold ranksBefore at first
        simp only at first
        omega

end Sys2Proof.Machine
end

section
/-! SUPPORT. What takes entries from the neighbour table, or takes a subscription from an entry (R62, R64, R73): it leaves no entry
that was not there, and no subscription in an entry that was not in it before. -/

namespace Sys2Proof.Machine

open Sys2Proof

/-! ### What does not touch the table -/

@[simp] theorem State.withdrawOpt_entries (s : State) (w : Option WinId) : (s.withdrawOpt w).meas.entries = s.meas.entries := by
  cases w <;> rfl

@[simp] theorem State.dropTries_entries (s : State) (x : Sub) (i : Nat) : (s.dropTries x i).meas.entries = s.meas.entries := by
  unfold State.dropTries
  split <;> rfl

@[simp] theorem State.endResel_entries (s : State) (x : Sub) : (s.endResel x).meas.entries = s.meas.entries := by
  unfold State.endResel
  split <;> rfl

@[simp] theorem State.endReselAt_entries (s : State) (x : Sub) (i : Nat) : (s.endReselAt x i).meas.entries = s.meas.entries := by
  unfold State.endReselAt
  split
  · exact s.endResel_entries x
  · rfl

@[simp] theorem State.dropReports_meas (s : State) : s.dropReports.meas = s.meas := rfl

@[simp] theorem State.dropPaging_meas (s : State) (x : Sub) : (s.dropPaging x).meas = s.meas := rfl

@[simp] theorem State.postSub_meas (s : State) (x : Sub) (flags : BitVec 16) : (s.postSub x flags).meas = s.meas := rfl

@[simp] theorem State.reportSkips_meas (s : State) (ks : List Skip) : (s.reportSkips ks).meas = s.meas :=
  foldl_keeps State.meas _ ks s fun _ _ => rfl

@[simp] theorem State.insert_meas (s : State) (i : Insertion) : (s.insert i).2.meas = s.meas := by
  unfold State.insert
  dsimp only
  split
  · rfl
  · split
    · rfl
    · exact State.reportSkips_meas ..

@[simp] theorem State.beginSearch_meas (s : State) (x : Sub) : (s.beginSearch x).meas = s.meas :=
  foldl_keeps (fun q : State × List (WinId × Nat) => q.1.meas) _ _ (s, []) fun q _ => State.insert_meas q.1 _

@[simp] theorem State.enterCall_meas (s : State) (i : CallId) (st : CallState) (flags : BitVec 16) :
    (s.enterCall i st flags).meas = s.meas := by
  unfold State.enterCall
  dsimp only
  split <;> exact State.setCall_meas ..

@[simp] theorem State.freeCall_meas (s : State) (i : CallId) (c : CallCause) : (s.freeCall i c).meas = s.meas :=
  (State.enterCall_meas ..).trans (State.setCall_meas ..)

@[simp] theorem State.freeCalls_meas (s : State) (x : Sub) (p : CallRec → Bool) (c : CallCause) :
    (s.freeCalls x p c).meas = s.meas := by
  refine foldl_keeps State.meas _ callIds s fun t i => ?_
  split
  · exact State.freeCall_meas ..
  · rfl

@[simp] theorem State.lostService_meas (s : State) (x : Sub) : (s.lostService x).meas = s.meas := State.freeCalls_meas ..

@[simp] theorem State.idleTrigger_entries (s : State) (x : Sub) : (s.idleTrigger x).meas.entries = s.meas.entries := by
  unfold State.idleTrigger
  dsimp only
  split
  · rfl
  · split
    · simp
    · rfl

@[simp] theorem State.offerReport_meas (s : State) (m : UpMsg) : (s.offerReport m).meas = s.meas := by
  unfold State.offerReport
  split <;> rfl

@[simp] theorem State.reportRule_entries (s : State) (x : Sub) (fresh : Bool) :
    (s.reportRule x fresh).meas.entries = s.meas.entries := by
  unfold State.reportRule
  dsimp only
  split
  · rfl
  · split
    · split
      · simp
      · rfl
    · rfl

@[simp] theorem State.examineMeas_meas (s : State) (x : Sub) : (s.examineMeas x).meas = s.meas := by
  unfold State.examineMeas
  dsimp only
  split
  · split
    · rfl
    next l b _ =>
      rw [apply_ite State.meas]
      exact ite_self _
  · rfl

/-! ### Entries with fewer subscriptions -/

/-- An entry is one of before, with no subscription in its owner or serving-for set that was not there. -/
def Entry.within (e f : Entry) : Prop :=
  e.index = f.index ∧ e.cell = f.cell ∧
    ∀ x, (e.owner.get x = true → f.owner.get x = true) ∧ (e.serving.get x = true → f.serving.get x = true)

theorem Entry.within.refl (e : Entry) : e.within e := ⟨rfl, rfl, fun _ => ⟨id, id⟩⟩

theorem Entry.within.trans {e f g : Entry} (h : e.within f) (h' : f.within g) : e.within g := by
  obtain ⟨hi, hc, hx⟩ := h
  obtain ⟨hi', hc', hx'⟩ := h'
  exact ⟨hi.trans hi', hc.trans hc', fun x => ⟨(hx' x).1 ∘ (hx x).1, (hx' x).2 ∘ (hx x).2⟩⟩

/-- The table of a state is that of another with entries gone, and subscriptions gone from the others. -/
def State.shrinksTo (s t : State) : Prop := List.SublistForall₂ Entry.within t.meas.entries s.meas.entries

theorem State.shrinksTo_iff {s t : State} :
    s.shrinksTo t ↔ ∃ l, List.Forall₂ Entry.within t.meas.entries l ∧ l.Sublist s.meas.entries := List.sublistForall₂_iff

theorem State.shrinksTo_of_sublist {s t : State} (h : t.meas.entries.Sublist s.meas.entries) : s.shrinksTo t :=
  State.shrinksTo_iff.2 ⟨_, List.forall₂_same.2 fun e _ => .refl e, h⟩

theorem State.shrinksTo_of_entries {s t : State} (h : t.meas.entries = s.meas.entries) : s.shrinksTo t :=
  State.shrinksTo_of_sublist (h ▸ List.Sublist.refl _)

theorem State.shrinksTo.refl (s : State) : s.shrinksTo s := State.shrinksTo_of_entries rfl

theorem State.shrinksTo.trans {s t u : State} (h : s.shrinksTo t) (h' : t.shrinksTo u) : s.shrinksTo u :=
  have : IsTrans Entry Entry.within := ⟨fun _ _ _ => .trans⟩
  List.SublistForall₂.is_trans.trans _ _ _ h' h

theorem State.shrinksTo.mem {s t : State} (h : s.shrinksTo t) {e : Entry} (he : e ∈ t.meas.entries) :
    ∃ f ∈ s.meas.entries, e.within f := by
  obtain ⟨l, hl, hs⟩ := State.shrinksTo_iff.1 h
  obtain ⟨i, hi, rfl⟩ := List.getElem_of_mem he
  exact ⟨_, hs.subset (List.getElem_mem (hl.length_eq ▸ hi)), hl.get hi _⟩

theorem State.shrinksTo.indices {s t : State} (h : s.shrinksTo t) :
    (t.meas.entries.map Entry.index).Sublist (s.meas.entries.map Entry.index) := by
  obtain ⟨l, hl, hs⟩ := State.shrinksTo_iff.1 h
  have same : t.meas.entries.map Entry.index = l.map Entry.index := by
    rw [← List.forall₂_eq_eq_eq, List.forall₂_map_left_iff, List.forall₂_map_right_iff]
    exact hl.imp fun _ _ hw => hw.1
  rw [same]
  exact hs.map _

theorem State.mapEntries_shrinks (s : State) {f : Entry → Entry} (h : ∀ e, (f e).within e) : s.shrinksTo (s.mapEntries f) :=
  State.shrinksTo_iff.2 ⟨_, List.forall₂_map_left_iff.2 (List.forall₂_same.2 fun e _ => h e), .refl _⟩

theorem State.modEntry_shrinks (s : State) (i : Nat) {f : Entry → Entry} (h : ∀ e, (f e).within e) :
    s.shrinksTo (s.modEntry i f) := by
  refine s.mapEntries_shrinks fun e => ?_
  split
  · exact h e
  · exact .refl e

theorem State.foldl_shrinks {α : Type} {f : State → α → State} (h : ∀ (s : State) a, s.shrinksTo (f s a)) (l : List α)
    (s : State) : s.shrinksTo (l.foldl f s) := by
  induction l generalizing s with
  | nil => exact .refl s
  | cons a l ih => exact (h s a).trans (ih _)

/-! ### Deletions (R64) -/

theorem State.deleteEntry_entries (s : State) (e : Entry) :
    (s.deleteEntry e).meas.entries = s.meas.entries.filter fun f => decide (f.index ≠ e.index) := by
  unfold State.deleteEntry
  dsimp only
  rw [State.endReselAt_entries, State.endReselAt_entries, State.dropTries_entries, State.dropTries_entries]
  split
  · rfl
  · exact congrArg (List.filter _) (State.withdrawOpt_entries ..)

theorem State.deleteEntry_shrinks (s : State) (e : Entry) : s.shrinksTo (s.deleteEntry e) :=
  State.shrinksTo_of_sublist (s.deleteEntry_entries e ▸ List.filter_sublist)

theorem State.deleteIdle_shrinks (s : State) (keep : Option CellId) : s.shrinksTo (s.deleteIdle keep) :=
  State.foldl_shrinks State.deleteEntry_shrinks _ s

theorem Two.get_set_imp {t : Two Bool} : ∀ {x y : Sub}, (t.set x false).get y = true → t.get y = true
  | .A, .A, h => absurd h Bool.false_ne_true
  | .A, .B, h => h
  | .B, .A, h => h
  | .B, .B, h => absurd h Bool.false_ne_true

/-- R62 step 2: an entry whose owner set a subscription has left. -/
def Entry.disownedBy (e : Entry) (x : Sub) : Entry :=
  { e with owner := e.owner.set x false, offset := e.offset.set x 0, trigger := e.trigger.set x 0 }

theorem Entry.disownedBy_within (e : Entry) (x : Sub) : (e.disownedBy x).within e :=
  ⟨rfl, rfl, fun _ => ⟨Two.get_set_imp, id⟩⟩

theorem State.leaveOwner_entries (s : State) (x : Sub) (i : Nat) :
    (s.leaveOwner x i).meas.entries = (s.modEntry i fun e => e.disownedBy x).meas.entries :=
  (State.endReselAt_entries ..).trans (State.dropTries_entries ..)

theorem State.leaveOwner_shrinks (s : State) (x : Sub) (i : Nat) : s.shrinksTo (s.leaveOwner x i) :=
  (s.modEntry_shrinks i fun e => e.disownedBy_within x).trans (State.shrinksTo_of_entries (s.leaveOwner_entries x i))

/-! ### A subscription camps no longer (R32, R64, R66) -/

theorem State.unbind_shrinks (s : State) (w : WinId) : s.shrinksTo (s.unbind w) := by
  unfold State.unbind
  split
  · refine State.mapEntries_shrinks (s.withdraw w) fun e => ?_
    split <;> exact .refl e
  · exact .refl s

theorem State.setMode_shrinks (s : State) (x : Sub) (mode : Mode) : s.shrinksTo (s.setMode x mode) := by
  unfold State.setMode
  refine .trans (State.foldl_shrinks State.unbind_shrinks ((s.measWindows x).filter fun w => !s.alsoBound x w) s)
    (State.shrinksTo_of_entries ?_)
  dsimp only
  rw [apply_ite State.meas, State.dropReports_meas, ite_self]
  rfl

theorem State.recompute_shrinks (s : State) : s.shrinksTo s.recompute := s.mapEntries_shrinks fun e => .refl e

theorem State.campsNoMore_shrinks (s : State) (x : Sub) : s.shrinksTo (s.campsNoMore x) := by
  unfold State.campsNoMore
  refine .trans (State.shrinksTo_of_entries (s.endResel_entries x)) ?_
  refine .trans (State.setMode_shrinks _ x .none) ?_
  refine .trans (State.mapEntries_shrinks _ (f := fun e => e.leftBy x) fun e => ?_) ?_
  · exact ⟨rfl, rfl, fun y => ⟨Two.get_set_imp, Two.get_set_imp⟩⟩
  · exact .trans (State.deleteIdle_shrinks _ none) (State.recompute_shrinks _)

theorem State.toSearching_shrinks (s : State) (x : Sub) : s.shrinksTo (s.toSearching x) :=
  .trans (State.campsNoMore_shrinks (s.dropPaging x) x) (State.shrinksTo_of_entries (by simp [State.toSearching]))

theorem State.campLoss_shrinks (s : State) (x : Sub) : s.shrinksTo (s.campLoss x) := by
  unfold State.campLoss
  split
  · exact .refl s
  · refine .trans (State.campsNoMore_shrinks (s.dropPaging x) x) (.trans (State.shrinksTo_of_entries ?_)
      (State.toSearching_shrinks _ x))
    simp

/-! ### Evaluation (R65, R73) -/

/-- R73 step 1 and R65: the state in which the entries are as a round leaves them. -/
def State.afterRound (s : State) (x : Sub) (r : Round) : State :=
  (match s.servingRank x with
    | some k => s.mapEntries fun e => e.counted x r k (s.timeToTrigger x)
    | none => s).mapEntries fun e => e.stale x r

/-- R73 step 3: in IDLE the serving level is handed over for the floor strike count. -/
def State.strikeIfIdle (s : State) (x : Sub) : State :=
  match (s.measOf x).mode with
  | .idle => s.floorStrike x
  | _ => s

/-- R73 step 4: the trigger or the report rule of the mode. -/
def State.actOnTriggers (s : State) (x : Sub) (fresh : Bool) : State :=
  match (s.measOf x).mode with
  | .idle => if (s.sub x).state = SubState.camped then s.idleTrigger x else s
  | .dedicated => s.reportRule x fresh
  | _ => s

theorem State.evaluate_eq (s : State) (x : Sub) (r : Round) :
    ∃ fresh, s.evaluate x r = (((s.afterRound x r).strikeIfIdle x).actOnTriggers x fresh).examineMeas x := ⟨_, rfl⟩

@[simp] theorem State.actOnTriggers_entries (s : State) (x : Sub) (fresh : Bool) :
    (s.actOnTriggers x fresh).meas.entries = s.meas.entries := by
  unfold State.actOnTriggers
  split
  · split
    · exact s.idleTrigger_entries x
    · rfl
  · exact s.reportRule_entries x fresh
  · rfl

/-- The entries after an evaluation are those the round and a floor strike leave. -/
theorem State.evaluate_entries (s : State) (x : Sub) (r : Round) :
    (s.evaluate x r).meas.entries = ((s.afterRound x r).strikeIfIdle x).meas.entries := by
  obtain ⟨fresh, h⟩ := s.evaluate_eq x r
  rw [h, State.examineMeas_meas, State.actOnTriggers_entries]

/-- R73 step 1 and R65: an entry after a round. -/
def State.entryAfter (s : State) (x : Sub) (r : Round) (e : Entry) : Entry :=
  ((s.servingRank x).elim e fun k => e.counted x r k (s.timeToTrigger x)).stale x r

theorem State.afterRound_eq (s : State) (x : Sub) (r : Round) : s.afterRound x r = s.mapEntries (s.entryAfter x r) := by
  unfold State.afterRound
  split
  next k hk => simp [State.mapEntries, State.entryAfter, hk]
  next hk => simp [State.mapEntries, State.entryAfter, hk]

theorem Entry.aged_within (e : Entry) (got : Bool) : (e.aged got).within e := by
  unfold Entry.aged
  split
  · exact .refl e
  · split <;> exact .refl e

theorem Entry.counted_within (e : Entry) (x : Sub) (r : Round) (serving : Int) (limit : Nat) :
    (e.counted x r serving limit).within e := by
  unfold Entry.counted
  split
  · split
    · split <;> exact .refl e
    · exact .refl e
  · exact .refl e

theorem Entry.stale_within (e : Entry) (x : Sub) (r : Round) : (e.stale x r).within e := by
  unfold Entry.stale
  split
  · exact e.aged_within _
  · split
    · exact e.aged_within _
    · exact .refl e

theorem State.entryAfter_within (s : State) (x : Sub) (r : Round) (e : Entry) : (s.entryAfter x r e).within e := by
  refine (Entry.stale_within _ x r).trans ?_
  cases s.servingRank x with
  | none => exact .refl e
  | some k => exact e.counted_within x r k _

/-- What a floor strike does: nothing, or it sets the count; at the third strike in a row the camp is lost. -/
theorem State.floorStrike_cases (s : State) (x : Sub) : s.floorStrike x = s ∨
    ∃ n, s.floorStrike x = s.modSub x (fun r => { r with strikes := n }) ∨
      (2 ≤ (s.sub x).strikes ∧ s.floorStrike x = (s.modSub x fun r => { r with strikes := n }).campLoss x) := by
  unfold State.floorStrike
  split
  · split
    · have raised : (s.modSub x fun r => { r with strikes := min (r.strikes + 1) 3 }) =
          s.modSub x fun r => { r with strikes := min ((s.sub x).strikes + 1) 3 } := rfl
      refine .inr ⟨min ((s.sub x).strikes + 1) 3, ?_⟩
      dsimp only
      rw [raised, State.modSub_sub]
      split
      next third =>
        have : 3 ≤ min ((s.sub x).strikes + 1) 3 := third
        exact .inr ⟨by omega, rfl⟩
      next => exact .inl rfl
    · exact .inr ⟨0, .inl rfl⟩
  · exact .inl rfl

theorem State.floorStrike_shrinks (s : State) (x : Sub) : s.shrinksTo (s.floorStrike x) := by
  rcases s.floorStrike_cases x with h | ⟨n, h | ⟨-, h⟩⟩ <;> rw [h]
  · exact .refl s
  · exact .refl s
  · exact State.campLoss_shrinks (s.modSub x _) x

theorem State.strikeIfIdle_shrinks (s : State) (x : Sub) : s.shrinksTo (s.strikeIfIdle x) := by
  unfold State.strikeIfIdle
  split
  · exact s.floorStrike_shrinks x
  · exact .refl s

theorem State.evaluate_shrinks (s : State) (x : Sub) (r : Round) : s.shrinksTo (s.evaluate x r) := by
  have after : s.shrinksTo (s.afterRound x r) :=
    s.afterRound_eq x r ▸ s.mapEntries_shrinks fun e => s.entryAfter_within x r e
  exact (after.trans (State.strikeIfIdle_shrinks _ x)).trans (State.shrinksTo_of_entries (s.evaluate_entries x r))

theorem State.evaluateOver_shrinks (s : State) (x : Sub) (n : Nat) : s.shrinksTo (s.evaluateOver x n) := by
  induction n generalizing s with
  | zero => exact .refl s
  | succ n ih =>
    unfold State.evaluateOver
    dsimp only
    split
    · exact (State.evaluate_shrinks (s.modMeas x _) x _).trans (ih _)
    · exact .refl s

theorem State.endRounds_shrinks (s : State) (x : Sub) : s.shrinksTo (s.endRounds x) := s.evaluateOver_shrinks x _

/-! ### An eviction (R63, R64) -/

theorem State.evict_shrinks (s : State) (v : Entry) : (s.deleteEntry v).shrinksTo (s.evict v) :=
  (State.endRounds_shrinks _ .A).trans (State.endRounds_shrinks _ .B)

/-- The index of the victim is free. -/
theorem State.evict_index (s : State) (v : Entry) : v.index ∉ (s.evict v).meas.entries.map Entry.index := by
  intro h
  obtain ⟨e, he, hi⟩ := List.mem_map.1 ((s.evict_shrinks v).indices.subset h)
  rw [s.deleteEntry_entries v, List.mem_filter] at he
  simp [hi] at he

end Sys2Proof.Machine
end

section
/-! SUPPORT. A beacon list applied for a subscription (R60, R62, R63): afterwards it serves on its serving cell alone, and owns entries
of listed cells alone. -/

namespace Sys2Proof.Machine

open Sys2Proof

/-- R62: an entry that is serving for a subscription only as its serving cell's, and owned by it only as a listed cell's. -/
def Entry.listed (e : Entry) (x : Sub) (serving : CellId) (list : List Neighbour) : Prop :=
  (e.serving.get x = true → e.cell = serving) ∧ (e.owner.get x = true → ∃ n ∈ list, n.cell = e.cell)

theorem Entry.within.listed {e f : Entry} {x : Sub} {serving : CellId} {list : List Neighbour} (h : e.within f)
    (hf : f.listed x serving list) : e.listed x serving list := by
  obtain ⟨-, cell, member⟩ := h
  obtain ⟨serves, owns⟩ := hf
  exact ⟨fun he => cell ▸ serves ((member x).2 he), fun he => cell ▸ owns ((member x).1 he)⟩

/-- Every entry is so, and has an index of its own. -/
structure State.tableListed (s : State) (x : Sub) (serving : CellId) (list : List Neighbour) : Prop where
  indices : (s.meas.entries.map Entry.index).Nodup
  entries : ∀ e ∈ s.meas.entries, e.listed x serving list

theorem State.tableListed.shrinks {s t : State} {x : Sub} {serving : CellId} {list : List Neighbour}
    (h : s.tableListed x serving list) (hst : s.shrinksTo t) : t.tableListed x serving list := by
  refine ⟨hst.indices.nodup h.indices, fun e he => ?_⟩
  obtain ⟨f, hf, within⟩ := hst.mem he
  exact within.listed (h.entries f hf)

/-! ### Leaving what the list does not name (R62 steps 1 to 3) -/

/-- R62 step 2: the subscription owns none of the entries it has left. -/
theorem State.mem_foldl_leaveOwner {x : Sub} {es : List Entry} {s : State} {e : Entry}
    (he : e ∈ (es.foldl (fun s f => s.leaveOwner x f.index) s).meas.entries) :
    ∃ f ∈ s.meas.entries, e.within f ∧ (e.owner.get x = true → ∀ g ∈ es, g.index ≠ e.index) := by
  induction es generalizing s with
  | nil => exact ⟨e, he, .refl e, fun _ _ hg => nomatch hg⟩
  | cons g es ih =>
    obtain ⟨f, hf, within, rest⟩ := ih he
    rw [State.leaveOwner_entries] at hf
    obtain ⟨f₀, hf₀, rfl⟩ := List.mem_map.1 hf
    by_cases hi : f₀.index = g.index
    · rw [if_pos hi] at within
      refine ⟨f₀, hf₀, within.trans (f₀.disownedBy_within x), fun owner => ?_⟩
      have := (within.2.2 x).1 owner
      simp [Entry.disownedBy] at this
    · rw [if_neg hi] at within
      refine ⟨f₀, hf₀, within, fun owner => List.forall_mem_cons.2 ⟨fun same => hi ?_, rest owner⟩⟩
      exact within.1.symm.trans same.symm

/-- R62 step 1: an entry as the subscription's serving cell leaves it. -/
def Entry.servingOn (e : Entry) (x : Sub) (serving : CellId) : Entry :=
  if e.cell = serving then e else { e with serving := e.serving.set x false }

theorem Entry.servingOn_within (e : Entry) (x : Sub) (serving : CellId) : (e.servingOn x serving).within e := by
  unfold Entry.servingOn
  split
  · exact .refl e
  · exact ⟨rfl, rfl, fun _ => ⟨id, Two.get_set_imp⟩⟩

theorem Entry.servingOn_cell {e : Entry} {x : Sub} {serving : CellId} (h : (e.servingOn x serving).serving.get x = true) :
    (e.servingOn x serving).cell = serving := by
  unfold Entry.servingOn at h ⊢
  split at h
  next cell => rw [if_pos cell, cell]
  next => simp at h

/-- R62 step 2: the entries the subscription owns that the list does not name. -/
def State.unlisted (s : State) (x : Sub) (list : List Neighbour) : List Entry :=
  s.meas.entries.filter fun e => e.owner.get x && !list.any fun n => decide (n.cell = e.cell)

/-- R62 steps 1 and 2. -/
def State.disowned (s : State) (x : Sub) (serving : CellId) (list : List Neighbour) : State :=
  let s := s.mapEntries fun e => e.servingOn x serving
  (s.unlisted x list).foldl (fun s e => s.leaveOwner x e.index) s

theorem State.leaveUnlisted_eq (s : State) (x : Sub) (serving : CellId) (list : List Neighbour) :
    s.leaveUnlisted x serving list = ((s.disowned x serving list).deleteIdle (some serving)).endRounds x := rfl

theorem State.disowned_listed {s : State} (h : (s.meas.entries.map Entry.index).Nodup) (x : Sub) (serving : CellId)
    (list : List Neighbour) : (s.disowned x serving list).tableListed x serving list := by
  have step1 := s.mapEntries_shrinks fun e => e.servingOn_within x serving
  have step2 := State.foldl_shrinks (fun s (e : Entry) => s.leaveOwner_shrinks x e.index)
    ((s.mapEntries fun e => e.servingOn x serving).unlisted x list) (s.mapEntries fun e => e.servingOn x serving)
  refine ⟨(step1.trans step2).indices.nodup h, fun f hf => ?_⟩
  obtain ⟨g, hg, ⟨hi, hc, member⟩, left⟩ := State.mem_foldl_leaveOwner hf
  obtain ⟨owner, serves⟩ := member x
  constructor
  · intro hs
    obtain ⟨e, -, rfl⟩ := List.mem_map.1 hg
    exact hc.trans (Entry.servingOn_cell (serves hs))
  · intro owns
    by_contra unlisted
    refine left owns g (List.mem_filter.2 ⟨hg, ?_⟩) hi.symm
    simpa [owner owns, hc] using unlisted

theorem State.leaveUnlisted_listed {s : State} (h : (s.meas.entries.map Entry.index).Nodup) (x : Sub) (serving : CellId)
    (list : List Neighbour) : (s.leaveUnlisted x serving list).tableListed x serving list := by
  rw [State.leaveUnlisted_eq]
  exact (State.disowned_listed h x serving list).shrinks ((State.deleteIdle_shrinks _ _).trans (State.endRounds_shrinks _ x))

/-! ### Joining what it names (R62 steps 4 to 6) -/

theorem placeEntry_perm (e : Entry) (es : List Entry) : (placeEntry e es).Perm (e :: es) := by
  induction es with
  | nil => rfl
  | cons f es ih =>
    unfold placeEntry
    split
    · rfl
    · exact (ih.cons f).trans (.swap e f es)

/-- R60: in a table with room an index is free. -/
theorem State.freeIndex_free {s : State} (h : s.meas.entries.length < tableRoom) :
    s.freeIndex ∉ s.meas.entries.map Entry.index := by
  unfold State.freeIndex
  cases hf : (List.range tableRoom).find? fun i => s.meas.entries.all fun e => decide (e.index ≠ i) with
  | some i => simpa using List.find?_some hf
  | none =>
    have taken : List.range tableRoom ⊆ s.meas.entries.map Entry.index := by
      intro i hi
      simpa using List.find?_eq_none.1 hf i hi
    have := (List.subperm_of_subset List.nodup_range taken).length_le
    rw [List.length_range, List.length_map] at this
    omega

section
variable {s t : State} {x : Sub} {serving : CellId} {list : List Neighbour}

/-- One entry changed, to one that is listed. -/
theorem State.tableListed.modEntry (h : s.tableListed x serving list) {e : Entry} (he : e ∈ s.meas.entries) {f : Entry → Entry}
    (hi : ∀ e, (f e).index = e.index) (hf : (f e).listed x serving list) : (s.modEntry e.index f).tableListed x serving list := by
  have indices : (s.modEntry e.index f).meas.entries.map Entry.index = s.meas.entries.map Entry.index := by
    unfold State.modEntry State.mapEntries
    rw [List.map_map]
    refine List.map_congr_left fun g _ => ?_
    simp only [Function.comp_apply]
    split
    · exact hi g
    · rfl
  refine ⟨indices ▸ h.indices, fun g hg => ?_⟩
  obtain ⟨g₀, hg₀, rfl⟩ := List.mem_map.1 hg
  by_cases same : g₀.index = e.index
  · rw [if_pos same, List.inj_on_of_nodup_map h.indices hg₀ he same]
    exact hf
  · rw [if_neg same]
    exact h.entries g₀ hg₀

/-- R60: the entry made takes its place among the others. -/
theorem State.makeEntry_entries (s : State) (i : Nat) (c : CellId) (owner serves : Two Bool) (offset : Two Int) :
    ∃ e : Entry, e.index = i ∧ e.cell = c ∧ e.owner = owner ∧ e.serving = serves ∧
      (s.makeEntry i c owner serves offset).meas.entries = placeEntry e s.meas.entries :=
  ⟨_, rfl, rfl, rfl, rfl, rfl⟩

/-- R60: a new entry, of a listed cell or the serving one, at a free index. -/
theorem State.tableListed.makeEntry (h : s.tableListed x serving list) {i : Nat} {c : CellId} {owner serves : Two Bool}
    (offset : Two Int) (hi : i ∉ s.meas.entries.map Entry.index) (hs : serves.get x = true → c = serving)
    (ho : owner.get x = true → ∃ n ∈ list, n.cell = c) : (s.makeEntry i c owner serves offset).tableListed x serving list := by
  obtain ⟨e, rfl, rfl, rfl, rfl, entries⟩ := s.makeEntry_entries i c owner serves offset
  have perm := entries ▸ placeEntry_perm e s.meas.entries
  refine ⟨(perm.map Entry.index).nodup_iff.2 (List.nodup_cons.2 ⟨hi, h.indices⟩), fun f he => ?_⟩
  rcases List.mem_cons.1 (perm.mem_iff.1 he) with rfl | he
  · exact ⟨hs, ho⟩
  · exact h.entries _ he

/-- R60, R63: an addition of a listed cell or the serving one. -/
theorem State.tableListed.addEntry (h : s.tableListed x serving list) {victim : Option Entry} {c : CellId} {owner serves : Two Bool}
    {offset : Two Int} (hs : serves.get x = true → c = serving) (ho : owner.get x = true → ∃ n ∈ list, n.cell = c)
    (ht : s.addEntry victim c owner serves offset = some t) : t.tableListed x serving list := by
  unfold State.addEntry at ht
  split at ht
  next room =>
    cases ht
    exact h.makeEntry offset (State.freeIndex_free room) hs ho
  next =>
    split at ht
    next v =>
      cases ht
      have evicted := h.shrinks ((s.deleteEntry_shrinks v).trans (s.evict_shrinks v))
      exact evicted.makeEntry offset (s.evict_index v) hs ho
    next => cases ht

theorem State.entryOf_some {c : CellId} {e : Entry} (h : s.entryOf c = some e) : e ∈ s.meas.entries ∧ e.cell = c :=
  ⟨List.mem_of_find?_eq_some h, by simpa using List.find?_some h⟩

theorem State.tableListed.joinServing (h : s.tableListed x serving list) :
    (s.joinServing x serving).tableListed x serving list := by
  unfold State.joinServing
  split
  next e he =>
    obtain ⟨mem, cell⟩ := State.entryOf_some he
    exact h.modEntry mem (fun _ => rfl) ⟨fun _ => cell, (h.entries e mem).2⟩
  next =>
    cases ha : s.addEntry (s.servingVictim x) serving (.both false) ((Two.both false).set x true) (.both 0) with
    | none => exact h
    | some t => exact h.addEntry (fun _ => rfl) (fun owns => by simp at owns) ha

theorem State.tableListed.joinOwner (h : s.tableListed x serving list) {n : Neighbour} (hn : n ∈ list) :
    (s.joinOwner x n).tableListed x serving list := by
  unfold State.joinOwner
  split
  next e he =>
    obtain ⟨mem, cell⟩ := State.entryOf_some he
    exact h.modEntry mem (fun _ => rfl) ⟨(h.entries e mem).1, fun _ => ⟨n, hn, cell.symm⟩⟩
  next => exact h

theorem State.tableListed.addListed (h : s.tableListed x serving list) {n : Neighbour} (hn : n ∈ list) (lost : Nat) :
    (s.addListed x n lost).1.tableListed x serving list := by
  unfold State.addListed
  split
  next => exact h
  next =>
    split
    next t ht => exact h.addEntry (fun serves => by simp at serves) (fun _ => ⟨n, hn, rfl⟩) ht
    next => exact h

theorem State.paramsChanged_shrinks (s : State) (x : Sub) : s.shrinksTo (s.paramsChanged x) := by
  unfold State.paramsChanged
  refine .trans ?_ (State.recompute_shrinks _)
  split
  · exact s.mapEntries_shrinks fun e => .refl e
  · exact .refl s

@[simp] theorem State.noteLost_meas (s : State) (x : Sub) (lost : Nat) : (s.noteLost x lost).meas = s.meas := by
  unfold State.noteLost
  dsimp only
  split <;> rfl

theorem State.tableListed.joinListed (h : s.tableListed x serving list) (previous : Option CellId) :
    (s.joinListed x previous serving list).tableListed x serving list := by
  let step4 := s.joinServing x serving
  let step5 := list.foldl (fun s n => s.joinOwner x n) step4
  let step6 := list.foldl (fun (p : State × Nat) n => p.1.addListed x n p.2) (step5, 0)
  let noted := (step6.1.paramsChanged x).noteLost x step6.2
  have owned : step5.tableListed x serving list :=
    List.foldlRecOn (motive := fun t : State => t.tableListed x serving list) list _ h.joinServing fun t ht n hn => ht.joinOwner hn
  have added : step6.1.tableListed x serving list :=
    List.foldlRecOn (motive := fun p : State × Nat => p.1.tableListed x serving list) list _ owned
      fun p hp n hn => hp.addListed hn p.2
  have kept : noted.tableListed x serving list :=
    added.shrinks ((State.paramsChanged_shrinks _ x).trans (State.shrinksTo_of_entries (by simp [noted])))
  have steps : s.joinListed x previous serving list = if previous = some serving then noted else noted.zeroTriggers x := rfl
  rw [steps]
  split
  · exact kept
  · exact kept.shrinks (noted.mapEntries_shrinks fun e => .refl e)

/-- R62: the list applied. -/
theorem State.applyList_listed (h : (s.meas.entries.map Entry.index).Nodup) (x : Sub) (serving : CellId) (list : List Neighbour) :
    (s.applyList x serving list).tableListed x serving list := by
  have left := State.leaveUnlisted_listed h x serving list
  unfold State.applyList
  dsimp only
  split
  · exact left
  · exact left.joinListed _

end

end Sys2Proof.Machine
end

section
/-! SUPPORT. The end of a MEAS window to which one entry is bound, and whose open attempts no other window serves (R67, R70, R71). -/

namespace Sys2Proof.Machine

open Sys2Proof

/-! ### What a measurement leaves alone -/

/-- A state in which reports have come or gone and the measurement unit has changed. -/
def State.remeasured (s : State) (rs : List Report) (m : Meas) : State := { s with reports := rs, meas := m }

theorem State.modMeas_both (s : State) (f : MeasSub → MeasSub) : (s.modMeas .A f).modMeas .B f =
    s.remeasured s.reports { s.meas with subs := { a := f (s.measOf .A), b := f (s.measOf .B) } } := rfl

theorem State.unbind_absent {s : State} {w : WinId} (h : ∀ u ∈ s.cal.windows, u.id ≠ w) : s.unbind w = s := by
  have absent : ¬s.isPlanned w = true := by simpa [State.isPlanned] using fun u hu same => absurd same (h u hu)
  exact if_neg absent

theorem State.foldl_unbind_absent {s : State} {ws : List WinId} (h : ∀ w ∈ ws, ∀ u ∈ s.cal.windows, u.id ≠ w) :
    ws.foldl State.unbind s = s := by
  induction ws with
  | nil => rfl
  | cons w ws ih =>
    rw [List.foldl_cons, State.unbind_absent (h w List.mem_cons_self)]
    exact ih fun v hv => h v (List.mem_cons_of_mem _ hv)

/-! ### A sample (R67, R71) -/

/-- A subscription's measurement state after a sample of an entry. -/
def MeasSub.sampled (m : MeasSub) (i : Nat) (serves : Bool) : MeasSub := { m with rounds := m.rounds.map (Round.sampled i serves) }

/-- An entry after a sample of it. -/
def Entry.sampled (e : Entry) (l : Nat) : Entry := { e with level := some (filtered e.level e.depth l), rounds := 0 }

theorem State.endTries_eq (s : State) (x : Sub) (i : Nat) (serves : Bool) : ∃ rs,
    s.endTries x i serves = s.remeasured rs { s.meas with subs := s.meas.subs.set x ((s.measOf x).sampled i serves) } := by
  have rounds := s.endTries_rounds x i serves
  unfold State.endTries at rounds ⊢
  split at rounds
  next h => exact ⟨_, if_pos h⟩
  next h =>
    refine ⟨s.reports, (if_neg h).trans ?_⟩
    have stands : (s.measOf x).sampled i serves = s.meas.subs.get x := by
      rw [MeasSub.sampled, ← rounds]
      rfl
    rw [stands, Two.set_get]
    rfl

theorem State.entry_eq_some {s : State} (h : (s.meas.entries.map Entry.index).Nodup) {e : Entry} (he : e ∈ s.meas.entries) :
    s.entry e.index = some e := by
  unfold State.entry
  cases hf : s.meas.entries.find? fun f => decide (f.index = e.index) with
  | none => simpa using List.find?_eq_none.1 hf e he
  | some f =>
    have same : f.index = e.index := by simpa using List.find?_some hf
    rw [List.inj_on_of_nodup_map h (List.mem_of_find?_eq_some hf) he same]

/-- A sample of an entry no open attempt on which is bound to a window in the calendar. -/
theorem State.sampleEntered_eq {s : State} {i : Nat} {e : Entry} (he : s.entry i = some e)
    (hw : ∀ x, ∀ w ∈ (s.measOf x).windowsOn i, ∀ u ∈ s.cal.windows, u.id ≠ w) (l : Nat) : ∃ rs,
    s.sampleEntered i l none = s.remeasured rs {
      entries := s.meas.entries.map fun e => if e.index = i then e.sampled l else e
      subs := { a := (s.measOf .A).sampled i e.serving.a, b := (s.measOf .B).sampled i e.serving.b } } := by
  let leveled := s.modEntry i fun e => e.sampled l
  obtain ⟨ra, ha⟩ := leveled.endTries_eq .A i e.serving.a
  obtain ⟨rb, hb⟩ := (leveled.endTries .A i e.serving.a).endTries_eq .B i e.serving.b
  let ended := (leveled.endTries .A i e.serving.a).endTries .B i e.serving.b
  let ws := ((s.measOf .A).windowsOn i ++ (s.measOf .B).windowsOn i).filter fun w => !ended.awaited w
  have cal : ended.cal = s.cal := by
    simp only [ended, hb, ha]
    rfl
  have bound : ws.foldl State.unbind ended = ended := by
    refine State.foldl_unbind_absent fun w hw' => cal ▸ ?_
    rcases List.mem_append.1 (List.mem_filter.1 hw').1 with h | h
    · exact hw .A w h
    · exact hw .B w h
  have steps : s.sampleEntered i l none = ws.foldl State.unbind ended := by
    unfold State.sampleEntered
    simp [he, ws, ended, leveled, Entry.sampled, Two.get]
  refine ⟨rb, ?_⟩
  rw [steps, bound, show ended = _ from hb, ha]
  rfl

/-! ### The window ends (R70) -/

/-- The window is no dedicated MEAS window of the subscription any more. -/
def MeasSub.forgets (m : MeasSub) (w : WinId) : MeasSub := { m with dedWindows := m.dedWindows.filter fun v => decide (v ≠ w) }

theorem State.handOver_meas {w : Window} (hr : w.reporter = .measurement) (hp : w.purpose = .meas) (s : State) (e : Ended) :
    s.handOver w e = s.measWindowEnded w e := by
  unfold State.handOver
  rw [hr]
  cases w.owner with
  | sub x => exact if_pos hp
  | part => rfl

/-- No entry is bound to the window any more. -/
def State.freed (s : State) (w : WinId) : State := s.mapEntries fun f => if f.bound = some w then { f with bound := none } else f

/-- Of a window that ended without a sample: the attempts bound to it end. -/
theorem State.measWindowEnded_missed (s : State) (w : Window) {e : Ended} (he : e = .failed ∨ ∃ k v, e = .skipped k v) : ∃ rs,
    s.measWindowEnded w e = s.remeasured rs {
      entries := (s.freed w.id).meas.entries
      subs := { a := ((s.measOf .A).missed w.id).forgets w.id, b := ((s.measOf .B).missed w.id).forgets w.id } } := by
  have steps : s.measWindowOver w.id e = ((((s.freed w.id).modMeas .A (MeasSub.missed w.id)).modMeas .B
      (MeasSub.missed w.id)).modMeas .A fun m => m.forgets w.id).modMeas .B fun m => m.forgets w.id := by
    rcases he with rfl | ⟨k, v, rfl⟩ <;> rfl
  refine ⟨s.reports ++ [.rounds .A] ++ [.rounds .B], ?_⟩
  unfold State.measWindowEnded
  rw [steps, State.modMeas_both, State.modMeas_both]
  rfl

section
variable {w : Window} {y : Entry} {s : State} (hb : (s.meas.entries.filter fun e => decide (e.bound = some w.id)) = [y])
  (hi : (s.meas.entries.map Entry.index).Nodup)
include hb hi

/-- The one entry bound to the window is known by its index. -/
theorem bound_iff_index {e : Entry} (he : e ∈ s.meas.entries) : e.bound = some w.id ↔ e.index = y.index := by
  have hy : y ∈ s.meas.entries ∧ decide (y.bound = some w.id) = true := List.mem_filter.1 (hb ▸ List.mem_singleton_self y)
  constructor
  · intro h
    have mem : e ∈ [y] := hb ▸ List.mem_filter.2 ⟨he, decide_eq_true h⟩
    rw [List.mem_singleton.1 mem]
  · intro same
    rw [List.inj_on_of_nodup_map hi he hy.1 same]
    exact of_decide_eq_true hy.2

theorem State.freed_entries : (s.freed w.id).meas.entries =
    s.meas.entries.map fun e => if e.index = y.index then { e with bound := none } else e :=
  List.map_congr_left fun e he => by simp only [bound_iff_index hb hi he]

/-- Of a window that ended with a sample: it enters the entry, and the attempts open on the entry end. -/
theorem State.measWindowEnded_sample (hc : ∀ u ∈ s.cal.windows, u.id ≠ w.id)
    (ha : ∀ x, ∀ r ∈ (s.measOf x).rounds, ∀ a ∈ r.attempts, a.entry = y.index → a.ended = none →
      a.window = none ∨ a.window = some w.id) (l : Nat) : ∃ rs,
    s.measWindowEnded w (.done (.sample l)) = s.remeasured rs {
      entries := s.meas.entries.map fun e => if e.index = y.index then
        { e with bound := none, level := some (filtered e.level e.depth l), rounds := 0 } else e
      subs := {
        a := ((s.measOf .A).sampled y.index y.serving.a).forgets w.id
        b := ((s.measOf .B).sampled y.index y.serving.b).forgets w.id } } := by
  have hy : y ∈ s.meas.entries := (List.mem_filter.1 (hb ▸ List.mem_singleton_self y)).1
  have indices : ((s.freed w.id).meas.entries.map Entry.index).Nodup := by
    rw [State.freed_entries hb hi, List.map_map]
    refine List.map_congr_left (fun e _ => ?_) ▸ hi
    simp only [Function.comp_apply]
    split <;> rfl
  have entry : (s.freed w.id).entry y.index = some { y with bound := none } := by
    refine State.entry_eq_some indices (e := { y with bound := none }) ?_
    rw [State.freed_entries hb hi]
    exact List.mem_map.2 ⟨y, hy, if_pos rfl⟩
  have windows : ∀ x, ∀ v ∈ ((s.freed w.id).measOf x).windowsOn y.index, ∀ u ∈ (s.freed w.id).cal.windows, u.id ≠ v := by
    intro x v hv u hu
    obtain ⟨r, hr, hv⟩ := List.mem_flatMap.1 hv
    obtain ⟨a, hat, hv⟩ := List.mem_filterMap.1 hv
    split at hv
    next isOpen =>
      rcases ha x r hr a hat isOpen.1 isOpen.2 with h | h
      · rw [h] at hv; cases hv
      · rw [h] at hv; cases hv; exact hc u hu
    next => cases hv
  obtain ⟨rs, entered⟩ := State.sampleEntered_eq entry windows l
  have steps : s.measWindowOver w.id (.done (.sample l)) =
      (((s.freed w.id).sampleEntered y.index l none).modMeas .A fun m => m.forgets w.id).modMeas .B fun m => m.forgets w.id := by
    unfold State.measWindowOver
    simp only [hb]
    rfl
  refine ⟨rs ++ [.rounds .A] ++ [.rounds .B], ?_⟩
  unfold State.measWindowEnded
  rw [steps, entered, State.freed_entries hb hi, List.map_map]
  have entries : (s.meas.entries.map ((fun e => if e.index = y.index then e.sampled l else e) ∘
      fun e => if e.index = y.index then { e with bound := none } else e)) = s.meas.entries.map fun e =>
        if e.index = y.index then { e with bound := none, level := some (filtered e.level e.depth l), rounds := 0 } else e := by
    refine List.map_congr_left fun e _ => ?_
    by_cases same : e.index = y.index
    · simp [same, Entry.sampled]
    · simp [same]
  rw [entries]
  rfl

end

/-! ### The rounds, by the attempts that end -/

/-- A subscription's measurement state when a MEAS window has ended: the attempts for which it was the end, the serving attempts
if it was theirs, and the window itself. -/
def MeasSub.afterWindow (m : MeasSub) (w : WinId) (ends : SampleTry → Bool) (serves got : Bool) : MeasSub :=
  { m with
    rounds := m.rounds.map fun r => { r with
      attempts := r.attempts.map fun a => if ends a = true ∧ a.ended = none then { a with ended := some got } else a
      serving := if serves = true ∧ r.serving = none then some got else r.serving }
    dedWindows := m.dedWindows.filter fun v => decide (v ≠ w) }

theorem MeasSub.missed_forgets (m : MeasSub) (w : WinId) :
    (m.missed w).forgets w = m.afterWindow w (fun a => decide (a.window = some w)) false false := by
  simp [MeasSub.missed, MeasSub.forgets, MeasSub.afterWindow, Round.missed]

theorem MeasSub.sampled_forgets (m : MeasSub) (w : WinId) (i : Nat) (serves : Bool) :
    (m.sampled i serves).forgets w = m.afterWindow w (fun a => decide (a.entry = i)) serves true := by
  have round (r : Round) : (if serves = true then some (r.serving.getD true) else r.serving) =
      if serves = true ∧ r.serving = none then some true else r.serving := by
    cases serves
    · rfl
    · cases r.serving <;> rfl
  simp [MeasSub.sampled, MeasSub.forgets, MeasSub.afterWindow, Round.sampled, round]

end Sys2Proof.Machine
end

section
/-! SUPPORT. What an evaluation makes of an entry, the idle trigger and the report rule (R65, R73, R74, R77, R78), and the settlement. -/

namespace Sys2Proof.Machine

open Sys2Proof

/-! ### An entry after a round (R65, R73) -/

/-- R73 step 1: an entry after its trigger count, where it and the serving cell have a rank. -/
def State.countedFor (s : State) (x : Sub) (r : Round) (e : Entry) : Entry :=
  match s.servingRank x, e.rankFor x with
  | some k, some n =>
    if e.owner.get x = true ∧ ∃ a ∈ r.attempts, a.entry = e.index ∧ a.ended = some true then
      { e with trigger := e.trigger.set x (if k < n then min (e.trigger.get x + 1) (s.timeToTrigger x) else 0) }
    else e
  | _, _ => e

theorem State.countedFor_eq (s : State) (x : Sub) (r : Round) (e : Entry) :
    ((s.servingRank x).elim e fun k => e.counted x r k (s.timeToTrigger x)) = s.countedFor x r e := by
  have sampled : (e.owner.get x && r.attempts.any fun t => decide (t.entry = e.index) && t.got) = true ↔
      e.owner.get x = true ∧ ∃ a ∈ r.attempts, a.entry = e.index ∧ a.ended = some true := by simp [SampleTry.got]
  unfold State.countedFor
  cases s.servingRank x with
  | none => rfl
  | some k =>
    unfold Entry.counted
    cases e.rankFor x with
    | none => exact ite_self e
    | some n =>
      simp only [Option.elim_some, sampled]
      split
      · split <;> rfl
      · rfl

/-- Counting changes the trigger counts of an entry alone. -/
theorem State.countedFor_frame (s : State) (x : Sub) (r : Round) (e : Entry) :
    ∃ counts, s.countedFor x r e = { e with trigger := counts } := by
  unfold State.countedFor
  split
  · split <;> exact ⟨_, rfl⟩
  · exact ⟨_, rfl⟩

/-- R65: how the entry was tried in a round of a subscription: with a sample, without one, or not at all. -/
def Entry.tried (e : Entry) (x : Sub) (r : Round) : Option Bool :=
  if e.serving.get x = true then some (decide (r.serving = some true))
  else (r.attempts.find? fun a => decide (a.entry = e.index)).map fun a => decide (a.ended = some true)

theorem Entry.stale_eq (e : Entry) (x : Sub) (r : Round) : e.stale x r = (e.tried x r).elim e e.aged := by
  unfold Entry.stale Entry.tried
  split
  · rfl
  · cases r.attempts.find? fun t => decide (t.entry = e.index) <;> rfl

@[simp] theorem Entry.aged_false (e : Entry) : e.aged false =
    if 7 ≤ e.rounds then { e with rounds := 8, level := none, trigger := .both 0 } else { e with rounds := e.rounds + 1 } := by
  simp [Entry.aged]

theorem State.entryAfter_eq (s : State) (x : Sub) (r : Round) (e : Entry) : s.entryAfter x r e =
    match e.tried x r with
    | none => s.countedFor x r e
    | some true => { s.countedFor x r e with rounds := 0 }
    | some false =>
      if 7 ≤ e.rounds then { s.countedFor x r e with rounds := 8, level := none, trigger := .both 0 }
      else { s.countedFor x r e with rounds := e.rounds + 1 } := by
  obtain ⟨counts, h⟩ := s.countedFor_frame x r e
  have tried : (s.countedFor x r e).tried x r = e.tried x r := by rw [h]; rfl
  have rounds : (s.countedFor x r e).rounds = e.rounds := by rw [h]
  unfold State.entryAfter
  rw [State.countedFor_eq, Entry.stale_eq, tried]
  rcases e.tried x r with _ | _ | _
  · rfl
  · simp only [Option.elim_some, Entry.aged_false, rounds]
  · rfl

/-- Without a third floor strike the table after an evaluation is what the round leaves. -/
theorem State.evaluate_entries_of_camp {s : State} {x : Sub}
    (h : (s.measOf x).mode = .idle → (s.sub x).strikes < 2 ∨ (s.sub x).state ≠ .camped) (r : Round) :
    (s.evaluate x r).meas.entries = s.meas.entries.map (s.entryAfter x r) := by
  rw [State.evaluate_entries, State.afterRound_eq]
  unfold State.strikeIfIdle
  split
  next idle =>
    rcases State.floorStrike_cases (s.mapEntries (s.entryAfter x r)) x with hf | ⟨n, hf | ⟨third, hf⟩⟩ <;> rw [hf]
    · rfl
    · rfl
    · have off : (s.sub x).state ≠ .camped := (h idle).resolve_left (Nat.not_lt.2 third)
      have lost : ((s.mapEntries (s.entryAfter x r)).modSub x fun q => { q with strikes := n }).campLoss x =
          (s.mapEntries (s.entryAfter x r)).modSub x fun q => { q with strikes := n } := by
        unfold State.campLoss
        rw [if_pos]
        rw [State.modSub_sub]
        exact off
      rw [lost]
      rfl
  next => rfl

/-! ### The idle trigger (R74) -/

theorem State.idleTrigger_targeted {s : State} {x : Sub} (h : (s.sub x).target ≠ none) : s.idleTrigger x = s :=
  if_pos (Option.isSome_iff_ne_none.2 h)

theorem State.idleTrigger_untriggered {s : State} {x : Sub} (h : ranked x (s.meas.entries.filter (s.triggered x)) = []) :
    s.idleTrigger x = s := by
  unfold State.idleTrigger
  rw [h]
  exact ite_self s

/-- The entry of highest rank becomes the target, and its acquisition takes its place in an empty calendar. -/
theorem State.idleTrigger_eq {s : State} {x : Sub} (ht : (s.sub x).target = none) {e : Entry} {n : Int} {rest : List (Entry × Int)}
    (h : ranked x (s.meas.entries.filter (s.triggered x)) = (e, n) :: rest) (hw : s.cal.windows = []) (hq : s.cal.quiet = false) :
    s.idleTrigger x = { s with
      subs := s.subs.set x { s.sub x with target := some e.index }
      meas := { s.meas with subs := s.meas.subs.set x { s.measOf x with resel := .acquiring s.cal.counter false } }
      cal := { s.cal with
        counter := s.cal.counter + 1
        windows := [{
          id := s.cal.counter, owner := .sub x, reporter := .measurement, purpose := .beaconRx, cls := .beacon
          channel := e.cell.channel, start := s.now + 3, len := 10, requested := s.now + 3, slack := none, block := none
          state := .planned, withdrawn := false }] } } := by
  have near : (slotAdd s.now 3 - s.now).toNat = 3 := by unfold slotAdd; bv_omega
  have inserted := State.insert_empty (s := s.modSub x fun r => { r with target := some e.index })
    (i := { owner := .sub x, reporter := .measurement, purpose := .beaconRx, channel := e.cell.channel, start := slotAdd s.now 3,
            len := 10, slack := none, block := none }) hw hq (by rw [State.modSub_now, near]) (by rw [State.modSub_now, near]; decide)
  unfold State.idleTrigger
  rw [if_neg (by simp [ht]), h]
  simp only [State.modSub_now, inserted]
  rfl

/-! ### The report rule (R77, R78) -/

/-- The state in which a subscription counts its evaluations anew. -/
def State.recounted (s : State) (x : Sub) (since : Option Nat) (passed : Nat) : State := { s with
  meas := { s.meas with subs := s.meas.subs.set x { s.measOf x with sinceReport := since, evaluations := passed } } }

theorem State.recounted_none (s : State) (x : Sub) (since : Option Nat) (passed : Nat) :
    ((s.recounted x since passed).modMeas x fun m => { m with sinceReport := none }) = s.recounted x none passed := by
  simp only [State.modMeas, State.recounted, Two.set_set, Two.get_set_same]

theorem State.recounted_reported (s : State) (x : Sub) (since : Option Nat) (passed : Nat) :
    ((s.recounted x since passed).modMeas x fun m => { m with sinceReport := some 0, evaluations := 0 }) =
      s.recounted x (some 0) 0 := by
  simp only [State.modMeas, State.recounted, Two.set_set, Two.get_set_same]

section
variable {s : State} {x : Sub} {fresh : Bool}

/-- The report of a serving level and the triggered entries. -/
def reportOf (l : Nat) (es : List (Entry × Int)) : UpMsg :=
  .measReport l ((es.take 3).map fun p => { cell := p.1.cell, level := (p.1.reported).getD 0 })

theorem State.reportRule_none (h : ranked x (s.meas.entries.filter (s.triggered x)) = []) :
    s.reportRule x fresh = s.recounted x none (min ((s.measOf x).evaluations + 1) 8) := by
  unfold State.reportRule
  dsimp only
  rw [if_pos h]
  exact s.recounted_none x _ _

theorem State.reportRule_waits (h : ranked x (s.meas.entries.filter (s.triggered x)) ≠ []) (hf : fresh = false)
    (he : (s.measOf x).evaluations < 7) : s.reportRule x fresh =
      s.recounted x ((s.measOf x).sinceReport.map fun n => min (n + 1) 8) ((s.measOf x).evaluations + 1) := by
  have passed : min ((s.measOf x).evaluations + 1) 8 = (s.measOf x).evaluations + 1 := by omega
  unfold State.reportRule
  dsimp only
  rw [if_neg h, passed, if_neg (by rw [hf]; simp; omega)]
  rfl

theorem State.reportRule_reports {l : Nat} (hl : s.servingLevel x = some l)
    (h : ranked x (s.meas.entries.filter (s.triggered x)) ≠ []) (hd : fresh = true ∨ 7 ≤ (s.measOf x).evaluations) :
    s.reportRule x fresh =
      (s.recounted x (some 0) 0).offerReport (reportOf l (ranked x (s.meas.entries.filter (s.triggered x)))) := by
  unfold State.reportRule
  dsimp only
  rw [if_neg h, if_pos (hd.imp id fun _ => by omega), hl]
  exact congrArg (fun t : State => t.offerReport _) (s.recounted_reported x _ _)

theorem State.offerReport_first (h : ∀ q ∈ s.ctx.waiting, q.msg.isReport = false) (m : UpMsg) :
    s.offerReport m = s.offer m := if_neg (by simpa using h)

theorem State.offerReport_again (h : ∃ q ∈ s.ctx.waiting, q.msg.isReport = true) (m : UpMsg) : s.offerReport m = { s with
    ctx := { s.ctx with waiting := s.ctx.waiting.map fun q => if q.msg.isReport then { q with msg := m } else q } } :=
  if_pos (List.any_eq_true.2 h)

end

/-! ### The settlement -/

/-- Settles O60: the filter, the ranking, the beacon list, the end of a MEAS window, the evaluation, the idle trigger and the report
rule, each by the lemma about its operation. -/
theorem theFilterMovesTowardsTheSample : Obligations.TheFilterMovesTowardsTheSample := by
  refine ⟨?filter, ?ranking, ?list, ?window, ?evaluation, ?trigger, ?report⟩
  case filter =>
    intro k sample hs
    refine ⟨rfl, fun f hf => ?_⟩
    intro d step
    have gap : d = 16 * (sample : Int) - f := rfl
    have moved : step = filterStep d k := sub_eq_of_eq_add' (filtered_some f k sample)
    have level : (filtered (some f) k sample : Int) = f + step := (add_sub_cancel _ _).symm
    have size : step.natAbs = stepSize d.natAbs k := moved ▸ filterStep_natAbs d k
    have between : (0 ≤ step ∧ step ≤ d) ∨ (d ≤ step ∧ step ≤ 0) := moved ▸ filterStep_between d k
    refine ⟨⟨?_, ?_, ?_⟩, fun hk => ?_, fun hk => ?_, ?_⟩
    · exact size ▸ (stepSize_nearest d.natAbs k).1
    · exact size ▸ (stepSize_nearest d.natAbs k).2
    · rcases between with ⟨up, far⟩ | ⟨far, down⟩
      · exact mul_nonneg up (up.trans far)
      · exact mul_nonneg_of_nonpos_of_nonpos down (far.trans down)
    · rw [hk, stepSize_zero] at size
      omega
    · exact size ▸ stepSize_half d.natAbs hk
    · unfold reportedLevel
      omega
  case ranking =>
    intro x es
    refine ⟨ranked_ordered x es, fun e n => ?_⟩
    rw [mem_ranked, rankFor_eq_some_iff]
  case list =>
    intro x serving list s ⟨_, indices, _⟩
    exact (State.applyList_listed indices x serving list).entries
  case window =>
    intro w y s hr hp hb hi hc ha
    dsimp only
    refine ⟨fun l => ?_, fun e he => ?_⟩
    · obtain ⟨rs, h⟩ := State.measWindowEnded_sample hb hi hc ha l
      rw [State.handOver_meas hr hp, h, MeasSub.sampled_forgets, MeasSub.sampled_forgets]
      rfl
    · obtain ⟨rs, h⟩ := s.measWindowEnded_missed w he
      rw [State.handOver_meas hr hp, h, MeasSub.missed_forgets, MeasSub.missed_forgets, State.freed_entries hb hi]
      rfl
  case evaluation =>
    intro x r s h
    rw [State.evaluate_entries_of_camp h]
    exact List.map_congr_left fun e _ => s.entryAfter_eq x r e
  case trigger =>
    intro x s
    refine ⟨State.idleTrigger_targeted, fun ht => ⟨fun h => ?_, fun e n he htr hn best hw hq => ?_⟩⟩
    · refine State.idleTrigger_untriggered (ranked_eq_nil fun e he => ?_)
      obtain ⟨mem, triggered⟩ := List.mem_filter.1 he
      exact h e mem triggered
    · obtain ⟨rest, first⟩ := ranked_eq_cons (List.mem_filter.2 ⟨he, htr⟩) hn fun f hf m hm other => by
        obtain ⟨mem, triggered⟩ := List.mem_filter.1 hf
        exact best f mem m triggered hm other
      exact State.idleTrigger_eq ht first hw hq
  case report =>
    intro x fresh l s hl
    refine ⟨State.reportRule_none, State.reportRule_waits, fun h hd => ⟨fun first => ?_, fun again => ?_⟩⟩
    · rw [State.reportRule_reports hl h hd, State.offerReport_first (s := s.recounted x (some 0) 0) first]
      rfl
    · rw [State.reportRule_reports hl h hd, State.offerReport_again (s := s.recounted x (some 0) 0) again]
      rfl

end Sys2Proof.Machine
end

section
/-! SUPPORT. CALL_DIAL's checks (R83), in the order of the table. -/

namespace Sys2Proof.Machine

open Sys2Proof

/-! ### The checks (R83) -/

theorem State.mayDial_iff (s : State) (x : Sub) : s.mayDial x = true ↔
    ((s.sub x).state = .camped ∨ (s.sub x).state = .engaged) ∧ (s.sub x).detaching = none := by
  simp [State.mayDial, State.leaving]

theorem State.dialAllowed_iff (s : State) (i : CallId) : s.dialAllowed i = true ↔
    (s.call i.other).state = .free ∨ (s.call i.other).state = .blocked := decide_eq_true_iff

section
variable {s : State} {tag sub : Byte} {number : Digits} (ha : s.accepts tag (.callDial sub number))
include ha

/-- R83: a dial of values in range that the subscription's state allows, and for which a record is available. -/
theorem exec_callDial {x : Sub} {i : CallId} (hx : subOf sub = some x) (hn : digitsInRange number = true)
    (hd : s.mayDial x = true) (hi : s.freeRecord = some i) : exec (.callDial tag sub number) s =
      if s.dialAllowed i then settle ((s.replied tag 0x20 .done (.callId i)).dial i x number)
      else settle (s.replied tag 0x20 .busy .none) := by
  have may : (s.reserveHead tag 0x20).mayDial x = true := hd
  have record : (s.reserveHead tag 0x20).freeRecord = some i := hi
  unfold exec execCallDial
  refine (dispatched_accepts ha _).trans ?_
  have code : requestCode (.callDial sub number) = 0x20 := rfl
  simp only [code, hx, hn, may, record, if_true, ← State.reserveHead_answer s tag 0x20]
  exact apply_ite settle _ _ _

/-- R83: a dial that one of the first three checks refuses. -/
theorem exec_callDial_refused (hq : s.quiet) {st : Status}
    (h : (subOf sub = none ∨ digitsInRange number = false) ∧ st = .badValue ∨
      ∃ x, subOf sub = some x ∧ digitsInRange number = true ∧
        (s.mayDial x = false ∧ st = .wrongState ∨ s.mayDial x = true ∧ s.freeRecord = none ∧ st = .noRoom)) :
    exec (.callDial tag sub number) s = .next (s.replied tag 0x20 st .none) := by
  have subs (x : Sub) : (s.reserveHead tag 0x20).mayDial x = s.mayDial x := rfl
  have record : (s.reserveHead tag 0x20).freeRecord = s.freeRecord := rfl
  have code : requestCode (.callDial sub number) = 0x20 := rfl
  unfold exec execCallDial
  refine dispatched_replied ha hq _ st _ ?_
  rw [code]
  rcases h with ⟨hx | hn, rfl⟩ | ⟨x, hx, hn, ⟨hd, rfl⟩ | ⟨hd, hi, rfl⟩⟩
  · simp only [hx]; rfl
  · cases hx : subOf sub with
    | none => rfl
    | some x => simp only [hn]; rfl
  · simp only [hx, hn, subs, hd]; rfl
  · simp only [hx, hn, subs, hd, record, hi]; rfl

end

/-- Settles O42: one check of the table after another. -/
theorem aDialIsCheckedInOrder : Obligations.ADialIsCheckedInOrder := by
  intro tag sub number s ha hq good
  have inRange : good ↔ subOf sub ≠ none ∧ digitsInRange number = true := by rw [digitsInRange_iff]
  refine ⟨fun bad => ?_, fun hgood x hx => ⟨fun hd => ?_, fun hs hd => ⟨fun hi => ?_, fun i hi hfree hblocked => ?_⟩⟩⟩
  · rw [inRange, not_and_or, not_not, Bool.not_eq_true] at bad
    exact exec_callDial_refused ha hq (.inl ⟨bad, rfl⟩)
  · have refused : s.mayDial x = false := by
      rw [← Bool.not_eq_true, State.mayDial_iff]
      rintro ⟨hs, hn⟩
      rcases hd with ⟨hc, he⟩ | hd
      · exact hs.elim hc he
      · exact hd hn
    exact exec_callDial_refused ha hq (.inr ⟨x, hx, (inRange.1 hgood).2, .inl ⟨refused, rfl⟩⟩)
  · exact exec_callDial_refused ha hq
      (.inr ⟨x, hx, (inRange.1 hgood).2, .inr ⟨(s.mayDial_iff x).2 ⟨hs, hd⟩, hi, rfl⟩⟩)
  · rw [exec_callDial ha hx (inRange.1 hgood).2 ((s.mayDial_iff x).2 ⟨hs, hd⟩) hi,
      if_neg fun h => ((s.dialAllowed_iff i).1 h).elim hfree hblocked]
    exact settle_quiet hq

end Sys2Proof.Machine
end

section
/-! SUPPORT. Changes of a call record as one normal form (R81, R82, R102), and what becomes of a CALL purpose that is asked for
(R34, R35, R85). -/

namespace Sys2Proof.Machine

open Sys2Proof

/-! ### Postings (R183) -/

/-- A second posting of a kind and key adds its flags to those of the first. -/
theorem postIn_merge {a b : Snapshot} (h : a.key = b.key) (f g : BitVec 16) (ns : List Notice) :
    postIn b g (postIn a f ns) = postIn b (f ||| g) ns := by
  induction ns with
  | nil => simp [postIn, h]
  | cons n ns ih =>
    by_cases hn : n.snapshot.key = a.key
    · simp [postIn, h, h ▸ hn, BitVec.or_assoc]
    · simp [postIn, hn, h ▸ hn, ih]

/-- A snapshot that replaces one already in the outbox does so before or after another kind and key is posted. -/
theorem postIn_comm {b c : Snapshot} (h : b.key ≠ c.key) (f g : BitVec 16) {ns : List Notice}
    (hc : ∃ n ∈ ns, n.snapshot.key = c.key) : postIn c g (postIn b f ns) = postIn b f (postIn c g ns) := by
  induction ns with
  | nil => simp at hc
  | cons n ns ih =>
    by_cases hb : n.snapshot.key = b.key
    · simp [postIn, hb, h]
    · by_cases hn : n.snapshot.key = c.key
      · simp [postIn, hn, Ne.symm h]
      · simp only [postIn, hb, hn, if_false]
        rw [ih (by simpa [hn] using hc)]

/-! ### A record changed, with its notice -/

/-- The snapshot of a record (R102). -/
def CallRec.snapshot (r : CallRec) (i : CallId) : Snapshot :=
  .call i (r.sub.getD .A) (r.direction.getD .out) r.state r.number r.cause r.answered r.moving

theorem State.callSnapshot_eq (s : State) (i : CallId) : s.callSnapshot i = (s.call i).snapshot i := rfl

theorem State.callTold_eq (s : State) (i : CallId) (r : CallRec) (f : BitVec 16) : s.callTold i r f = { s with
    calls := (s.setCall i r).calls
    link := { s.link with outbox := postIn (r.snapshot i) f s.link.outbox } } := by cases i <;> rfl

@[simp] theorem State.callTold_reports (s : State) (i : CallId) (r : CallRec) (f : BitVec 16) :
    (s.callTold i r f).reports = s.reports := rfl

@[simp] theorem State.callTold_subs (s : State) (i : CallId) (r : CallRec) (f : BitVec 16) :
    (s.callTold i r f).subs = s.subs := rfl

@[simp] theorem State.callTold_engaged (s : State) (i : CallId) (r : CallRec) (f : BitVec 16) :
    (s.callTold i r f).engaged = s.engaged := rfl

@[simp] theorem State.callTold_call (s : State) (i : CallId) (r : CallRec) (f : BitVec 16) : (s.callTold i r f).call i = r := by
  cases i <;> rfl

@[simp] theorem State.callTold_call_other (s : State) (i : CallId) (r : CallRec) (f : BitVec 16) :
    (s.callTold i r f).call i.other = s.call i.other := by cases i <;> rfl

/-- Two changes of one record, told one after the other, are the second told with the flags of both. -/
theorem State.callTold_callTold (s : State) (i : CallId) (r q : CallRec) (f g : BitVec 16) :
    (s.callTold i r f).callTold i q g = s.callTold i q (f ||| g) := by
  let t : State := { s with calls := (s.setCall i q).calls }
  let u : State := { s with calls := (s.setCall i r).calls }
  have merged : postIn (t.callSnapshot i) g (postIn (u.callSnapshot i) f s.link.outbox) =
      postIn (t.callSnapshot i) (f ||| g) s.link.outbox := postIn_merge (a := u.callSnapshot i) (b := t.callSnapshot i) rfl f g _
  have told : s.callTold i q (f ||| g) = { t with link := { s.link with
      outbox := postIn (t.callSnapshot i) g (postIn (u.callSnapshot i) f s.link.outbox) } } := by
    rw [merged]
    rfl
  rw [told]
  cases i <;> rfl

/-- The state with its voice port stopped when a record was CONNECTED. -/
def State.hungUp (s : State) (i : CallId) : State :=
  { s with voice := if (s.call i).state = .connected then s.voice.stop else s.voice }

theorem State.hungUp_self {s : State} {i : CallId} (h : (s.call i).state ≠ .connected) : s.hungUp i = s := by
  rw [State.hungUp, if_neg h]

/-- The record of a call that is FREE with a cause. -/
def CallRec.freed (r : CallRec) (c : CallCause) : CallRec :=
  { r with state := .free, cause := some c, moving := false, ringWaits := false, timer := none }

/-- The record of a call that is CLEARING with a cause. -/
def CallRec.clearing (r : CallRec) (now : Slot) (c : CallCause) : CallRec :=
  { r with state := .clearing, cause := some c, ringWaits := false, timer := some (slotAdd now 4000) }

/-- R81, R82: a record that was not CONNECTED enters a state. -/
theorem State.enterCall_told {s : State} {i : CallId} (h : (s.call i).state ≠ .connected) (st : CallState) (f : BitVec 16) :
    s.enterCall i st f =
      s.callTold i { s.call i with state := st, timer := st.timer.map fun d => slotAdd s.now d } (1 ||| f) := by
  rw [State.enterCall_eq, if_neg fun hc => h hc.1]
  rfl

/-- R81, R82, R120: a record enters a state other than CONNECTED. -/
theorem State.enterCall_hungUp {st : CallState} (hst : st ≠ .connected) (s : State) (i : CallId) (f : BitVec 16) :
    s.enterCall i st f = (s.hungUp i).callTold i
      { s.call i with state := st, timer := st.timer.map fun d => slotAdd s.now d } (1 ||| f) := by
  rw [State.enterCall_eq, State.hungUp]
  by_cases h : (s.call i).state = .connected
  · rw [if_pos ⟨h, hst⟩, if_pos h]
    cases i <;> rfl
  · rw [if_neg fun hc => h hc.1, if_neg h]
    cases i <;> rfl

theorem State.freeCall_eq (s : State) (i : CallId) (c : CallCause) :
    s.freeCall i c = (s.hungUp i).callTold i ((s.call i).freed c) 1 := by
  rw [State.freeCall, State.enterCall_hungUp (by decide)]
  cases i <;> rfl

theorem State.clearCall_eq (s : State) (i : CallId) (c : CallCause) :
    s.clearCall i c = (s.hungUp i).callTold i ((s.call i).clearing s.now c) 1 := by
  rw [State.clearCall, State.enterCall_hungUp (by decide)]
  cases i <;> rfl

/-- R82: a record is taken. -/
theorem State.takeRecord_eq (s : State) (i : CallId) (x : Sub) (d : Direction) (number : Option Digits) (st : CallState) :
    s.takeRecord i x d number st = s.callTold i
      { sub := some x, direction := some d, state := st, number := number, cause := none, answered := false, arrived := false
        moving := false, ringWaits := false, timer := st.timer.map fun d => slotAdd s.now d } 1 := by
  unfold State.takeRecord
  dsimp only
  rw [State.enterCall_told (by rw [State.call_setCall]; simp)]
  cases i <;> rfl

/-- What a change of the records leaves of the dedicated context unit. -/
@[simp] theorem State.callTold_connection (s : State) (i : CallId) (r : CallRec) (f : BitVec 16) (x : Sub) :
    (s.callTold i r f).connection x = s.connection x := rfl

/-! ### The call of a connection (5.1) -/

theorem State.callOf_eq_some {s : State} {x : Sub} {i : CallId} (h : s.callOf x = some i) :
    (s.call i).sub = some x ∧ (s.call i).state ≠ .free ∧ (s.call i).state ≠ .blocked := by
  unfold State.callOf at h
  dsimp only at h
  split at h
  next h1 => cases h; exact of_decide_eq_true h1
  next =>
    split at h
    next h2 => cases h; exact of_decide_eq_true h2
    next => cases h

/-- A record in use that is not BLOCKED is the call, when the other record is FREE or BLOCKED. -/
theorem State.callOf_of_other {s : State} {x : Sub} {i : CallId} (hx : (s.call i).sub = some x) (hf : (s.call i).state ≠ .free)
    (hb : (s.call i).state ≠ .blocked) (ho : (s.call i.other).state = .free ∨ (s.call i.other).state = .blocked) :
    s.callOf x = some i := by
  unfold State.callOf
  have is : decide ((s.call i).sub = some x ∧ (s.call i).state ≠ .free ∧ (s.call i).state ≠ .blocked) = true :=
    decide_eq_true ⟨hx, hf, hb⟩
  have other : decide ((s.call i.other).sub = some x ∧ (s.call i.other).state ≠ .free ∧
      (s.call i.other).state ≠ .blocked) = false := by
    rcases ho with ho | ho <;> simp [ho]
  cases i
  · simp only [is, if_true]
  · simp only [show CallId.other .two = .one from rfl] at other
    simp only [is, other, if_true]
    rfl

/-! ### A CALL purpose asked for (R34) -/

theorem addAll_singleton (p : Purpose) (ps : List Purpose) : addAll [p] ps = withPurpose p ps := by
  simp [addAll, addOnce, withPurpose]

/-- R34: a purpose joins the engagement queue. -/
theorem State.joinQueue_eq (s : State) (x : Sub) (p : Purpose) (page : Bool) : s.joinQueue x [p] page = s.queuedFor x p page := by
  unfold State.joinQueue State.queuedFor queueWith
  by_cases h : ∃ q ∈ s.engQueue, q.sub = x
  · rw [if_pos (by simpa using h), if_pos h, if_pos h]
    simp only [addAll_singleton]
  · rw [if_neg (by simpa using h), if_neg h, if_neg h]
    rfl

section
variable {s : State} {x : Sub} {p : Purpose} {page : Bool} (hl : (s.sub x).detaching = none)
include hl

theorem State.ask_attempt {a : Attempt} (hs : (s.sub x).state = .engaged)
    (he : s.engaged = some { sub := x, stage := .attempt a }) :
    s.ask x [p] page = (.attempt, { s with
      engaged := some { sub := x, stage := .attempt { a with purposes := withPurpose p a.purposes } } }) := by
  simp [State.ask, State.leaving, hl, hs, he, State.setStage, addAll_singleton]

theorem State.ask_connected {c : Context} (hs : (s.sub x).state = .engaged)
    (he : s.engaged = some { sub := x, stage := .connected }) (hc : s.connection x = some c) :
    s.ask x [p] page = if s.doneGone = true then (.later, s) else (.connection, s.joinedBy c p) := by
  have joined : (s.modPurposes x (addAll [p])).removeMsgs UpMsg.isDone = s.joinedBy c p := by
    rw [State.modPurposes_eq hc, addAll_singleton]
    rfl
  simp [State.ask, State.leaving, hl, hs, he, joined]

/-- R34: while the radio is held, and in a confirming read, a purpose waits in the queue. -/
theorem State.ask_waits (h : ((s.sub x).state = .camped ∧ s.engaged ≠ none) ∨
    ((s.sub x).state = .engaged ∧ s.confirms x = true)) : s.ask x [p] page = (.queued, s.queuedFor x p page) := by
  rw [← State.joinQueue_eq]
  rcases h with ⟨hs, he⟩ | ⟨hs, hr⟩
  · obtain ⟨e, he⟩ := Option.ne_none_iff_exists'.1 he
    have held : (s.joinQueue x [p] page).engaged = some e := by
      rw [State.joinQueue_eq]
      exact he
    simp [State.ask, State.leaving, hl, hs, State.grantIfFree, held]
  · obtain ⟨w, f, he⟩ := State.confirms_iff.1 hr
    exact State.ask_confirming (by simp [State.leaving, hl]) hs he _ _

end

/-- R34: a CALL purpose is refused of a subscription that is detaching, is SEARCHING or has no service. -/
theorem State.ask_refused {s : State} {x : Sub} (h : (s.sub x).detaching ≠ none ∨ (s.sub x).state = .searching ∨
    (s.sub x).state = .noService) (page : Bool) : s.ask x [.call] page = (.refused, s) := by
  by_cases hl : (s.sub x).detaching = none
  · rcases h.resolve_left (not_not_intro hl) with hs | hs <;> simp [State.ask, State.leaving, hl, hs]
  · simp [State.ask, State.leaving, Option.isSome_iff_ne_none, hl]

/-! ### The grant of the radio for a call (R35, R85) -/

/-- R85: when the CALL purpose is granted a DIALLING record enters REQUESTING, and any other stands. -/
theorem State.dialGranted_eq {s : State} {x : Sub} {i : CallId} (hi : s.callOf x = some i) : s.dialGranted x [.call] =
    if (s.call i).state = .dialling then s.callTold i { s.call i with state := .requesting, timer := none } 1 else s := by
  have contains : ([Purpose.call] : List Purpose).contains .call = true := rfl
  simp only [State.dialGranted, contains, if_true, hi]
  split
  next h => exact State.enterCall_told (by simp [h]) _ _
  next => rfl

/-- R35: the state in which a subscription that stood by has become ENGAGED, with its SUB notice, and no attempt is open yet. -/
def State.campEngaged (s : State) (x : Sub) : State :=
  ({ s with
    subs := s.subs.set x { s.sub x with state := .engaged, page := none, refresh := none, target := none }
    cal := { s.cal with windows := [] }
    meas := s.unmeasured x } : State).posting x s.link

/-- R9, R35: the radio granted for CALL to a subscription that stands by; its call is told of it as `State.dialGranted` says. -/
theorem State.standsBy.grant_call {s : State} {x : Sub} {k : CampedCell} (h : s.standsBy x k) (n : Nat) (page : Bool)
    {f : FrameNo} {start : Slot} (hf : nextFrame k.anchor s.now 3 8 1 0 = (f, start)) {cs : Calls} {l : Link}
    (hd : (s.campEngaged x).dialGranted x [.call] = { s.campEngaged x with calls := cs, link := l }) :
    s.grant { sub := x, purposes := [.call], pageReply := page, moment := n } =
      { s.attempting x k .call (burstFor page [.call]) start f with
        engQueue := s.engQueue, moments := s.moments, calls := cs, link := l } := by
  obtain ⟨near, far, -, -⟩ : burstSlot k.anchor s.now start f := by simpa only [hf] using burstSlot_nextFrame h.past
  let a : Attempt :=
    { purposes := [.call], pageReply := page, burst := burstFor page [.call], reference := Config.reference s.draws, placed := 0
      tx := none, watches := [] }
  let w : State := { s.campEngaged x with
    calls := cs, link := l, draws := s.draws + 1, engaged := some { sub := x, stage := .attempt a } }
  have camped : (w.sub x).camped = some k := (congrArg SubRec.camped (Two.get_set_same _ _ _)).trans h.camped
  have engaged : ((((((s.adoptCandidate x).dropPaging x).endResel x).setMode x .none).modSub x fun r =>
      { r with state := .engaged }).postSub x 1) = s.campEngaged x := by
    rw [h.unpaged]
    simp only [State.modSub, Two.set_set, Two.get_set_same]
    rfl
  have steps : s.grant { sub := x, purposes := [.call], pageReply := page, moment := n } = w.insertBurst x a f start := by
    have flags : (SubFlag.state ||| if (s.sub x).state = .searching then SubFlag.cell else 0) = 1 := by rw [h.state]; rfl
    have text : ¬(page = true ∧ ([Purpose.call] : List Purpose).contains .text = true) := by simp
    unfold State.grant
    dsimp only
    rw [flags, engaged, if_neg text, hd]
    change (match (w.sub x).camped with
      | some c => w.insertBurst x a (nextFrame c.anchor s.now 3 8 1 0).1 (nextFrame c.anchor s.now 3 8 1 0).2
      | none => w) = _
    rw [camped]
    dsimp only
    rw [hf]
  rw [steps, State.insertBurst_empty camped rfl rfl h.silenceOver a f near far]
  cases page <;> rfl

/-- R34, R35: CALL asked for a subscription that stands by while the radio is free and no request waits is granted at once. -/
theorem State.standsBy.ask_call {s : State} {x : Sub} {k : CampedCell} (h : s.standsBy x k) (hl : (s.sub x).detaching = none)
    (he : s.engaged = none) (hq : s.engQueue = []) (page : Bool) {f : FrameNo} {start : Slot}
    (hf : nextFrame k.anchor s.now 3 8 1 0 = (f, start)) {cs : Calls} {l : Link}
    (hd : (({ s with engQueue := [], moments := s.moments + 1 } : State).campEngaged x).dialGranted x [.call] =
      { ({ s with engQueue := [], moments := s.moments + 1 } : State).campEngaged x with calls := cs, link := l }) :
    s.ask x [.call] page = (.queued,
      { s.attempting x k .call (burstFor page [.call]) start f with calls := cs, link := l }) := by
  have asked : s.joinQueue x [.call] page = { s with
      engQueue := [{ sub := x, purposes := [.call], pageReply := page, moment := s.moments }], moments := s.moments + 1 } := by
    rw [State.joinQueue_eq, State.queuedFor, queueWith, hq]
    simp
  have stands : ({ s with engQueue := [], moments := s.moments + 1 } : State).standsBy x k := { h with }
  have granted : (s.joinQueue x [.call] page).grantIfFree =
      { s.attempting x k .call (burstFor page [.call]) start f with calls := cs, link := l } := by
    rw [asked]
    refine (State.grantIfFree_only (s := { s with engQueue := [_], moments := s.moments + 1 }) he rfl).trans ?_
    exact (stands.grant_call s.moments page hf hd).trans rfl
  simp only [State.ask, State.leaving, hl, h.state, granted]
  simp

end Sys2Proof.Machine
end

section
/-! SUPPORT. An accepted CALL_DIAL (R82, R84, R85, R117): the record it takes, and what becomes of its CALL purpose. -/

namespace Sys2Proof.Machine

open Sys2Proof

/-- The record of a call that a dial has taken, in a state without a timer (R82). -/
def CallRec.outgoing (x : Sub) (number : Digits) (st : CallState) : CallRec :=
  { sub := some x, direction := some .out, state := st, number := some number, cause := none, answered := false, arrived := false
    moving := false, ringWaits := false, timer := none }

/-- R82, R84: an accepted dial takes its record. -/
theorem State.takeRecord_outgoing (s : State) (i : CallId) (x : Sub) (number : Digits) :
    s.takeRecord i x .out (some number) .dialling = s.callTold i (.outgoing x number .dialling) 1 := State.takeRecord_eq ..

/-- R84: what a dial does by what became of its CALL purpose. -/
def State.dialAsked (s : State) (i : CallId) (x : Sub) : Asked → State
  | .attempt => s.enterCall i .requesting 0
  | .connection => if s.registering x then s else s.offerDial i
  | _ => s

/-- R84: outside a handover of its connection a dial asks for the purpose CALL. -/
theorem State.dial_asks {s v : State} {i : CallId} {x : Sub} {number : Digits} {a : Asked}
    (hm : s.ctx.handover = .none ∨ s.connection x = none)
    (ha : (s.callTold i (.outgoing x number .dialling) 1).ask x [.call] false = (a, v)) :
    s.dial i x number = v.dialAsked i x a := by
  have still : ¬(((s.callTold i (.outgoing x number .dialling) 1).inHandover &&
      ((s.callTold i (.outgoing x number .dialling) 1).connection x).isSome) = true) := by
    rw [State.callTold_connection]
    rcases hm with hm | hm
    · simp [State.inHandover, State.callTold, hm]
    · simp [hm]
  unfold State.dial
  simp only [State.takeRecord_outgoing]
  refine (if_neg still).trans ?_
  rw [ha]
  cases a <;> rfl

/-- R117: in a handover of its connection a dial joins the connection and is offered. -/
theorem State.dial_moving {s : State} {i : CallId} {x : Sub} {number : Digits} {c : Context} (hm : s.ctx.handover ≠ .none)
    (hc : s.connection x = some c) :
    s.dial i x number = ((s.callTold i (.outgoing x number .dialling) 1).joinedBy c .call).offerDial i := by
  have connected : (s.callTold i (.outgoing x number .dialling) 1).connection x = some c := hc
  have moving : ((s.callTold i (.outgoing x number .dialling) 1).inHandover &&
      ((s.callTold i (.outgoing x number .dialling) 1).connection x).isSome) = true := by
    rw [connected]
    simp [State.inHandover, State.callTold, hm]
  have once : addOnce .call c.purposes = withPurpose .call c.purposes := by simp [addOnce, withPurpose]
  unfold State.dial
  simp only [State.takeRecord_outgoing]
  refine (if_pos moving).trans ?_
  unfold State.dialMoving
  rw [State.modPurposes_eq connected, once]
  rfl

/-- R84, R86: DIAL offered for a record that a dial has taken: it is OFFERING, with its timer. -/
theorem State.offerDial_outgoing (s : State) (i : CallId) (x : Sub) (number : Digits) (u : CtxUnit) :
    ({ s.callTold i (.outgoing x number .dialling) 1 with ctx := u } : State).offerDial i =
      { s.callTold i { CallRec.outgoing x number .offering with timer := some (slotAdd s.now 60000) } 1 with
        ctx := (({ s with ctx := u } : State).offer (.dial number)).ctx } := by
  let offered := ({ s with ctx := u } : State).offer (.dial number)
  have call : (offered.callTold i (.outgoing x number .dialling) 1).call i = .outgoing x number .dialling :=
    State.callTold_call ..
  have steps : ({ s.callTold i (.outgoing x number .dialling) 1 with ctx := u } : State).offerDial i =
      (offered.callTold i (.outgoing x number .dialling) 1).enterCall i .offering 0 := by cases i <;> rfl
  rw [steps, State.enterCall_told (by rw [call]; simp [CallRec.outgoing]), call, State.callTold_callTold]
  cases i <;> rfl

/-- A purpose that has joined a connection is told of the registration on it as before. -/
theorem State.joinedBy_registering {s : State} {x : Sub} {c : Context} (hc : s.connection x = some c) :
    (s.joinedBy c .call).registering x = decide (Purpose.register ∈ c.purposes) := by
  have joined : (s.joinedBy c .call).connection x = some { c with purposes := withPurpose .call c.purposes } := by
    obtain ⟨-, rfl⟩ := State.connection_eq_some.1 hc
    exact s.withActive_connection { c with purposes := withPurpose .call c.purposes }
  rw [State.registering_eq joined]
  refine decide_eq_decide.2 ?_
  by_cases h : Purpose.call ∈ c.purposes <;> simp [withPurpose, h]

/-- R34, law: a subscription with a connection or an attempt is ENGAGED, and none other has a connection. -/
theorem State.engagedLegal.engaged {s : State} (h : s.engagedLegal) {x : Sub} {st : Stage}
    (he : s.engaged = some { sub := x, stage := st }) : (s.sub x).state = .engaged := (h.1 x).2 ⟨_, he, rfl⟩

theorem State.engagedLegal.unconnected {s : State} (h : s.engagedLegal) {x : Sub}
    (he : s.engaged ≠ some { sub := x, stage := .connected }) : s.connection x = none := by
  obtain ⟨-, -, active⟩ := h
  by_contra hn
  obtain ⟨c, hc⟩ := Option.ne_none_iff_exists'.1 hn
  obtain ⟨ha, rfl⟩ := State.connection_eq_some.1 hc
  exact he (active c ha)

/-- A CAMPED subscription that no other waits for, with its paging windows alone in the calendar, stands by. -/
theorem State.grantsAlone.standsBy {s : State} {x : Sub} {k : CampedCell} (h : s.grantsAlone x k)
    (hs : (s.sub x).state = .camped) (hw : s.holdsOnly x [.pageRx, .beaconRx]) : s.standsBy x k := by
  obtain ⟨camped, search, silenceOver, past, -, unconnected, rounds, resel⟩ := h
  exact ⟨hs, camped, search, silenceOver, past, unconnected, rounds x, resel, hw⟩

/-- R35, R85: the dial of a subscription that stands by, granted at once. -/
theorem State.standsBy.dial {s : State} {x : Sub} {k : CampedCell} (h : s.standsBy x k) (hl : (s.sub x).detaching = none)
    (he : s.engaged = none) (hq : s.engQueue = []) {i : CallId} (number : Digits)
    (ho : (s.call i.other).state = .free ∨ (s.call i.other).state = .blocked) {f : FrameNo} {start : Slot}
    (hf : nextFrame k.anchor s.now 3 8 1 0 = (f, start)) :
    s.dial i x number = (({ s.attempting x k .call .callOut start f with link := s.link } : State).callTold i
      (.outgoing x number .requesting) 1).posting x (s.callTold i (.outgoing x number .requesting) 1).link := by
  let taken := s.callTold i (.outgoing x number .dialling) 1
  let engaged := ({ taken with engQueue := [], moments := s.moments + 1 } : State).campEngaged x
  have call : engaged.call i = .outgoing x number .dialling := State.callTold_call s i _ 1
  have callOf : engaged.callOf x = some i := by
    refine State.callOf_of_other ?_ ?_ ?_ ?_
    · rw [call]; rfl
    · rw [call]; simp [CallRec.outgoing]
    · rw [call]; simp [CallRec.outgoing]
    · rw [show engaged.call i.other = s.call i.other from State.callTold_call_other s i _ 1]
      exact ho
  have told : engaged.dialGranted x [.call] = engaged.callTold i (.outgoing x number .requesting) 1 := by
    rw [State.dialGranted_eq callOf, call]
    exact if_pos rfl
  have asked := State.standsBy.ask_call (s := taken) (x := x) (k := k) { h with } hl he hq false hf
    (cs := (engaged.callTold i (.outgoing x number .requesting) 1).calls)
    (l := (engaged.callTold i (.outgoing x number .requesting) 1).link) told
  rw [State.dial_asks (.inr h.unconnected) asked]
  let sub := engaged.subSnapshot x
  let dialling := taken.callSnapshot i
  let requesting := (s.callTold i (.outgoing x number .requesting) 1).callSnapshot i
  have posted : postIn requesting 1 (postIn sub 1 (postIn dialling 1 s.link.outbox)) =
      postIn sub 1 (postIn requesting 1 s.link.outbox) := by
    obtain ⟨n, hn, same, -⟩ := mem_postIn dialling 1 s.link.outbox
    have keys : sub.key ≠ requesting.key := by
      simp [sub, requesting, State.subSnapshot, State.callSnapshot, Snapshot.key]
    rw [postIn_comm (c := requesting) keys 1 1 ⟨n, hn, (congrArg Snapshot.key same).trans rfl⟩,
      postIn_merge (a := dialling) (b := requesting) rfl]
    rfl
  have outbox (o : List Notice) (ho : o = postIn sub 1 (postIn requesting 1 s.link.outbox)) :
      ({ taken.attempting x k .call .callOut start f with
        calls := (s.setCall i (.outgoing x number .requesting)).calls, link := { s.link with outbox := o } } : State) =
      (({ s.attempting x k .call .callOut start f with link := s.link } : State).callTold i
        (.outgoing x number .requesting) 1).posting x (s.callTold i (.outgoing x number .requesting) 1).link := by
    subst ho
    cases i <;> rfl
  refine Eq.trans ?_ (outbox _ posted)
  cases i <;> rfl

/-- Settles O43: `State.dial_asks` and `State.dial_moving` say how a dial goes on, and the lemmas about `State.ask` what becomes
of its CALL purpose in each situation. -/
theorem anAcceptedDialTakesARecord : Obligations.AnAcceptedDialTakesARecord := by
  intro tag sub number x i s ha hq legal hx hlow hhigh hdigits hl hi ho record told run waits
  let u := s.replied tag 0x20 .done (.callId i)
  let taken := u.callTold i (.outgoing x number .dialling) 1
  have inRange : digitsInRange number = true := (digitsInRange_iff number).2 ⟨hlow, hhigh, hdigits⟩
  have runs (hs : (s.sub x).state = .camped ∨ (s.sub x).state = .engaged) {v : State} (hv : u.dial i x number = v)
      (hr : v.reports = []) : run = .next v := by
    have dials := exec_callDial ha hx inRange ((s.mayDial_iff x).2 ⟨hs, hl⟩) hi
    rw [if_pos ((s.dialAllowed_iff i).2 ho), hv] at dials
    exact dials.trans (settle_quiet hr)
  refine ⟨fun k hs he hqueue hk hw => ?_, fun hw => ?_, fun a he => ?_, fun c he hc => ?_⟩
  · let burst := nextFrame k.anchor s.now 3 8 1 0
    have stands : u.standsBy x k := { State.grantsAlone.standsBy hk hs hw with }
    obtain ⟨-, -, -, past, -⟩ := hk
    refine ⟨_, burst.2, burst.1, runs (.inl hs) (stands.dial hl he hqueue number ho (f := burst.1) (start := burst.2) rfl) hq,
      burstSlot_nextFrame past, ?_⟩
    cases i <;> rfl
  · have state : ((s.sub x).state = .camped ∧ s.engaged ≠ none) ∨ ((s.sub x).state = .engaged ∧ s.confirms x = true) := by
      refine hw.imp id fun hr => ?_
      obtain ⟨w, f, he⟩ := State.confirms_iff.1 hr
      exact ⟨legal.engaged he, hr⟩
    have unconnected : s.connection x = none := legal.unconnected fun he => by
      rcases state with ⟨hs, -⟩ | ⟨-, hr⟩
      · rw [legal.engaged he] at hs
        cases hs
      · obtain ⟨w, f, he'⟩ := State.confirms_iff.1 hr
        simp [he] at he'
    have asked := State.ask_waits (s := taken) (p := .call) (page := false) hl state
    refine (runs (state.imp And.left And.left) (State.dial_asks (s := u) (.inr unconnected) asked) hq).trans ?_
    cases i <;> rfl
  · have unconnected : s.connection x = none := legal.unconnected (by simp [he])
    have hs := legal.engaged he
    have asked := State.ask_attempt (s := taken) (p := .call) (page := false) hl hs he
    let joined : State :=
      { u with engaged := some { sub := x, stage := .attempt { a with purposes := withPurpose .call a.purposes } } }
    have call : (joined.callTold i (.outgoing x number .dialling) 1).call i = .outgoing x number .dialling :=
      State.callTold_call ..
    have requests : u.dial i x number = joined.callTold i (.outgoing x number .requesting) 1 := by
      rw [State.dial_asks (s := u) (.inr unconnected) asked]
      refine Eq.trans (b := (joined.callTold i (.outgoing x number .dialling) 1).enterCall i .requesting 0)
        (by cases i <;> rfl) ?_
      rw [State.enterCall_told (by rw [call]; simp [CallRec.outgoing]), call, State.callTold_callTold]
      rfl
    refine (runs (.inr hs) requests (by rw [State.callTold_reports]; exact hq)).trans ?_
    cases i <;> rfl
  · have hs := legal.engaged he
    have asked := State.ask_connected (s := taken) (p := .call) (page := false) hl hs he hc
    have registers : (taken.joinedBy c .call).registering x = decide (Purpose.register ∈ c.purposes) :=
      State.joinedBy_registering hc
    have gone : taken.doneGone = s.doneGone := rfl
    refine ⟨fun h => ?_, fun hn hreg hd => ?_, fun hn hd => ?_⟩
    · have offers : u.dial i x number = ({ taken with ctx := (u.joinedBy c .call).ctx } : State).offerDial i := by
        by_cases hm : s.ctx.handover = .none
        · obtain ⟨hreg, hd⟩ := h.resolve_left (not_not_intro hm)
          rw [gone, if_neg (by simp [hd])] at asked
          rw [State.dial_asks (s := u) (.inl hm) asked]
          exact if_neg (by simpa [registers] using hreg)
        · exact State.dial_moving hm hc
      rw [State.offerDial_outgoing] at offers
      refine (runs (.inr hs) offers hq).trans ?_
      cases i <;> rfl
    · rw [gone, if_neg (by simp [hd])] at asked
      have joins : u.dial i x number = taken.joinedBy c .call := by
        rw [State.dial_asks (s := u) (.inl hn) asked]
        exact if_pos (by simpa [registers] using hreg)
      refine (runs (.inr hs) joins hq).trans ?_
      cases i <;> rfl
    · rw [gone, if_pos hd] at asked
      refine (runs (.inr hs) (State.dial_asks (s := u) (.inl hn) asked) hq).trans ?_
      cases i <;> rfl

end Sys2Proof.Machine
end

section
/-! SUPPORT. CALL_ANSWER (R88): what it makes of an INCOMING record and of a BLOCKED one, and what the page reply it asks for
becomes. -/

namespace Sys2Proof.Machine

open Sys2Proof

/-! ### The dispatch -/

section
variable {s : State} {tag id : Byte} {i : CallId} (ha : s.accepts tag (.callAnswer id)) (hi : callIdOf id = some i)
include ha hi

theorem exec_callAnswer : exec (.callAnswer tag id) s = settle ((s.reserveHead tag 0x21).answerCall i s.link.ticket) := by
  unfold exec execCallAnswer
  refine (dispatched_accepts ha _).trans ?_
  simp only [hi]
  rfl

/-- R180: a CALL_ANSWER that is answered at once and changes nothing. -/
theorem exec_callAnswer_replied (hq : s.quiet) {st : Status}
    (h : (s.reserveHead tag 0x21).answerCall i s.link.ticket = (s.reserveHead tag 0x21).refuse s.link.ticket st) :
    exec (.callAnswer tag id) s = .next (s.replied tag 0x21 st .none) := by
  rw [exec_callAnswer ha hi, h]
  exact (congrArg settle (State.reserveHead_answer s tag 0x21 st .none)).trans (settle_quiet hq)

/-- R88: a CALL_ANSWER that is answered DONE after an action that changes no more of the link than its notices. -/
theorem exec_callAnswer_done {v : State} (h : (s.reserveHead tag 0x21).answerCall i s.link.ticket = v.refuse s.link.ticket .done)
    (hl : v.link = { (s.reserveHead tag 0x21).link with outbox := v.link.outbox }) (hn : v.now = s.now) (hr : v.reports = []) :
    exec (.callAnswer tag id) s =
      .next { v with link := { (s.replied tag 0x21 .done .none).link with outbox := v.link.outbox } } := by
  rw [exec_callAnswer ha hi, h, State.refuse_reserved .done hl hn]
  exact settle_quiet hr

end

/-- R88: a state in which a CALL_ANSWER finds nothing to answer. -/
theorem State.answerCall_wrong {s : State} {i : CallId} (h : (s.call i).state ∉ [CallState.free, .incoming, .blocked]) (t : Nat) :
    s.answerCall i t = s.refuse t .wrongState := by
  unfold State.answerCall
  cases hs : (s.call i).state <;> simp [hs] at h ⊢

/-! ### An INCOMING call (R88, R87) -/

theorem State.answerCall_incoming {s : State} {i : CallId} (h : (s.call i).state = .incoming) (t : Nat) :
    s.answerCall i t = (s.answerIncoming i).refuse t .done := by
  simp only [State.answerCall, h]

/-- R102: a record changed without a flag of its own renews the notice that waits, if one does. -/
theorem State.renewCall_setCall (s : State) (i : CallId) (r : CallRec) : (s.setCall i r).renewCall i =
    if ∃ n ∈ s.link.outbox, n.snapshot.key = (NoticeKind.call, callNumber i) then s.callTold i r 0 else s.setCall i r := by
  unfold State.renewCall
  rw [State.setCall_link]
  by_cases h : ∃ n ∈ s.link.outbox, n.snapshot.key = (NoticeKind.call, callNumber i)
  · rw [if_pos (by simpa using h), if_pos h]
    cases i <;> rfl
  · rw [if_neg (by simpa using h), if_neg h]

section
variable {s : State} {i : CallId} (ha : (s.call i).answered = false)
include ha

/-- R88, log 33: a call not yet arrived, or whose RING waits, is marked answered. -/
theorem State.answerIncoming_waits (h : (s.call i).arrived = false ∨ (s.call i).ringWaits = true) :
    s.answerIncoming i = (s.setCall i { s.call i with answered := true }).renewCall i := by
  have waits : ¬((s.call i).arrived = true ∧ (s.call i).ringWaits = false) := by
    rintro ⟨harrived, hrings⟩
    rcases h with h | h
    · simp [h] at harrived
    · simp [h] at hrings
  unfold State.answerIncoming
  simp only [ha, if_neg waits]
  rfl

/-- R87: one that arrived is ANSWERING, and TAKE is offered. -/
theorem State.answerIncoming_takes (hs : (s.call i).state = .incoming) (harrived : (s.call i).arrived = true)
    (hrings : (s.call i).ringWaits = false) : s.answerIncoming i =
      { s.callTold i { s.call i with answered := true, state := .answering, timer := some (slotAdd s.now 20000) } 1 with
        ctx := (s.offer .take).ctx } := by
  let r : CallRec := { s.call i with answered := true }
  let taken := s.offer .take
  have steps : s.answerIncoming i = (((s.setCall i r).renewCall i).offer .take).enterCall i .answering 0 := by
    unfold State.answerIncoming
    simp only [ha, if_pos (And.intro harrived hrings)]
    rfl
  have unconnected : r.state ≠ .connected := by rw [show r.state = .incoming from hs]; simp
  rw [steps, State.renewCall_setCall]
  split
  · have call : (taken.callTold i r 0).call i = r := State.callTold_call ..
    have told : (s.callTold i r 0).offer .take = taken.callTold i r 0 := by cases i <;> rfl
    rw [told, State.enterCall_told (by rw [call]; exact unconnected), call, State.callTold_callTold]
    cases i <;> rfl
  · have call : ((s.setCall i r).offer .take).call i = r := State.setCall_call ..
    rw [State.enterCall_told (by rw [call]; exact unconnected), call]
    cases i <;> rfl

end

/-! ### A BLOCKED call (R88) -/

/-- The record of a BLOCKED call that has been answered. -/
def CallRec.unblocked (r : CallRec) (now : Slot) : CallRec :=
  { r with answered := true, state := .incoming, timer := some (slotAdd now 60000) }

/-- R92: the network is told of the end of a call that is ringing out, is answering or is CONNECTED. -/
theorem State.localClear_drops {s : State} {i : CallId} (h : (s.call i).state ∈ [CallState.ringingOut, .answering, .connected])
    (c : CallCause) : s.localClear i c = (s.offer (.drop .byHost)).clearCall i c := by
  unfold State.localClear
  simp only [List.mem_cons, List.not_mem_nil, or_false] at h
  rcases h with h | h | h <;> simp only [h]

/-- The state in which a call has been cleared: DROP(LOCAL) is offered and the record is CLEARING. -/
def State.droppedLocally (s : State) (i : CallId) (c : CallCause) : State :=
  { (s.hungUp i).callTold i ((s.call i).clearing s.now c) 1 with ctx := (s.offer (.drop .byHost)).ctx }

@[simp] theorem State.droppedLocally_subs (s : State) (i : CallId) (c : CallCause) : (s.droppedLocally i c).subs = s.subs := rfl

@[simp] theorem State.droppedLocally_engaged (s : State) (i : CallId) (c : CallCause) :
    (s.droppedLocally i c).engaged = s.engaged := rfl

theorem State.droppedLocally_call_other (s : State) (i : CallId) (c : CallCause) :
    (s.droppedLocally i.other c).call i = s.call i := by cases i <;> rfl

@[simp] theorem State.droppedLocally_now (s : State) (i : CallId) (c : CallCause) : (s.droppedLocally i c).now = s.now := rfl

@[simp] theorem State.droppedLocally_reports (s : State) (i : CallId) (c : CallCause) :
    (s.droppedLocally i c).reports = s.reports := rfl

theorem State.droppedLocally_link (s : State) (i : CallId) (c : CallCause) :
    (s.droppedLocally i c).link = { s.link with outbox := (s.droppedLocally i c).link.outbox } := rfl

/-- One record cleared, and then the other changed, each with its notice. -/
theorem State.droppedLocally_told (s : State) (i : CallId) (c : CallCause) (r : CallRec) :
    (s.droppedLocally i.other c).callTold i r 1 = { s with
      calls := ((s.setCall i r).setCall i.other ((s.call i.other).clearing s.now c)).calls
      ctx := (s.offer (.drop .byHost)).ctx
      voice := if (s.call i.other).state = .connected then s.voice.stop else s.voice
      link := { s.link with
        outbox := postIn (r.snapshot i) 1
          (postIn (((s.call i.other).clearing s.now c).snapshot i.other) 1 s.link.outbox) } } := by
  simp only [State.droppedLocally, State.callTold_eq]
  cases i <;> rfl

/-- R82: a record is CLEARING once a message has been offered. -/
theorem State.offer_clearCall (s : State) (m : UpMsg) (i : CallId) (c : CallCause) : (s.offer m).clearCall i c =
    { (s.hungUp i).callTold i ((s.call i).clearing s.now c) 1 with ctx := (s.offer m).ctx } := by
  rw [State.clearCall_eq]
  cases i <;> rfl

theorem CallId.eq_or_other (i j : CallId) : j = i ∨ j = i.other := by cases i <;> cases j <;> simp [CallId.other]

/-- R88: with the other record FREE no call of the other subscription is cleared. -/
theorem State.clearAll_other_free {s : State} {i : CallId} {y : Sub} (hi : (s.call i).sub ≠ some y)
    (ho : (s.call i.other).state = .free) (c : CallCause) : s.clearAll y c = s :=
  State.clearAll_none (fun j hj => by
    rcases CallId.eq_or_other i j with rfl | rfl
    · exact absurd hj hi
    · exact ho) c

/-- R88: the call of the other subscription is cleared. -/
theorem State.clearAll_other {s : State} {i : CallId} {y : Sub} (hi : (s.call i).sub ≠ some y)
    (ho : (s.call i.other).state ∈ [CallState.ringingOut, .answering, .connected]) (hy : (s.call i.other).sub = some y)
    (c : CallCause) : s.clearAll y c = s.droppedLocally i.other c := by
  have cleared : s.localClear i.other c = s.droppedLocally i.other c :=
    (State.localClear_drops ho c).trans (s.offer_clearCall _ i.other c)
  have stands := s.droppedLocally_call_other i c
  simp only [State.clearAll, callIds, List.foldl_cons, List.foldl_nil]
  cases i
  · rw [if_neg hi]
    exact (if_pos hy).trans cleared
  · rw [if_pos (show (s.call .one).sub = some y from hy), show s.localClear .one c = _ from cleared]
    exact if_neg (by rw [stands]; exact hi)

/-- R88: the record of a BLOCKED call that is answered is INCOMING, and a page reply is asked for. -/
theorem State.answerBlocked_asks {s w v : State} {i : CallId} {x : Sub} {a : Asked} (hw : s.clearAll x.other .byHost = w)
    (hs : (w.call i).state = .blocked)
    (ha : (w.callTold i ((w.call i).unblocked w.now) 1).ask x [.call] true = (a, v)) : s.answerBlocked i x = v := by
  let r : CallRec := { w.call i with answered := true }
  have call : (w.setCall i r).call i = r := State.setCall_call ..
  have told : (w.setCall i r).enterCall i .incoming 0 = w.callTold i ((w.call i).unblocked w.now) 1 := by
    rw [State.enterCall_told (by rw [call]; simp [r, hs]), call]
    cases i <;> rfl
  unfold State.answerBlocked
  dsimp only
  rw [hw]
  exact (congrArg (fun u : State => (u.ask x [.call] true).2) told).trans (congrArg Prod.snd ha)

theorem State.answerCall_blocked {s : State} {i : CallId} {x : Sub} (hs : (s.call i).state = .blocked)
    (hx : (s.call i).sub = some x) (t : Nat) : s.answerCall i t =
      if (s.call i.other).state ≠ .free ∧ (s.call i.other).sub = some x then s.refuse t .busy
      else (s.answerBlocked i x).refuse t .done := by
  unfold State.answerCall
  simp only [hs, hx, Option.getD_some]

/-- R34: a page reply that waits in the queue, or is refused. -/
theorem State.ask_waits_or_refused {s : State} {x : Sub} {asks : Prop} [Decidable asks]
    (hw : asks → (s.sub x).detaching = none ∧
      (((s.sub x).state = .camped ∧ s.engaged ≠ none) ∨ ((s.sub x).state = .engaged ∧ s.confirms x = true)))
    (hr : ¬asks → (s.sub x).detaching ≠ none ∨ (s.sub x).state = .searching ∨ (s.sub x).state = .noService) :
    ∃ a, s.ask x [.call] true = (a, if asks then s.queuedFor x .call true else s) := by
  by_cases h : asks
  · obtain ⟨hl, hs⟩ := hw h
    rw [if_pos h]
    exact ⟨_, State.ask_waits hl hs⟩
  · rw [if_neg h]
    exact ⟨_, State.ask_refused (hr h) true⟩

section
variable {s : State} {tag id : Byte} {i : CallId} (ha : s.accepts tag (.callAnswer id)) (hi : callIdOf id = some i)
  {x : Sub} (hs : (s.call i).state = .blocked) (hx : (s.call i).sub = some x)
include ha hi hs hx

/-- R88: a BLOCKED call that is answered, by what becomes of the page reply. -/
theorem exec_callAnswer_blocked {w v : State} {a : Asked}
    (ho : (s.call i.other).state = .free ∨ (s.call i.other).sub = some x.other)
    (hw : (s.reserveHead tag 0x21).clearAll x.other .byHost = w) (hsame : w.call i = s.call i)
    (hask : (w.callTold i ((w.call i).unblocked w.now) 1).ask x [.call] true = (a, v))
    (hl : v.link = { (s.reserveHead tag 0x21).link with outbox := v.link.outbox }) (hn : v.now = s.now) (hr : v.reports = []) :
    exec (.callAnswer tag id) s =
      .next { v with link := { (s.replied tag 0x21 .done .none).link with outbox := v.link.outbox } } := by
  have blocked := State.answerBlocked_asks hw (by rw [hsame]; exact hs) hask
  have answers := State.answerCall_blocked (s := s.reserveHead tag 0x21) hs hx s.link.ticket
  have unused : ¬((s.call i.other).state ≠ .free ∧ (s.call i.other).sub = some x) := by
    rintro ⟨hf, hsub⟩
    rcases ho with ho | ho
    · exact hf ho
    · rw [hsub] at ho
      exact Sub.other_ne x (Option.some.inj ho).symm
  rw [show ((s.reserveHead tag 0x21).call i.other).state = (s.call i.other).state from rfl,
    show ((s.reserveHead tag 0x21).call i.other).sub = (s.call i.other).sub from rfl, if_neg unused, blocked] at answers
  exact exec_callAnswer_done ha hi answers hl hn hr

/-- R88: one whose page reply waits in the queue, or of which nothing is asked. -/
theorem exec_callAnswer_unanswered {w : State} {a : Asked} {asks : Prop} [Decidable asks]
    (ho : (s.call i.other).state = .free ∨ (s.call i.other).sub = some x.other)
    (hw : (s.reserveHead tag 0x21).clearAll x.other .byHost = w) (hsame : w.call i = s.call i)
    (hask : (w.callTold i ((w.call i).unblocked s.now) 1).ask x [.call] true = (a,
      if asks then (w.callTold i ((w.call i).unblocked s.now) 1).queuedFor x .call true
      else w.callTold i ((w.call i).unblocked s.now) 1))
    (hl : w.link = { (s.reserveHead tag 0x21).link with outbox := w.link.outbox }) (hn : w.now = s.now) (hr : w.reports = []) :
    exec (.callAnswer tag id) s = .next { (if asks then (w.callTold i ((w.call i).unblocked s.now) 1).queuedFor x .call true
      else w.callTold i ((w.call i).unblocked s.now) 1) with
        link := { (s.replied tag 0x21 .done .none).link with
          outbox := (w.callTold i ((w.call i).unblocked s.now) 1).link.outbox } } := by
  have told : (w.callTold i ((w.call i).unblocked s.now) 1).link = { (s.reserveHead tag 0x21).link with
      outbox := (w.callTold i ((w.call i).unblocked s.now) 1).link.outbox } :=
    congrArg (fun l : Link => { l with outbox := (w.callTold i ((w.call i).unblocked s.now) 1).link.outbox }) hl
  have run {v : State} (hv : (if asks then (w.callTold i ((w.call i).unblocked s.now) 1).queuedFor x .call true
      else w.callTold i ((w.call i).unblocked s.now) 1) = v)
      (hvl : v.link = (w.callTold i ((w.call i).unblocked s.now) 1).link) (hvn : v.now = w.now) (hvr : v.reports = w.reports) :
      exec (.callAnswer tag id) s = .next { v with link := { (s.replied tag 0x21 .done .none).link with
        outbox := (w.callTold i ((w.call i).unblocked s.now) 1).link.outbox } } := by
    rw [hv] at hask
    rw [exec_callAnswer_blocked ha hi hs hx ho hw hsame (by rw [hn]; exact hask) (by rw [hvl]; exact told) (hvn.trans hn)
      (hvr.trans hr), hvl]
  by_cases h : asks
  · simp only [if_pos h] at run ⊢
    exact run rfl rfl rfl rfl
  · simp only [if_neg h] at run ⊢
    exact run rfl rfl rfl rfl

end

section
variable {s : State} {tag id : Byte} {i : CallId} (ha : s.accepts tag (.callAnswer id)) (hi : callIdOf id = some i)
  {x : Sub} (hs : (s.call i).state = .blocked) (hx : (s.call i).sub = some x) (hq : s.quiet)
include ha hi hs hx hq

/-- R88: one answered while the other subscription has a call, which is cleared first. -/
theorem exec_callAnswer_clears {asks : Prop} [Decidable asks]
    (ho : (s.call i.other).state ∈ [CallState.ringingOut, .answering, .connected]) (hy : (s.call i.other).sub = some x.other)
    (asked : ∀ w : State, w.subs = s.subs → w.engaged = s.engaged →
      ∃ a, w.ask x [.call] true = (a, if asks then w.queuedFor x .call true else w)) :
    exec (.callAnswer tag id) s = .next { (if asks then s.queuedFor x .call true else s) with
      calls := ((s.setCall i ((s.call i).unblocked s.now)).setCall i.other ((s.call i.other).clearing s.now .byHost)).calls
      ctx := (s.offer (.drop .byHost)).ctx
      voice := if (s.call i.other).state = .connected then s.voice.stop else s.voice
      link := { (s.replied tag 0x21 .done .none).link with
        outbox := postIn (((s.call i).unblocked s.now).snapshot i) 1
          (postIn (((s.call i.other).clearing s.now .byHost).snapshot i.other) 1 s.link.outbox) } } := by
  let u := s.reserveHead tag 0x21
  have foreign : (u.call i).sub ≠ some x.other := by
    rw [show (u.call i).sub = some x from hx]
    exact fun h => Sub.other_ne x (Option.some.inj h).symm
  have stands : (u.droppedLocally i.other .byHost).call i = s.call i := (u.droppedLocally_call_other i .byHost).trans rfl
  obtain ⟨a, hask⟩ := asked ((u.droppedLocally i.other .byHost).callTold i
    (((u.droppedLocally i.other .byHost).call i).unblocked s.now) 1)
    (by rw [State.callTold_subs, State.droppedLocally_subs]; rfl)
    (by rw [State.callTold_engaged, State.droppedLocally_engaged]; rfl)
  have answers := exec_callAnswer_unanswered ha hi hs hx (.inr hy) (State.clearAll_other (s := u) foreign ho hy .byHost) stands
    hask (u.droppedLocally_link i.other .byHost) (u.droppedLocally_now i.other .byHost)
    ((u.droppedLocally_reports i.other .byHost).trans hq)
  rw [State.droppedLocally_told] at answers
  obtain ⟨l, hu⟩ : ∃ l : Link, u = { s with link := { l with outbox := s.link.outbox } } := ⟨u.link, rfl⟩
  refine answers.trans (congrArg _ ?_)
  clear_value u
  subst hu
  by_cases h : asks
  · simp only [if_pos h]
    cases i <;> rfl
  · simp only [if_neg h]
    cases i <;> rfl

/-- R88: one answered with the other record FREE, whose page reply is not granted. -/
theorem exec_callAnswer_waits {asks : Prop} [Decidable asks] (ho : (s.call i.other).state = .free)
    (asked : ∀ w : State, w.subs = s.subs → w.engaged = s.engaged →
      ∃ a, w.ask x [.call] true = (a, if asks then w.queuedFor x .call true else w)) :
    exec (.callAnswer tag id) s = .next { (if asks then s.queuedFor x .call true else s) with
      calls := (s.setCall i ((s.call i).unblocked s.now)).calls
      ctx := s.ctx
      voice := s.voice
      link := { (s.replied tag 0x21 .done .none).link with
        outbox := postIn (((s.call i).unblocked s.now).snapshot i) 1 s.link.outbox } } := by
  let u := s.reserveHead tag 0x21
  have foreign : (u.call i).sub ≠ some x.other := by
    rw [show (u.call i).sub = some x from hx]
    exact fun h => Sub.other_ne x (Option.some.inj h).symm
  obtain ⟨a, hask⟩ := asked (u.callTold i ((u.call i).unblocked s.now) 1) (by rw [State.callTold_subs]; rfl)
    (by rw [State.callTold_engaged]; rfl)
  refine (exec_callAnswer_unanswered ha hi hs hx (.inl ho) (State.clearAll_other_free (s := u) foreign ho .byHost) rfl hask rfl
    rfl hq).trans (congrArg _ ?_)
  rw [State.callTold_eq]
  obtain ⟨l, hu⟩ : ∃ l : Link, u = { s with link := { l with outbox := s.link.outbox } } := ⟨u.link, rfl⟩
  clear_value u
  subst hu
  by_cases h : asks
  · simp only [if_pos h]
    cases i <;> rfl
  · simp only [if_neg h]
    cases i <;> rfl

omit hq in
/-- R88: one answered with the other record FREE, by what the asking of the page reply makes of the state. -/
theorem exec_callAnswer_asks {v : State} {a : Asked} (ho : (s.call i.other).state = .free)
    (hask : ((s.reserveHead tag 0x21).callTold i ((s.call i).unblocked s.now) 1).ask x [.call] true = (a, v))
    (hlink : v.link = { (s.reserveHead tag 0x21).link with outbox := v.link.outbox }) (hnow : v.now = s.now)
    (hr : v.reports = []) :
    exec (.callAnswer tag id) s =
      .next { v with link := { (s.replied tag 0x21 .done .none).link with outbox := v.link.outbox } } := by
  have foreign : ((s.reserveHead tag 0x21).call i).sub ≠ some x.other := by
    rw [show ((s.reserveHead tag 0x21).call i).sub = some x from hx]
    exact fun h => Sub.other_ne x (Option.some.inj h).symm
  exact exec_callAnswer_blocked ha hi hs hx (.inl ho)
    (State.clearAll_other_free (s := s.reserveHead tag 0x21) foreign ho .byHost) rfl hask hlink hnow hr

/-- R34, R35: one whose page reply is granted at once. -/
theorem exec_callAnswer_granted (ho : (s.call i.other).state = .free) (hl : (s.sub x).detaching = none) {k : CampedCell}
    (h : s.standsBy x k) (he : s.engaged = none) (hqueue : s.engQueue = []) {f : FrameNo} {start : Slot}
    (hf : nextFrame k.anchor s.now 3 8 1 0 = (f, start)) :
    exec (.callAnswer tag id) s = .next { s.attempting x k .call .pageReply start f with
      calls := (s.setCall i ((s.call i).unblocked s.now)).calls
      link := { (s.replied tag 0x21 .done .none).link with
        outbox := ((s.attempting x k .call .pageReply start f).posting x
          (s.callTold i ((s.call i).unblocked s.now) 1).link).link.outbox } } := by
  let u := s.reserveHead tag 0x21
  let taken := u.callTold i ((s.call i).unblocked s.now) 1
  let engaged := ({ taken with engQueue := [], moments := s.moments + 1 } : State).campEngaged x
  have told : engaged.dialGranted x [.call] = engaged := by
    have call : engaged.call i = (s.call i).unblocked s.now := State.callTold_call u i _ 1
    have callOf : engaged.callOf x = some i := by
      refine State.callOf_of_other ?_ ?_ ?_ (.inl ?_)
      · rw [call]; exact hx
      · rw [call]; simp [CallRec.unblocked]
      · rw [call]; simp [CallRec.unblocked]
      · rw [show engaged.call i.other = s.call i.other from State.callTold_call_other u i _ 1]
        exact ho
    rw [State.dialGranted_eq callOf, call]
    exact if_neg (by simp [CallRec.unblocked])
  have asked := State.standsBy.ask_call (s := taken) (x := x) (k := k) { h with } hl he hqueue true hf
    (cs := engaged.calls) (l := engaged.link) told
  refine (exec_callAnswer_asks ha hi hs hx ho asked rfl rfl hq).trans (congrArg _ ?_)
  obtain ⟨l, hu⟩ : ∃ l : Link, u = { s with link := { l with outbox := s.link.outbox } } := ⟨u.link, rfl⟩
  clear told asked
  clear_value u
  subst hu
  cases i <;> rfl

end

/-- Settles O44: the checks refuse and change nothing; an INCOMING call is told by `State.answerIncoming_waits` and
`State.answerIncoming_takes`, a BLOCKED one by `exec_callAnswer_blocked` and what becomes of its CALL purpose. -/
theorem callAnswerByState : Obligations.CallAnswerByState := by
  intro tag id s ha hq done
  let u := s.reserveHead tag 0x21
  refine ⟨fun hi => ?_, fun i hi => ⟨fun hs => ?_, fun hs => ?_, fun hs ho hsub hsame => ?_, fun hs => ⟨?_, ?_, ?_⟩,
    fun x hs hx => ?_⟩⟩
  · unfold exec execCallAnswer
    refine dispatched_replied ha hq _ .badValue _ ?_
    simp only [hi]
    rfl
  · refine exec_callAnswer_replied ha hi hq ?_
    simp only [State.answerCall, show (u.call i).state = .free from hs, u]
  · exact exec_callAnswer_replied ha hi hq (State.answerCall_wrong (s := u) hs _)
  · obtain ⟨x, hx⟩ := Option.ne_none_iff_exists'.1 hsub
    refine exec_callAnswer_replied ha hi hq ((State.answerCall_blocked (s := u) hs hx _).trans ?_)
    exact if_pos ⟨ho, hsame.trans hx⟩
  · intro hanswered
    refine exec_callAnswer_replied ha hi hq ((State.answerCall_incoming (s := u) hs _).trans ?_)
    exact congrArg (fun v : State => v.refuse s.link.ticket .done) (if_pos hanswered)
  · intro hanswered hwaits
    have marks : u.answerCall i s.link.ticket =
        ((u.setCall i { s.call i with answered := true }).renewCall i).refuse s.link.ticket .done := by
      rw [State.answerCall_incoming (s := u) hs, State.answerIncoming_waits (s := u) hanswered hwaits]
      rfl
    rw [State.renewCall_setCall, show u.link.outbox = s.link.outbox from rfl] at marks
    by_cases hp : ∃ n ∈ s.link.outbox, n.snapshot.key = (NoticeKind.call, callNumber i)
    · simp only [if_pos hp] at marks ⊢
      refine ⟨_, exec_callAnswer_done ha hi marks rfl rfl hq, ?_⟩
      cases i <;> rfl
    · simp only [if_neg hp] at marks ⊢
      refine ⟨_, exec_callAnswer_done ha hi marks (by cases i <;> rfl) (State.setCall_now u i _)
        (by rw [State.setCall_reports]; exact hq), ?_⟩
      cases i <;> rfl
  · intro hanswered harrived hrings
    have takes : u.answerCall i s.link.ticket = ({ u.callTold i { s.call i with
        answered := true, state := .answering, timer := some (slotAdd s.now 20000) } 1 with
        ctx := (s.offer .take).ctx } : State).refuse s.link.ticket .done := by
      rw [State.answerCall_incoming (s := u) hs, State.answerIncoming_takes (s := u) hanswered hs harrived hrings]
      rfl
    refine ⟨_, exec_callAnswer_done ha hi takes rfl rfl hq, ?_⟩
    cases i <;> rfl
  · intro other run incoming clears asks
    refine ⟨fun hother hasks => ?_, fun hother hl => ?_⟩
    · have asked (w : State) (hsubs : w.subs = s.subs) (hengaged : w.engaged = s.engaged) :
          ∃ a, w.ask x [.call] true = (a, if asks then w.queuedFor x .call true else w) := by
        have same : w.sub x = s.sub x := congrArg (Two.get · x) hsubs
        have confirms : w.confirms x = s.confirms x := by simp only [State.confirms, hengaged]
        refine State.ask_waits_or_refused (fun h => ?_) fun h => ?_
        · rw [same, confirms, hengaged]
          exact h
        · rw [same]
          rcases hasks.resolve_left h with h | h | h
          · exact .inr (.inl h)
          · exact .inr (.inr h)
          · exact .inl h
      by_cases hc : clears
      · simp only [hc, true_and, if_true]
        refine ⟨_, exec_callAnswer_clears ha hi hs hx hq hc.1 hc.2 asked, ?_⟩
        cases i <;> rfl
      · simp only [hc, false_and, if_false]
        refine ⟨_, exec_callAnswer_waits ha hi hs hx hq (hother.resolve_right hc) asked, ?_⟩
        cases i <;> rfl
    · refine ⟨fun k hcamp he hqueue hk hw => ?_, fun a hengaged he => ?_, fun c hengaged he hc => ?_⟩
      · let burst := nextFrame k.anchor s.now 3 8 1 0
        have granted := exec_callAnswer_granted ha hi hs hx hq hother hl (State.grantsAlone.standsBy hk hcamp hw) he hqueue
          (f := burst.1) (start := burst.2) rfl
        obtain ⟨-, -, -, past, -⟩ := hk
        refine ⟨_, burst.2, burst.1, granted, burstSlot_nextFrame past, ?_⟩
        cases i <;> rfl
      · have asked := State.ask_attempt (s := (s.reserveHead tag 0x21).callTold i ((s.call i).unblocked s.now) 1) (p := .call)
          (page := true) hl hengaged he
        refine (exec_callAnswer_asks ha hi hs hx hother asked rfl rfl hq).trans ?_
        cases i <;> rfl
      · have asked := State.ask_connected (s := (s.reserveHead tag 0x21).callTold i ((s.call i).unblocked s.now) 1) (p := .call)
          (page := true) hl hengaged he hc
        by_cases hd : s.doneGone = true
        · rw [if_pos (by exact hd)] at asked
          rw [if_pos hd]
          refine (exec_callAnswer_asks ha hi hs hx hother asked rfl rfl hq).trans ?_
          cases i <;> rfl
        · rw [if_neg (by exact hd)] at asked
          rw [if_neg hd]
          refine (exec_callAnswer_asks ha hi hs hx hother asked rfl rfl hq).trans ?_
          cases i <;> rfl

end Sys2Proof.Machine
end

section
/-! SUPPORT. What the call timers (R86, R87, R89, R91, R93, R94) and the network's messages (R86, R87, R90, R93, R100) make of a
call. -/

namespace Sys2Proof.Machine

open Sys2Proof

/-! ### The timers -/

theorem exec_callTimerExpiry {s : State} {i : CallId} {u : Slot} (ha : s.awake = true) (ht : (s.call i).timer = some u)
    (hu : (s.now - u).toNat < 2 ^ 31) : exec (.callTimerExpiry i) s = settle (s.callTimerExpired i) := by
  have late : expired s.now (s.call i).timer = true := by
    rw [ht]
    exact decide_eq_true hu
  exact if_pos ⟨ha, late⟩

/-- A record that is freed and whose CALL purpose ends (R91, log 25). -/
theorem State.freeAndLeave_eq {s : State} {i : CallId} {x : Sub} (hx : (s.call i).sub = some x) (c : CallCause) :
    s.freeAndLeave i c =
      if (s.call i).state = .blocked ∧ s.connection x = none then s.freeCall i c else (s.freeCall i c).callGone x := by
  unfold State.freeAndLeave
  simp only [hx, State.freeCall_eq, State.callTold_connection, Option.isNone_iff_eq_none]
  rfl

/-- The record of a call that is not CONNECTED, freed. -/
theorem State.freeCall_told {s : State} {i : CallId} (h : (s.call i).state ≠ .connected) (c : CallCause) :
    s.freeCall i c = s.callTold i ((s.call i).freed c) 1 := by
  rw [State.freeCall_eq, State.hungUp_self h]

/-- R94: a call whose connection may be in a handover. -/
theorem State.callInHandover_iff {s : State} {i : CallId} {x : Sub} (hx : (s.call i).sub = some x)
    (hb : (s.call i).state ≠ .blocked) : s.callInHandover i = true ↔ s.ctx.handover ≠ .none ∧ s.connection x ≠ none := by
  simp [State.callInHandover, hx, hb, State.inHandover, Option.isSome_iff_ne_none]

/-- The state in which the timer of a record has stopped. -/
def State.stopped (s : State) (i : CallId) : State := s.setCall i { s.call i with timer := none }

section
variable {s : State} {i : CallId}

theorem State.stopped_call : (s.stopped i).call i = { s.call i with timer := none } := s.call_setCall ..

theorem State.stopped_connection (x : Sub) : (s.stopped i).connection x = s.connection x := by cases i <;> rfl

/-- A record freed is the same, its timer stopped before or with it. -/
theorem State.stopped_freeAndLeave {x : Sub} (hx : (s.call i).sub = some x) (hc : (s.call i).state ≠ .connected) (c : CallCause) :
    (s.stopped i).freeAndLeave i c =
      if (s.call i).state = .blocked ∧ s.connection x = none then s.callTold i ((s.call i).freed c) 1
      else (s.callTold i ((s.call i).freed c) 1).callGone x := by
  have same : (s.stopped i).freeCall i c = s.callTold i ((s.call i).freed c) 1 := by
    rw [State.freeCall_eq, ← State.freeCall_told hc, State.freeCall_eq]
    cases i <;> rfl
  rw [State.freeAndLeave_eq (x := x) (by rw [State.stopped_call]; exact hx), same, State.stopped_call,
    State.stopped_connection]

/-- A record that is CLEARING is the same, its timer stopped before or not. -/
theorem State.stopped_clearCall (hc : (s.call i).state ≠ .connected) (m : UpMsg) (c : CallCause) :
    ((s.stopped i).offer m).clearCall i c =
      { s.callTold i ((s.call i).clearing s.now c) 1 with ctx := (s.offer m).ctx } := by
  rw [State.offer_clearCall, State.hungUp_self (by rw [State.stopped_call]; exact hc)]
  cases i <;> rfl

/-- The cause with which an INCOMING call ends for which its timer expired (R87, R91). -/
def CallRec.unanswered (r : CallRec) : CallCause := if r.answered = true then .noAnswer else .notAnswered

/-- A timer that expires stops. -/
theorem State.modCall_stopped : (s.modCall i fun r => { r with timer := none }) = s.stopped i := rfl

section
variable {x : Sub} (hx : (s.call i).sub = some x)
include hx

theorem State.stopped_callInHandover (hb : (s.call i).state ≠ .blocked) :
    (s.stopped i).callInHandover i = true ↔ s.ctx.handover ≠ .none ∧ s.connection x ≠ none := by
  rw [State.callInHandover_iff (x := x) (by rw [State.stopped_call]; exact hx) (by rw [State.stopped_call]; exact hb),
    State.stopped_connection]
  cases i <;> rfl

/-- R86, R87, R89: a record whose timer clears it with a cause, the network told with another. -/
def CallRec.clearedBy (r : CallRec) (c : CallCause) (d : OwnDropCause) : Prop :=
  (r.state = .offering ∨ r.state = .ringingOut) ∧ c = .noAnswer ∧ d = .noAnswer ∨
    r.state = .answering ∧ c = .noAnswer ∧ d = .normal ∨
    r.state = .incoming ∧ r.arrived = true ∧ c = r.unanswered ∧ d = .noAnswer

/-- R87, R91, R93, R94: a record whose timer frees it with a cause, in a handover of its connection or not. -/
def CallRec.freedBy (r : CallRec) (moving : Prop) (c : CallCause) : Prop :=
  moving ∧ c = .moveLost ∧
      (r.state ∈ [CallState.offering, .ringingOut, .answering] ∨ r.state = .incoming ∧ r.arrived = true) ∨
    r.state = .incoming ∧ r.arrived = false ∧ c = r.unanswered ∨
    r.state = .clearing ∧ c = r.cause.getD .noAnswer ∨
    r.state = .blocked ∧ c = .notAnswered

/-- R86, R87, R89: outside a handover the timer of a call clears it, and the network is told. -/
theorem State.callTimerExpired_clears (hm : ¬(s.ctx.handover ≠ .none ∧ s.connection x ≠ none)) {c : CallCause}
    {d : OwnDropCause} (h : (s.call i).clearedBy c d) :
    s.callTimerExpired i =
      { s.callTold i ((s.call i).clearing s.now c) 1 with ctx := (s.offer (.drop d)).ctx } := by
  have still (hb : (s.call i).state ≠ .blocked) : (s.stopped i).callInHandover i = false := by
    rw [← Bool.not_eq_true, State.stopped_callInHandover hx hb]
    exact hm
  unfold State.callTimerExpired
  rcases h with ⟨hs | hs, rfl, rfl⟩ | ⟨hs, rfl, rfl⟩ | ⟨hs, ha, rfl, rfl⟩
  · simp [State.modCall_stopped, State.stopped_call, hs, still, State.stopped_clearCall]
  · simp [State.modCall_stopped, State.stopped_call, hs, still, State.stopped_clearCall]
  · simp [State.modCall_stopped, State.stopped_call, hs, still, State.stopped_clearCall]
  · simp [State.modCall_stopped, State.stopped_call, hs, ha, still, State.stopped_clearCall, CallRec.unanswered]

/-- R94, R87, R91, R93: a timer that frees the record. -/
theorem State.callTimerExpired_frees {c : CallCause}
    (h : (s.call i).freedBy (s.ctx.handover ≠ .none ∧ s.connection x ≠ none) c) : s.callTimerExpired i =
      if (s.call i).state = .blocked ∧ s.connection x = none then s.callTold i ((s.call i).freed c) 1
      else (s.callTold i ((s.call i).freed c) 1).callGone x := by
  have moves (hm : s.ctx.handover ≠ .none ∧ s.connection x ≠ none) (hb : (s.call i).state ≠ .blocked) :
      (s.stopped i).callInHandover i = true := (State.stopped_callInHandover hx hb).2 hm
  unfold State.callTimerExpired
  rcases h with ⟨hm, rfl, hs | ⟨hs, ha⟩⟩ | ⟨hs, ha, rfl⟩ | ⟨hs, rfl⟩ | ⟨hs, rfl⟩
  · simp only [List.mem_cons, List.not_mem_nil, or_false] at hs
    rcases hs with hs | hs | hs <;> simp [State.modCall_stopped, State.stopped_call, hs, moves hm, State.stopped_freeAndLeave hx]
  · simp [State.modCall_stopped, State.stopped_call, hs, ha, moves hm, State.stopped_freeAndLeave hx]
  · simp [State.modCall_stopped, State.stopped_call, hs, ha, State.stopped_freeAndLeave hx, CallRec.unanswered]
  · simp [State.modCall_stopped, State.stopped_call, hs, State.stopped_freeAndLeave hx]
  · simp [State.modCall_stopped, State.stopped_call, hs, State.stopped_freeAndLeave hx]

end

end

/-! ### The messages of the network (R12) -/

section
variable {s : State} {x : Sub} {i : CallId} (hi : s.callOf x = some i)
include hi

theorem State.progressed_eq : s.progressed x = if (s.call i).state = .offering then
    s.callTold i { s.call i with state := .ringingOut, timer := some (slotAdd s.now 120000) } 3 else s := by
  simp only [State.progressed, hi]
  split
  next h => exact State.enterCall_told (by simp [h]) _ _
  next => rfl

theorem State.joined_eq : s.joined x = if (s.call i).state ∈ [CallState.offering, .ringingOut, .answering] then
    { s.callTold i { s.call i with state := .connected, timer := none } 1 with voice := s.voice.start } else s := by
  simp only [State.joined, hi, List.mem_cons, List.not_mem_nil, or_false]
  split
  next h =>
    rw [State.enterCall_told (by rcases h with h | h | h <;> simp [h])]
    rfl
  next => rfl

/-- R91: a record other than a BLOCKED one that is freed. -/
theorem State.freeAndLeave_call (c : CallCause) : s.freeAndLeave i c = s.callFreed x i c := by
  obtain ⟨hx, -, hb⟩ := State.callOf_eq_some hi
  rw [State.freeAndLeave_eq hx, if_neg fun h => hb h.1, State.freeCall_eq]
  rfl

theorem State.dropConfirmed_eq : s.dropConfirmed x =
    if (s.call i).state = .clearing then s.callFreed x i ((s.call i).cause.getD .normal) else s := by
  simp only [State.dropConfirmed, hi, State.freeAndLeave_call hi]

theorem State.dropped_eq (c : DropCause) : s.dropped x c = if (s.call i).state = .dialling then s.offer .dropOk
    else (s.offer .dropOk).callFreed x i
      (if (s.call i).state = .clearing then (s.call i).cause.getD (dropCause c) else dropCause c) := by
  have same : (s.offer .dropOk).callOf x = some i := hi
  have call : (s.offer .dropOk).call i = s.call i := rfl
  simp only [State.dropped, same, call, State.freeAndLeave_call same]
  cases (s.call i).state <;> simp

omit hi in
/-- R87: RING is offered for a record that has been told of its caller; for one answered TAKE follows. -/
theorem State.ringNow_told {r : CallRec} (hr : r.state ≠ .connected) : (s.callTold i r 4).ringNow i =
    if r.answered = true then
      { s.callTold i { r with ringWaits := false, state := .answering, timer := some (slotAdd s.now 20000) } 5 with
        ctx := ((s.offer .ring).offer .take).ctx }
    else
      { s.callTold i { r with ringWaits := false, timer := some (slotAdd s.now 60000) } 4 with
        ctx := (s.offer .ring).ctx } := by
  let rings : CallRec := { r with ringWaits := false, timer := some (slotAdd s.now 60000) }
  let rung : State := { s.callTold i rings 4 with ctx := (s.offer .ring).ctx }
  have call : rung.call i = rings := by cases i <;> rfl
  have steps : (s.callTold i r 4).ringNow i =
      if (rung.call i).answered = true then (rung.offer .take).enterCall i .answering 0 else rung := by cases i <;> rfl
  rw [steps, call]
  refine if_congr Iff.rfl ?_ rfl
  let taken : State := { s with ctx := (rung.offer .take).ctx }
  have told : (rung.offer .take).enterCall i .answering 0 =
      (taken.callTold i r 4).callTold i { rings with state := .answering, timer := some (slotAdd s.now 20000) } 1 := by
    rw [State.enterCall_told (by rw [show (rung.offer .take).call i = rings from call]; exact hr),
      show (rung.offer .take).call i = rings from call]
    cases i <;> rfl
  rw [told, State.callTold_callTold]
  cases i <;> rfl

/-- R87: an ARRIVE for an INCOMING record that has not arrived. -/
theorem State.arrived_eq (hs : (s.call i).state = .incoming) (ha : (s.call i).arrived = false) (caller : Option Digits) :
    s.arrived x caller =
      let here : CallRec := { s.call i with number := caller, arrived := true }
      if s.registering x = true then s.callTold i { here with ringWaits := true } 4
      else if (s.call i).answered = true then
        { s.callTold i { here with ringWaits := false, state := .answering, timer := some (slotAdd s.now 20000) } 5 with
          ctx := ((s.offer .ring).offer .take).ctx }
      else
        { s.callTold i { here with ringWaits := false, timer := some (slotAdd s.now 60000) } 4 with
          ctx := (s.offer .ring).ctx } := by
  let here : CallRec := { s.call i with number := caller, arrived := true, ringWaits := s.registering x }
  have steps : s.arrived x caller =
      if s.registering x = true then s.callTold i here 4 else (s.callTold i here 4).ringNow i := by
    simp only [State.arrived, hi, hs, ha, and_self, if_true]
    cases i <;> rfl
  rw [steps]
  cases hr : s.registering x with
  | true => simp only [here, hr, if_true]
  | false =>
    rw [State.ringNow_told (by simp [here, hs])]
    rfl

theorem State.arrived_stands (h : (s.call i).state ≠ .incoming ∨ (s.call i).arrived = true) (caller : Option Digits) :
    s.arrived x caller = s := by
  simp only [State.arrived, hi]
  exact if_neg fun ⟨hs, ha⟩ => h.elim (· hs) (by simp [ha])

end

/-- R12: the fields of an ARRIVE that lie in range. -/
theorem State.received_arrive (s : State) (x : Sub) (frame : Slot) {caller : Option Digits}
    (h : ∀ ds, caller = some ds → 1 ≤ ds.length ∧ ds.length ≤ 20 ∧ ∀ d ∈ ds, d.toNat ≤ 9) :
    s.received x frame (.arrive caller) = s.arrived x caller := by
  have good : downInRange (.arrive caller) = true := by
    cases caller with
    | none => rfl
    | some ds => exact (digitsInRange_iff ds).2 (h ds rfl)
  simp [State.received, good]

/-- R12: a JOIN moves the slots, and reaches the call, when its offsets lie in range. -/
theorem State.received_join (s : State) (x : Sub) (frame : Slot) (rx tx : Nat) : s.received x frame (.join rx tx) =
    if 2 ≤ rx ∧ rx ≤ 9 ∧ 2 ≤ tx ∧ tx ≤ 9 ∧ (rx + 2 ≤ tx ∨ tx + 2 ≤ rx) then (s.moveSlots frame rx tx).joined x else s := by
  simp only [State.received, downInRange, offsetsInRange, grantValid, Bool.not_eq_true', decide_eq_false_iff_not, ite_not]

theorem State.moveSlots_same {s : State} {x : Sub} {c : Context} (hc : s.connection x = some c) (frame : Slot) :
    s.moveSlots frame c.rx c.tx = s := by
  obtain ⟨ha, -⟩ := State.connection_eq_some.1 hc
  simp [State.moveSlots, ha]

/-! ### A JOIN that moves the slots (R104, log 48) -/

/-- R47: a newcomer in conflict with none takes its place. -/
theorem settleIn_beside {w : Window} {ws : List Window} (h : ∀ v ∈ ws, conflict w v = false) (hl : ws.length < 32) :
    settleIn w ws = (place w ws, []) := by
  have none : (ws.filter fun v => conflict w v) = [] := by rw [List.filter_eq_nil_iff]; intro v hv; simp [h v hv]
  have all : (ws.filter fun v => !conflict w v) = ws := by rw [List.filter_eq_self]; intro v hv; simp [h v hv]
  unfold settleIn
  simp [none, all, replaceEach, enter, calendarRoom, hl]

/-- R43 to R47: an insertion in time that matches no window and conflicts with none. -/
theorem State.insert_beside {s : State} {i : Insertion} (hm : s.matching i = none) (hq : s.cal.quiet = false)
    (hnear : 3 ≤ (i.start - s.now).toNat) (hfar : (i.start - s.now).toNat < 2 ^ 31)
    (hc : ∀ v ∈ s.cal.windows, conflict (s.newWindow i) v = false) (hl : s.cal.windows.length < 32) :
    s.insert i = (s.cal.counter, { s with
      cal := { s.cal with counter := s.cal.counter + 1, windows := place (s.newWindow i) s.cal.windows } }) := by
  have intime : s.tooLate i.start = false := by
    have ahead : liesAhead s.now i.start 3 = true := decide_eq_true ⟨hnear, hfar⟩
    simp [State.tooLate, hq, ahead]
  unfold State.insert
  simp only [hm, intime, settleIn_beside hc hl]
  rfl

/-- A DED window of one slot of a connection, PLANNED. -/
def Context.dedWindow (c : Context) (id : WinId) (p : WinPurpose) (start : Slot) : Window :=
  { id := id, owner := .sub c.sub, reporter := .context, purpose := p, cls := .dedicated, channel := c.cell.channel
    start := start, len := 1, requested := start, slack := none, block := none, state := .planned, withdrawn := false }

/-- R11: the windows of a frame of offsets in range, inserted in an empty calendar. -/
theorem State.insertDed_frame {s : State} {c : Context} {start : Slot} {rx tx : Nat} (hw : s.cal.windows = [])
    (hq : s.cal.quiet = false) (hnear : 3 ≤ (start - s.now).toNat) (hfar : (start - s.now).toNat < 2 ^ 31 - 10)
    (hrx : rx ≤ 9) (htx : tx ≤ 9) (hgap : rx + 2 ≤ tx ∨ tx + 2 ≤ rx) :
    let rxWin := c.dedWindow s.cal.counter .dedRx (slotAdd start rx)
    let txWin := c.dedWindow (s.cal.counter + 1) .dedTx (slotAdd start tx)
    ∃ t, s.insertDed c .dedRx (slotAdd start rx) = (s.cal.counter, t) ∧
      t.insertDed c .dedTx (slotAdd start tx) = (s.cal.counter + 1, { s with cal := { s.cal with
        counter := s.cal.counter + 2, windows := if rx < tx then [rxWin, txWin] else [txWin, rxWin] } }) := by
  intro rxWin txWin
  have ahead {n : Nat} (hn : n ≤ 9) : 3 ≤ (slotAdd start n - s.now).toNat ∧ (slotAdd start n - s.now).toNat < 2 ^ 31 := by
    unfold slotAdd
    have := BitVec.toNat_ofNat (w := 32) n
    bv_omega
  let t : State := { s with cal := { s.cal with counter := s.cal.counter + 1, windows := [rxWin] } }
  have first : s.insertDed c .dedRx (slotAdd start rx) = (s.cal.counter, t) :=
    State.insert_empty hw hq (ahead hrx).1 (ahead hrx).2
  refine ⟨t, first, ?_⟩
  have apart : conflict txWin rxWin = false := by
    simp only [conflict, shareSlot, txWin, rxWin, Context.dedWindow, slotsTo, slotAdd, ne_eq, not_true, decide_false,
      Bool.false_and, Bool.or_false, decide_eq_false_iff_not]
    bv_omega
  have order : before txWin rxWin = decide (¬rx < tx) := by
    have unequal : slotAdd start tx ≠ slotAdd start rx := by
      unfold slotAdd
      bv_omega
    simp only [before, txWin, rxWin, Context.dedWindow, unequal, decide_false, Bool.false_and, Bool.or_false]
    rw [Bool.eq_iff_iff, isLater_iff, decide_eq_true_eq]
    unfold slotAdd
    bv_omega
  have unmatched : t.matching { owner := .sub c.sub, reporter := .context, purpose := .dedTx, channel := c.cell.channel
                                start := slotAdd start tx, len := 1, slack := none, block := none } = none := by
    simp [State.matching, t, rxWin, Context.dedWindow]
  have placed : place txWin [rxWin] = if rx < tx then [rxWin, txWin] else [txWin, rxWin] := by
    by_cases h : rx < tx <;> simp [place, order, h]
  refine (State.insert_beside (s := t) unmatched hq (ahead htx).1 (ahead htx).2 ?_ (by simp [t])).trans ?_
  · intro v hv
    rw [List.mem_singleton.1 hv]
    exact apart
  · have count : s.cal.counter + 1 + 1 = s.cal.counter + 2 := BitVec.add_assoc ..
    rw [← placed, ← count]
    rfl

/-- A window of a frame later than a slot, PLANNED at the time, moves with a JOIN (log 48). -/
def DedFrame.moves (was : State) (at_ : Slot) (f : DedFrame) (w : Option WinId) : Bool :=
  isLater f.start at_ && (w.map was.isPlanned).getD false

/-- The windows of a frame that a JOIN moves are withdrawn. -/
def State.takeBack (was : State) (at_ : Slot) (s : State) (f : DedFrame) : State :=
  let s := if f.moves was at_ f.rx then s.withdrawOpt f.rx else s
  if f.moves was at_ f.tx then s.withdrawOpt f.tx else s

/-- They are inserted again at the connection's offsets. -/
def State.replan (was : State) (at_ : Slot) (c : Context) (p : State × List DedFrame) (f : DedFrame) : State × List DedFrame :=
  let (r, s1) := p.1.reinsert c .dedRx (slotAdd f.start c.rx) (f.moves was at_ f.rx) f.rx
  let (t, s2) := s1.reinsert c .dedTx (slotAdd f.start c.tx) (f.moves was at_ f.tx) f.tx
  (s2, p.2 ++ [{ f with rx := r, tx := t }])

/-- R104: a JOIN to other offsets. -/
theorem State.moveSlots_eq {s : State} {c : Context} {rx tx : Nat} (hc : s.ctx.active = some c) (hd : rx ≠ c.rx ∨ tx ≠ c.tx)
    (at_ : Slot) : s.moveSlots at_ rx tx =
      let u : State := { s with ctx := { s.ctx with active := some { c with rx := rx, tx := tx } } }
      let v := s.ctx.frames.foldl (State.takeBack s at_) u
      let p := v.ctx.frames.foldl (State.replan s at_ { c with rx := rx, tx := tx }) (v, [])
      { p.1 with ctx := { p.1.ctx with frames := p.2 } } := by
  have moved : ¬(c.rx = rx ∧ c.tx = tx) := fun ⟨hr, ht⟩ => hd.elim (· hr.symm) (· ht.symm)
  unfold State.moveSlots
  simp only [hc, if_neg moved]
  rfl

/-- A frame that is not later stands. -/
theorem State.takeBack_stands {at_ : Slot} {f : DedFrame} (h : isLater f.start at_ = false) (was s : State) :
    State.takeBack was at_ s f = s := by simp [State.takeBack, DedFrame.moves, h]

theorem State.replan_stands {at_ : Slot} {f : DedFrame} (h : isLater f.start at_ = false) (was s : State) (c : Context)
    (fs : List DedFrame) : State.replan was at_ c (s, fs) f = (s, fs ++ [f]) := by
  simp [State.replan, DedFrame.moves, h, State.reinsert]

section
variable {was : State} {at_ : Slot} {g : DedFrame} {v w : WinId} (hlater : isLater g.start at_ = true) (hv : g.rx = some v)
  (hw : g.tx = some w) (hpv : was.isPlanned v = true) (hpw : was.isPlanned w = true)
include hlater hv hw hpv hpw

theorem State.takeBack_moves (s : State) : State.takeBack was at_ s g = (s.withdraw v).withdraw w := by
  simp [State.takeBack, DedFrame.moves, hlater, hv, hw, hpv, hpw, State.withdrawOpt]

theorem State.replan_moves {s t u : State} {c : Context} {a b : WinId} (h1 : s.insertDed c .dedRx (slotAdd g.start c.rx) = (a, t))
    (h2 : t.insertDed c .dedTx (slotAdd g.start c.tx) = (b, u)) (fs : List DedFrame) :
    State.replan was at_ c (s, fs) g = (u, fs ++ [{ g with rx := some a, tx := some b }]) := by
  simp [State.replan, DedFrame.moves, hlater, hv, hw, hpv, hpw, State.reinsert, h1, h2]

end

/-- R104, R11: a JOIN moves the PLANNED windows of the one frame that is later, the calendar holding those alone. -/
theorem State.moveSlots_frame {s : State} {c : Context} {frame : Slot} {rx tx : Nat} {f g : DedFrame} {v w : Window}
    (hc : s.ctx.active = some c) (hrx : rx ≤ 9) (htx : tx ≤ 9) (hgap : rx + 2 ≤ tx ∨ tx + 2 ≤ rx) (hd : rx ≠ c.rx ∨ tx ≠ c.tx)
    (hf : s.ctx.frames = [f, g]) (hpast : isLater f.start frame = false) (hlater : isLater g.start frame = true)
    (hv : g.rx = some v.id) (hw : g.tx = some w.id) (hne : v.id ≠ w.id) (hq : s.cal.quiet = false)
    (hcal : s.cal.windows = [v, w] ∨ s.cal.windows = [w, v]) (hpv : v.state = .planned) (hpw : w.state = .planned)
    (hnear : 3 ≤ (g.start - s.now).toNat) (hfar : (g.start - s.now).toNat < 2 ^ 31 - 10) :
    s.moveSlots frame rx tx =
      let rxWin := c.dedWindow s.cal.counter .dedRx (slotAdd g.start rx)
      let txWin := c.dedWindow (s.cal.counter + 1) .dedTx (slotAdd g.start tx)
      { s with
        ctx := { s.ctx with
          active := some { c with rx := rx, tx := tx }
          frames := [f, { g with rx := some s.cal.counter, tx := some (s.cal.counter + 1) }] }
        cal := { s.cal with counter := s.cal.counter + 2, windows := if rx < tx then [rxWin, txWin] else [txWin, rxWin] } } := by
  let freed : State :=
    { s with ctx := { s.ctx with active := some { c with rx := rx, tx := tx } }, cal := { s.cal with windows := [] } }
  have planned : s.isPlanned v.id = true ∧ s.isPlanned w.id = true := by
    rcases hcal with hcal | hcal <;> simp [State.isPlanned, hcal, Window.isPlanned, hpv, hpw]
  have withdrawn : (({ s with ctx := { s.ctx with active := some { c with rx := rx, tx := tx } } } : State).withdraw v.id).withdraw
      w.id = freed := by
    rcases hcal with hcal | hcal <;>
      simp [State.withdraw, State.modCal, hcal, Window.isPlanned, hpv, hpw, hne.symm, freed]
  obtain ⟨t, hone, htwo⟩ := State.insertDed_frame (s := freed) (c := { c with rx := rx, tx := tx }) rfl hq hnear hfar hrx htx hgap
  have frames : freed.ctx.frames = [f, g] := hf
  rw [State.moveSlots_eq hc hd, hf]
  simp only [List.foldl_cons, List.foldl_nil, State.takeBack_stands hpast,
    State.takeBack_moves hlater hv hw planned.1 planned.2, withdrawn, frames, State.replan_stands hpast,
    State.replan_moves hlater hv hw planned.1 planned.2 hone htwo]
  rfl

/-- Settles O46: a timer's expiry is told by `State.callTimerExpired_clears` and `State.callTimerExpired_frees`, a message by what
its kind makes of the call of the connection, and a JOIN that moves the slots by `State.moveSlots_frame`. -/
theorem timersAndTheNetworkMoveTheCall : Obligations.TimersAndTheNetworkMoveTheCall := by
  refine ⟨?_, ?_⟩
  · intro i u x s ha hq ht hu hx run moving told freed cleared unanswered
    have runs : run = settle (s.callTimerExpired i) := exec_callTimerExpiry ha ht hu
    have clears (hm : ¬moving) {c : CallCause} {d : OwnDropCause} (h : (s.call i).clearedBy c d) :
        run = .next (cleared c d) := by
      rw [runs, State.callTimerExpired_clears hx hm h]
      exact settle_quiet hq
    have frees {c : CallCause} (h : (s.call i).freedBy moving c) (hb : (s.call i).state ≠ .blocked) :
        run = settle ((freed c).callGone x) := by
      rw [runs, State.callTimerExpired_frees hx h, if_neg fun h => hb h.1]
      rfl
    refine ⟨fun hm => ⟨fun hs => clears hm (.inl ⟨hs, rfl, rfl⟩), fun hs => clears hm (.inr (.inl ⟨hs, rfl, rfl⟩)),
        fun hs harrived => clears hm (.inr (.inr ⟨hs, harrived, rfl, rfl⟩))⟩,
      fun hm hs => frees (.inl ⟨hm, rfl, hs⟩) ?_, fun hs harrived => frees (.inr (.inl ⟨hs, harrived, rfl⟩)) (by simp [hs]),
      fun hs => frees (.inr (.inr (.inl ⟨hs, rfl⟩))) (by simp [hs]), fun hs => ?_⟩
    · rintro hb
      simp [hb] at hs
    · rw [runs, State.callTimerExpired_frees hx (.inr (.inr (.inr ⟨hs, rfl⟩)))]
      simp only [hs, true_and]
      split
      · exact settle_quiet hq
      · rfl
  intro x c frame s hc net good dialled
  refine ⟨fun hi => ?_, fun i hi => ?_, fun rx tx hbad => ?_, ?_⟩
  · refine ⟨by simp [net, State.received, downInRange, State.progressed, hi],
      by simp [net, State.received, downInRange, State.dropConfirmed, hi], fun hg => ?_,
      fun cause => ?_, fun caller hcaller => ?_⟩
    · refine (State.received_join s x frame c.rx c.tx).trans ((if_pos hg).trans ?_)
      simp [State.moveSlots_same hc, State.joined, hi]
    · have same : (s.offer .dropOk).callOf x = none := hi
      simp [net, State.received, downInRange, State.dropped, same]
    · refine (State.received_arrive s x frame hcaller).trans ?_
      simp [State.arrived, hi]
  · intro r
    refine ⟨State.progressed_eq hi, fun hg => ?_, fun cause => State.dropped_eq hi cause, State.dropConfirmed_eq hi,
      fun caller hcaller => ?_⟩
    · refine (State.received_join s x frame c.rx c.tx).trans ((if_pos hg).trans ?_)
      rw [State.moveSlots_same hc, State.joined_eq hi]
    · intro here
      have arrives := State.received_arrive s x frame hcaller
      refine ⟨fun h => arrives.trans (State.arrived_stands hi h caller), fun hs harrived => ?_⟩
      have rings := arrives.trans (State.arrived_eq hi hs harrived caller)
      rw [State.registering_eq hc] at rings
      refine ⟨fun hreg => rings.trans (if_pos (decide_eq_true hreg)), fun hreg => ?_⟩
      have rings := rings.trans (if_neg (by simpa using hreg))
      exact ⟨fun hans => rings.trans (if_neg (by simpa using hans)), fun hans => rings.trans (if_pos hans)⟩
  · exact (State.received_join s x frame rx tx).trans (if_neg hbad)
  · rintro rx tx f g v w hg hd hf hpast hlater hv hw hne hq hcal hpv hpw - - hnear hfar ded one two
    obtain ⟨ha, rfl⟩ := State.connection_eq_some.1 hc
    have joins (u : State) : u.received c.sub frame (.join rx tx) = (u.moveSlots frame rx tx).joined c.sub :=
      (State.received_join u c.sub frame rx tx).trans (if_pos hg)
    obtain ⟨-, hrx, -, htx, hgap⟩ := hg
    have past : isLater f.start frame = false := by
      rw [← Bool.not_eq_true, isLater_iff]
      omega
    refine (joins s).trans (Eq.trans ?_ (joins _).symm)
    rw [State.moveSlots_frame ha hrx htx hgap hd hf past (isLater_iff.2 hlater) hv hw hne hq hcal hpv hpw hnear hfar]
    exact congrArg (fun u : State => u.joined c.sub) (State.moveSlots_same (c := { c with rx := rx, tx := tx })
      (State.connection_eq_some.2 ⟨rfl, rfl⟩) frame).symm

end Sys2Proof.Machine
end

section
/-! SUPPORT. CALL_END outside a handover (R92), and what the end of a call leaves of the CALL purpose (R95, R96, R99). -/

namespace Sys2Proof.Machine

open Sys2Proof

/-! ### The CALL purpose of a record that became FREE (R95, R96, R99) -/

section
variable {s : State} {x : Sub} {c : Context} (hc : s.connection x = some c)
include hc

theorem State.callGone_used (h : s.inUse x = true) : s.callGone x = s := by
  simp only [State.callGone, hc, h, if_true]

/-- R96: CALL leaves a connection on which no registration is due. -/
theorem State.callGone_leaves (hu : s.inUse x = false) (hl : Purpose.leave ∉ c.purposes)
    (h : (s.sub x).areaChanged = false ∨ Purpose.call ∉ c.purposes ∨ Purpose.register ∈ c.purposes) :
    s.callGone x = s.leftBy c .call := by
  rw [← State.leaveConn_eq hc hl]
  have due : ((s.sub x).areaChanged && !s.leaving x && c.purposes.contains .call && !c.purposes.contains .register) = false := by
    rcases h with h | h | h <;> simp [h]
  simp only [State.callGone, hc, hu, due]
  rfl

/-- R99: a registration that the call held back joins the connection. -/
theorem State.callGone_registers (hu : s.inUse x = false) (ha : (s.sub x).areaChanged = true) (hd : (s.sub x).detaching = none)
    (hcall : Purpose.call ∈ c.purposes) (hreg : Purpose.register ∉ c.purposes) :
    s.callGone x = (({ s with
      ctx := { s.ctx with
        active := some { c with purposes := c.purposes.filter (fun p => decide (p ≠ .call)) ++ [.register] } } } :
      State).removeMsgs UpMsg.isDone).offer (.enrol ((s.sub x).identity.getD 0) (s.sub x).area) := by
  have due : ((s.sub x).areaChanged && !s.leaving x && c.purposes.contains .call && !c.purposes.contains .register) = true := by
    simp [ha, State.leaving, hd, hcall, hreg]
  have left : (s.withActive { c with purposes := without .call c.purposes }).connection x =
      some { c with purposes := without .call c.purposes } := by
    obtain ⟨-, rfl⟩ := State.connection_eq_some.1 hc
    exact s.withActive_connection { c with purposes := without .call c.purposes }
  have joins : addOnce .register (without .call c.purposes) =
      c.purposes.filter (fun p => decide (p ≠ .call)) ++ [.register] := by
    simp [addOnce, without, hreg]
  simp only [State.callGone, hc, hu, due, if_true]
  rw [State.modPurposes_eq hc, State.modPurposes_eq left, joins]
  rfl

end

section
variable {s : State} {x : Sub} (hc : s.connection x = none)
include hc

theorem State.callGone_call (h : s.callOf x ≠ none) : s.callGone x = s := by
  simp [State.callGone, hc, Option.isSome_iff_ne_none, h]

theorem State.callGone_purpose (h : s.callOf x = none) : s.callGone x = s.purposeLeaves x .call := by
  simp [State.callGone, hc, h]

/-- R95: without an attempt the CALL purpose leaves the request alone. -/
theorem State.callGone_queue (h : s.callOf x = none) (ha : ∀ a, s.engaged ≠ some { sub := x, stage := .attempt a }) :
    s.callGone x = { s with engQueue := queueWithout x .call s.engQueue } := by
  let u : State := { s with engQueue := queueWithout x .call s.engQueue }
  have unconnected : u.connection x = none := hc
  have stands : u.leaveConn x .call = u := by simp [State.leaveConn, State.modPurposes, State.settleConn, unconnected]
  have left : s.leaveQueue x .call = u := rfl
  rw [State.callGone_purpose hc h, State.purposeLeaves, left]
  replace ha (a : Attempt) : u.engaged ≠ some { sub := x, stage := .attempt a } := ha a
  change _ = u
  clear_value u
  cases he : u.engaged with
  | none => rfl
  | some e =>
    obtain ⟨y, st⟩ := e
    by_cases hy : y = x
    · subst hy
      simp only [if_true]
      cases st with
      | attempt a => exact absurd he (ha a)
      | connected => exact stands
      | confirming w f => rfl
    · simp only [if_neg hy]

/-- R95: the CALL purpose leaves an attempt; one left without purposes is abandoned. -/
theorem State.callGone_attempt (h : s.callOf x = none) {a : Attempt} (he : s.engaged = some { sub := x, stage := .attempt a }) :
    let rest := a.purposes.filter fun p => decide (p ≠ .call)
    let u : State := { s with engQueue := queueWithout x .call s.engQueue }
    s.callGone x = if rest = [] then ((u.withdrawAttempt x).backToCamped x).grantIfFree
      else { u with engaged := some { sub := x, stage := .attempt { a with purposes := rest } } } := by
  intro rest u
  have engaged : u.engaged = some { sub := x, stage := .attempt a } := he
  have left : s.leaveQueue x .call = u := rfl
  rw [State.callGone_purpose hc h, State.purposeLeaves, left]
  simp only [engaged, if_true]
  refine if_congr Iff.rfl rfl ?_
  simp only [State.setStage, engaged, Option.map_some, if_true]
  rfl

end

/-! ### CALL_END outside a handover (R92) -/

theorem exec_callEnd {s : State} {tag id : Byte} {i : CallId} (ha : s.accepts tag (.callEnd id)) (hi : callIdOf id = some i)
    (hf : (s.call i).state ≠ .free) : exec (.callEnd tag id) s = settle ((s.replied tag 0x22 .done .none).endCall i) := by
  have used : ((s.reserveHead tag 0x22).call i).state ≠ .free := hf
  unfold exec execCallEnd
  refine (dispatched_accepts ha _).trans ?_
  rw [← State.reserveHead_answer s tag 0x22]
  simp only [hi]
  exact congrArg settle (if_neg used)

/-- R92: outside a handover of its connection a call is cleared by its state. -/
theorem State.endCall_clears {s : State} {i : CallId} (h : s.ctx.handover = .none ∨ (s.call i).state = .blocked ∨
    (∃ x, (s.call i).sub = some x ∧ s.connection x = none)) : s.endCall i = s.localClear i .byHost := by
  have still : s.callInHandover i = false := by
    unfold State.callInHandover
    rcases h with h | h | ⟨x, hx, hc⟩
    · simp [State.inHandover, h]
    · cases (s.call i).sub <;> simp [h]
    · simp [hx, hc]
  simp [State.endCall, still]

section
variable {s : State} {i : CallId}

/-- R92: a record whose end the network learns nothing of is freed. -/
theorem State.localClear_frees (h : (s.call i).state = .blocked ∨ (s.call i).state = .dialling ∨ (s.call i).state = .requesting ∨
    ((s.call i).state = .incoming ∧ (s.call i).arrived = false)) (c : CallCause) : s.localClear i c = s.freeAndLeave i c := by
  unfold State.localClear
  rcases h with h | h | h | ⟨h, ha⟩
  · simp only [h]
  · simp only [h]
  · simp only [h]
  · simp only [h, ha, Bool.false_eq_true, if_false]

/-- R92: a DIAL that is unsent leaves the queue. -/
theorem State.localClear_unsent (h : (s.call i).state = .offering) (hd : s.unsent UpMsg.isDial = true) (c : CallCause) :
    s.localClear i c = (s.removeMsgs UpMsg.isDial).freeAndLeave i c := by
  unfold State.localClear
  simp only [h, hd, if_true]

/-- R92: a call that the network knows of is CLEARING, and DROP is offered. -/
theorem State.localClear_offers (h : (s.call i).state ∈ [CallState.ringingOut, .answering, .connected] ∨
    ((s.call i).state = .incoming ∧ (s.call i).arrived = true) ∨
    ((s.call i).state = .offering ∧ s.unsent UpMsg.isDial = false)) (c : CallCause) :
    s.localClear i c = s.droppedLocally i c := by
  rw [State.droppedLocally, ← State.offer_clearCall]
  rcases h with h | ⟨h, ha⟩ | ⟨h, hd⟩
  · exact State.localClear_drops h c
  · simp only [State.localClear, h, ha, if_true]
  · simp only [State.localClear, h, hd, Bool.false_eq_true, if_false]

end

end Sys2Proof.Machine
end

section
/-! SUPPORT. What the windows, the measurements and the search of a subscription leave alone: the calls, the context records, the
voice path, the texts, the store and the link (R24, R55, R64, R66, R76). -/

namespace Sys2Proof.Machine

open Sys2Proof

/-- The dedicated context unit but for the offers that wait while a connection runs (R78). -/
def CtxUnit.bare (c : CtxUnit) : CtxUnit := { c with waiting := if c.active.isSome = true then [] else c.waiting }

/-- The parts of a state that belong neither to the calendar nor to the measurement unit nor to the subscription records. -/
structure Aside where
  calls : Calls
  ctx : CtxUnit
  voice : Voice
  text : Text
  store : Store
  power : Power
  link : Link
  engQueue : List EngRequest
  engaged : Option Engaged

/-- These parts of a state. -/
def State.aside (s : State) : Aside :=
  { calls := s.calls, ctx := s.ctx.bare, voice := s.voice, text := s.text, store := s.store, power := s.power, link := s.link
    engQueue := s.engQueue, engaged := s.engaged }

theorem engQueue_of_aside {s t : State} (h : t.aside = s.aside) : t.engQueue = s.engQueue := congrArg Aside.engQueue h

theorem State.withdrawAll_aside (s : State) (p : Window → Bool) : (s.withdrawAll p).aside = s.aside := rfl

theorem State.modSub_aside (s : State) (x : Sub) (f : SubRec → SubRec) : (s.modSub x f).aside = s.aside := rfl

theorem State.withdrawOpt_aside (s : State) (w : Option WinId) : (s.withdrawOpt w).aside = s.aside := by cases w <;> rfl

/-! ### The measurement unit -/

theorem State.mapEntries_aside (s : State) (f : Entry → Entry) : (s.mapEntries f).aside = s.aside := rfl

theorem State.unbind_aside (s : State) (w : WinId) : (s.unbind w).aside = s.aside := by
  unfold State.unbind
  split <;> rfl

theorem State.dropReports_aside {s : State} {x : Sub} (h : (s.connection x).isSome = true) : s.dropReports.aside = s.aside := by
  obtain ⟨c, hc⟩ := Option.isSome_iff_exists.1 h
  obtain ⟨ha, -⟩ := State.connection_eq_some.1 hc
  simp [State.aside, CtxUnit.bare, State.dropReports, State.modCtx, ha]

theorem State.setMode_aside (s : State) (x : Sub) (mode : Mode) : (s.setMode x mode).aside = s.aside := by
  have unbound (ws : List WinId) : (ws.foldl State.unbind s).aside = s.aside :=
    foldl_keeps State.aside _ _ _ fun u w => u.unbind_aside w
  unfold State.setMode
  dsimp only
  split
  next h => exact (State.dropReports_aside h).trans (unbound _)
  next => exact unbound _

theorem State.endResel_aside (s : State) (x : Sub) : (s.endResel x).aside = s.aside := by
  unfold State.endResel
  split <;> rfl

theorem State.endReselAt_aside (s : State) (x : Sub) (i : Nat) : (s.endReselAt x i).aside = s.aside := by
  unfold State.endReselAt
  split
  · exact s.endResel_aside x
  · rfl

theorem State.dropTries_aside (s : State) (x : Sub) (i : Nat) : (s.dropTries x i).aside = s.aside := by
  unfold State.dropTries
  split <;> rfl

theorem State.deleteEntry_aside (s : State) (e : Entry) : (s.deleteEntry e).aside = s.aside := by
  unfold State.deleteEntry
  dsimp only
  rw [State.endReselAt_aside, State.endReselAt_aside, State.dropTries_aside, State.dropTries_aside]
  split
  · rfl
  · exact s.withdrawOpt_aside e.bound

theorem State.deleteIdle_aside (s : State) (keep : Option CellId) : (s.deleteIdle keep).aside = s.aside :=
  foldl_keeps State.aside _ _ _ fun u e => u.deleteEntry_aside e

theorem State.campsNoMore_aside (s : State) (x : Sub) : (s.campsNoMore x).aside = s.aside := by
  unfold State.campsNoMore
  dsimp only
  rw [State.recompute, State.mapEntries_aside, State.deleteIdle_aside, State.mapEntries_aside, State.setMode_aside,
    State.endResel_aside]

/-! ### The calendar and the search -/

theorem State.dropPaging_aside (s : State) (x : Sub) : (s.dropPaging x).aside = s.aside := rfl

theorem State.reportSkips_aside (s : State) (ks : List Skip) : (s.reportSkips ks).aside = s.aside :=
  foldl_keeps State.aside _ _ _ fun _ _ => rfl

theorem State.insert_aside (s : State) (i : Insertion) : (s.insert i).2.aside = s.aside := by
  unfold State.insert
  dsimp only
  split
  · rfl
  · split
    · rfl
    · exact State.reportSkips_aside ..

theorem State.insert_subs (s : State) (i : Insertion) : (s.insert i).2.subs = s.subs := by
  unfold State.insert
  dsimp only
  split
  · rfl
  · split
    · rfl
    · exact foldl_keeps State.subs _ _ _ fun _ _ => rfl

theorem State.unbind_subs (s : State) (w : WinId) : (s.unbind w).subs = s.subs := by
  unfold State.unbind
  split <;> rfl

theorem State.setMode_subs (s : State) (x : Sub) (mode : Mode) : (s.setMode x mode).subs = s.subs := by
  have unbound (ws : List WinId) : (ws.foldl State.unbind s).subs = s.subs :=
    foldl_keeps State.subs _ _ _ fun u w => u.unbind_subs w
  unfold State.setMode
  dsimp only
  split
  · exact unbound _
  · exact unbound _

/-- R24: a search that begins changes of the subscription records the search alone. -/
theorem State.beginSearch_asideSubs (s : State) (x : Sub) :
    (s.beginSearch x).aside = s.aside ∧ ∃ r, (s.beginSearch x).subs = s.subs.set x { s.sub x with search := r } := by
  let turn (p : State × List (WinId × Nat)) (ck : Nat × Nat) : State × List (WinId × Nat) :=
    let i := p.1.insert { owner := .sub x, reporter := .subscription, purpose := .search, channel := ck.1
                          start := slotAdd p.1.now (3 + 2 * ck.2), len := 1, slack := some 8, block := none }
    (i.2, p.2 ++ [(i.1, ck.1)])
  have kept : ((s.sub x).channels.zipIdx.foldl turn (s, [])).1.aside = s.aside ∧
      ((s.sub x).channels.zipIdx.foldl turn (s, [])).1.subs = s.subs :=
    ⟨foldl_keeps (fun p : State × List (WinId × Nat) => p.1.aside) _ _ (s, []) fun p _ => p.1.insert_aside _,
      foldl_keeps (fun p : State × List (WinId × Nat) => p.1.subs) _ _ (s, []) fun p _ => p.1.insert_subs _⟩
  refine ⟨kept.1, .sampling ((s.sub x).channels.zipIdx.foldl turn (s, [])).2 [], ?_⟩
  refine Eq.trans (b := ((s.sub x).channels.zipIdx.foldl turn (s, [])).1.subs.set x
    { ((s.sub x).channels.zipIdx.foldl turn (s, [])).1.subs.get x with
      search := .sampling ((s.sub x).channels.zipIdx.foldl turn (s, [])).2 [] }) rfl ?_
  rw [kept.2]
  rfl

end Sys2Proof.Machine
end

section
/-! SUPPORT. The end of a connection in a handover (R40, R98, R115, R116, R142): what a connection that is lost leaves of the calls,
the context records, the texts, the store and the link. -/

namespace Sys2Proof.Machine

open Sys2Proof

/-! ### Notices of some kinds and keys -/

/-- A posting of another kind or key leaves the notices of some as they are. -/
theorem filter_postIn {a : Snapshot} {p : NoticeKind × Nat → Bool} (h : p a.key = false) (f : BitVec 16) (ns : List Notice) :
    (postIn a f ns).filter (fun n => p n.snapshot.key) = ns.filter fun n => p n.snapshot.key := by
  induction ns with
  | nil => simp [postIn, h]
  | cons n ns ih =>
    by_cases hn : n.snapshot.key = a.key
    · simp [postIn, hn, h]
    · simp only [postIn, if_neg hn, List.filter_cons, ih]

/-- A kind and key of a CALL notice. -/
def isCallKey (k : NoticeKind × Nat) : Bool := decide (k.1 = .call)

/-- The link with only the CALL notices of its outbox. -/
def Link.callsOnly (l : Link) : Link := { l with outbox := l.outbox.filter fun n => isCallKey n.snapshot.key }

/-- A link in which a notice that is no CALL one has been posted. -/
theorem Link.callsOnly_posted {a : Snapshot} (h : isCallKey a.key = false) (l : Link) (f : BitVec 16) :
    ({ l with outbox := postIn a f l.outbox } : Link).callsOnly = l.callsOnly := by
  simp only [Link.callsOnly, filter_postIn h]

/-- Of these parts of a state those that hold neither the outbox of the text unit nor a notice but CALL ones. -/
def Aside.untold (a : Aside) : Aside := { a with text := { Text.reset with table := a.text.table }, link := a.link.callsOnly }

/-- These parts of a state. -/
def State.untold (s : State) : Aside := s.aside.untold

theorem untold_of_aside {s t : State} (h : t.aside = s.aside) : t.untold = s.untold := congrArg Aside.untold h

theorem State.postSub_untold (s : State) (x : Sub) (f : BitVec 16) : (s.postSub x f).untold = s.untold :=
  congrArg (fun l : Link => { s.untold with link := l }) (Link.callsOnly_posted (a := s.subSnapshot x) rfl s.link f)

/-! ### Texts -/

theorem State.postText_untold (s : State) (x : Sub) (f : BitVec 16) : (s.postText x f).untold = s.untold :=
  congrArg (fun l : Link => { s.untold with link := l }) (Link.callsOnly_posted (a := s.textSnapshot x) rfl s.link f)

theorem State.modText_untold (s : State) (x : Sub) (f : TextSub → TextSub) : (s.modText x f).untold = s.untold := rfl

theorem State.withOutbox_untold (s : State) (es : List OutEntry) :
    ({ s with text := { s.text with outbox := es } } : State).untold = s.untold := rfl

theorem State.modOut_untold (s : State) (p : OutEntry → Bool) (f : OutEntry → OutEntry) : (s.modOut p f).untold = s.untold :=
  s.withOutbox_untold _

theorem State.flushOutcomes_untold (s : State) (x : Sub) : (s.flushOutcomes x).untold = s.untold := by
  unfold State.flushOutcomes
  dsimp only
  split
  · rfl
  · rw [State.postText_untold, State.withOutbox_untold, State.modText_untold]

theorem State.endEntry_untold (s : State) (x : Sub) (ref : Byte) (o : TextOutcome) : (s.endEntry x ref o).untold = s.untold := by
  unfold State.endEntry
  dsimp only
  rw [State.flushOutcomes_untold, State.modOut_untold]
  rfl

theorem State.withRecent_untold (s : State) (rs : List Recent) :
    ({ s with text := { s.text with recent := rs } } : State).untold = s.untold := rfl

theorem State.textConnEnded_untold (s : State) (x : Sub) : (s.textConnEnded x).untold = s.untold := by
  unfold State.textConnEnded
  dsimp only
  rw [State.withRecent_untold, State.modText_untold]
  split
  · split
    · rw [State.endEntry_untold, State.modOut_untold]
    · rw [State.modOut_untold]
  · rfl

/-! ### The connection's end (R16, R103) -/

theorem State.regDropped_untold (s : State) (x : Sub) : (s.regDropped x).untold = s.untold := by
  unfold State.regDropped
  dsimp only
  split
  · exact State.postSub_untold ..
  · rfl

/-- The connection is a matter of the bare context records. -/
theorem connection_of_untold {s t : State} (h : t.untold = s.untold) (x : Sub) : t.connection x = s.connection x :=
  State.connection_congr (congrArg (fun a : Aside => a.ctx.active) h) x

/-- R16, R103: both context records become unused. -/
theorem State.dropConnection_untold {s : State} {x : Sub} (hc : s.connection x ≠ none) :
    (s.dropConnection x).untold = { s.untold with ctx := { CtxUnit.reset with nextMsg := s.ctx.nextMsg } } := by
  let t := (((s.withdrawAll fun w => w.ofContext x).regDropped x).textConnEnded x).setMode x .none
  let u := t.modText x fun r => { r with readySent := false }
  have same : u.untold = s.untold :=
    calc u.untold = t.untold := State.modText_untold ..
      _ = (((s.withdrawAll fun w => w.ofContext x).regDropped x).textConnEnded x).untold :=
          untold_of_aside (State.setMode_aside ..)
      _ = (s.withdrawAll fun w => w.ofContext x).untold := (State.textConnEnded_untold ..).trans (State.regDropped_untold ..)
      _ = s.untold := untold_of_aside (s.withdrawAll_aside _)
  have connected : (u.connection x).isSome = true := by
    rw [connection_of_untold same]
    exact Option.isSome_iff_ne_none.2 hc
  have next : u.ctx.nextMsg = s.ctx.nextMsg := congrArg (fun a : Aside => a.ctx.nextMsg) same
  have ends : s.dropConnection x = u.modCtx fun c => { CtxUnit.reset with nextMsg := c.nextMsg } := if_pos connected
  rw [ends, ← next, ← same]
  clear_value u
  rfl

/-! ### The search that begins anew (R32, R37) -/

/-- A SUB notice of a subscription's record, with STATE and CELL. -/
def State.told (s : State) (x : Sub) : Prop := ∃ n ∈ s.link.outbox, n.snapshot = s.subSnapshot x ∧ n.flags &&& 3 = 3

theorem State.postSub_sub (s : State) (x y : Sub) (f : BitVec 16) : (s.postSub x f).sub y = s.sub y := rfl

/-- A SUB notice with STATE and CELL, and what else its flags say. -/
theorem State.postSub_told (s : State) (x : Sub) {f : BitVec 16} (h : f &&& 3 = 3) : (s.postSub x f).told x := by
  obtain ⟨n, hn, snapshot, flags⟩ := mem_postIn (s.subSnapshot x) f s.link.outbox
  refine ⟨n, hn, snapshot, ?_⟩
  calc n.flags &&& 3 = n.flags &&& (f &&& 3) := by rw [h]
    _ = f &&& 3 := by rw [← BitVec.and_assoc, flags]
    _ = 3 := h

/-- The snapshot of a subscription says nothing of its search. -/
theorem State.subSnapshot_search {s t : State} {x : Sub} {r : Search} (h : t.sub x = { s.sub x with search := r }) :
    t.subSnapshot x = s.subSnapshot x := by
  unfold State.subSnapshot
  rw [h]

/-- R24: a search that begins leaves the state and the cell of the record, and its notice. -/
theorem State.beginSearch_ends (s : State) (x : Sub) : (s.beginSearch x).untold = s.untold ∧
    ((s.beginSearch x).sub x).state = (s.sub x).state ∧ ((s.beginSearch x).sub x).camped = (s.sub x).camped ∧
    (s.told x → (s.beginSearch x).told x) := by
  obtain ⟨aside, search, subs⟩ := s.beginSearch_asideSubs x
  have record : (s.beginSearch x).sub x = { s.sub x with search := search } :=
    (congrArg (fun t : Two SubRec => t.get x) subs).trans (Two.get_set_same ..)
  have link : (s.beginSearch x).link = s.link := congrArg Aside.link aside
  refine ⟨untold_of_aside aside, by rw [record], by rw [record], fun ⟨n, hn, snapshot, flags⟩ => ?_⟩
  exact ⟨n, by rw [link]; exact hn, by rw [State.subSnapshot_search record]; exact snapshot, flags⟩

/-- R32: a subscription that searches again. -/
theorem State.toSearching_ends (s : State) (x : Sub) : (s.toSearching x).untold = s.untold ∧
    ((s.toSearching x).sub x).state = .searching ∧ ((s.toSearching x).sub x).camped = none ∧ (s.toSearching x).told x := by
  let r := ((s.dropPaging x).campsNoMore x).modSub x fun r =>
    { r with state := .searching, camped := none, target := none, reason := none }
  have steps : s.toSearching x = (r.postSub x (SubFlag.state ||| SubFlag.cell)).beginSearch x := rfl
  have aside : r.aside = s.aside :=
    (State.modSub_aside ..).trans ((State.campsNoMore_aside ..).trans (State.dropPaging_aside ..))
  have own : (r.sub x).state = .searching ∧ (r.sub x).camped = none :=
    ⟨congrArg SubRec.state (Two.get_set_same ..), congrArg SubRec.camped (Two.get_set_same ..)⟩
  rw [steps]
  clear_value r
  obtain ⟨untold, state, camped, told⟩ := (r.postSub x (SubFlag.state ||| SubFlag.cell)).beginSearch_ends x
  rw [State.postSub_untold, untold_of_aside aside] at untold
  rw [State.postSub_sub] at state camped
  exact ⟨untold, state.trans own.1, camped.trans own.2, told (State.postSub_told _ _ (by decide))⟩

/-! ### DETACHED (R40, R142, R147) -/

/-- The write that a reassembly entry asks for when it is closed INCOMPLETE. -/
def Reassembly.incompleteWrite (e : Reassembly) : Option StoreOp :=
  e.slot.map fun p => .write p {
    header := {
      number := 0, sub := e.sub, sender := e.sender, time := 0, count := e.count, present := e.parts.map Prod.fst
      complete := false }
    body := e.parts.flatMap Prod.snd }

theorem State.closeEntry_eq (s : State) (e : Reassembly) : ∃ table : List Reassembly, s.closeEntry e .incomplete = { s with
    text := { s.text with table := table }
    store := { s.store with queue := s.store.queue ++ e.incompleteWrite.toList } } := by
  unfold State.closeEntry State.askWrite Reassembly.incompleteWrite
  dsimp only
  cases e.slot with
  | none =>
    simp only [Option.map_none, Option.toList_none, List.append_nil]
    exact ⟨_, rfl⟩
  | some p => exact ⟨_, rfl⟩

/-- R147: entries closed one after another. -/
theorem State.closeEntries_eq (es : List Reassembly) (s : State) : ∃ table : List Reassembly,
    es.foldl (fun s e => s.closeEntry e .incomplete) s = { s with
      text := { s.text with table := table }
      store := { s.store with queue := s.store.queue ++ es.filterMap Reassembly.incompleteWrite } } := by
  induction es generalizing s with
  | nil => exact ⟨s.text.table, by simp⟩
  | cons e es ih =>
    obtain ⟨t, ht⟩ := s.closeEntry_eq e
    obtain ⟨table, htable⟩ := ih (s.closeEntry e .incomplete)
    refine ⟨table, ?_⟩
    rw [List.foldl_cons, htable, ht]
    cases h : e.incompleteWrite <;> simp [h]

theorem State.flushOutcomes_subs (s : State) (x : Sub) : (s.flushOutcomes x).subs = s.subs := by
  unfold State.flushOutcomes
  dsimp only
  split <;> rfl

theorem State.endEntry_subs (s : State) (x : Sub) (ref : Byte) (o : TextOutcome) : (s.endEntry x ref o).subs = s.subs := by
  unfold State.endEntry
  dsimp only
  exact State.flushOutcomes_subs ..

/-- The writes that the open reassembly entries of a subscription ask for when they are closed INCOMPLETE (R142, R147). -/
def State.lastWrites (s : State) (x : Sub) : List StoreOp :=
  (s.text.table.filter fun e => decide (e.sub = x ∧ e.closing = none)).filterMap Reassembly.incompleteWrite

/-- R142: the texts of a subscription without a connection end. -/
theorem State.textDetached_ends {s : State} {x : Sub} (hc : s.connection x = none) : ∃ table : List Reassembly,
    (s.textDetached x).untold = { s.untold with
      text := { Text.reset with table := table }, store := { s.store with queue := s.store.queue ++ s.lastWrites x } } ∧
    (s.textDetached x).subs = s.subs := by
  let mine := s.text.outbox.filter fun e => decide (e.sub = x) && !e.isEnded
  let first := sortBy OutEntry.order (mine.filter fun e => decide (e.state ≠ .assembling))
  let u := (first ++ mine.filter fun e => decide (e.state = .assembling)).foldl
    (fun s e => s.endEntry x e.reference (.failed .detached)) s
  have untold : u.untold = s.untold := foldl_keeps State.untold _ _ _ fun t e => State.endEntry_untold ..
  have subs : u.subs = s.subs := foldl_keeps State.subs _ _ _ fun t e => State.endEntry_subs ..
  have unconnected : u.connection x = none := (connection_of_untold untold x).trans hc
  have same : u.text.table = s.text.table := congrArg (fun a : Aside => a.text.table) untold
  have store : u.store = s.store := congrArg Aside.store untold
  obtain ⟨table, closes⟩ := State.closeEntries_eq (u.text.table.filter fun e => decide (e.sub = x) && e.opened) u
  have writes : (u.text.table.filter fun e => decide (e.sub = x) && e.opened).filterMap Reassembly.incompleteWrite =
      s.lastWrites x := by
    rw [same, State.lastWrites]
    exact congrArg _ (List.filter_congr fun e _ => by simp [Reassembly.opened])
  have steps : s.textDetached x =
      let v := (u.text.table.filter fun e => decide (e.sub = x) && e.opened).foldl (fun s e => s.closeEntry e .incomplete) u
      { v with text := { v.text with recent := v.text.recent.filter fun r => decide (r.sub ≠ x) } } := by
    unfold State.textDetached
    dsimp only
    rw [show (first ++ mine.filter fun e => decide (e.state = .assembling)).foldl
      (fun s e => s.endEntry x e.reference (.failed .detached)) s = u from rfl, unconnected]
  rw [steps, closes, writes, store]
  clear_value u
  refine ⟨table, ?_, subs⟩
  rw [← untold]
  rfl

/-- A reply that is filled leaves everything but the reply queue (R180). -/
theorem State.answer_eq (s : State) (t : Nat) (st : Status) (r : Result) : ∃ (held : List Reserved) (more : List Reply),
    s.answer t st r = { s with link := { s.link with reserved := held, filled := s.link.filled ++ more } } := by
  unfold State.answer
  split
  · exact ⟨_, _, rfl⟩
  · exact ⟨s.link.reserved, [], by simp⟩

theorem State.withReplies_untold (s : State) (held : List Reserved) (filled : List Reply) :
    ({ s with link := { s.link with reserved := held, filled := filled } } : State).untold =
      { s.untold with link := { s.untold.link with reserved := held, filled := filled } } := rfl

theorem State.withReplies_sub (s : State) (x : Sub) (held : List Reserved) (filled : List Reply) :
    ({ s with link := { s.link with reserved := held, filled := filled } } : State).sub x = s.sub x := rfl

theorem State.dropRequest_aside (s : State) (x : Sub) :
    (s.dropRequest x).aside = { s.aside with engQueue := s.engQueue.filter fun q => decide (q.sub ≠ x) } := rfl

/-- R40: a subscription without a connection that becomes DETACHED. -/
theorem State.becomeDetached_ends {s : State} {x : Sub} (hc : s.connection x = none) :
    (∃ (table : List Reassembly) (held : List Reserved) (more : List Reply), (s.becomeDetached x).untold = { s.untold with
      text := { Text.reset with table := table }
      store := { s.store with queue := s.store.queue ++ s.lastWrites x }
      link := { s.untold.link with reserved := held, filled := s.link.filled ++ more }
      engQueue := s.engQueue.filter fun q => decide (q.sub ≠ x) }) ∧
    ((s.becomeDetached x).sub x).state = .detached ∧ ((s.becomeDetached x).sub x).camped = none ∧ (s.becomeDetached x).told x := by
  let c := ((s.withdrawAll fun w => decide (w.owner = .sub x ∧ w.purpose ≠ .meas)).campsNoMore x).dropRequest x
  let r := c.modSub x SubRec.detached
  let f : BitVec 16 := SubFlag.state ||| SubFlag.cell ||| if (c.sub x).textWaiting then SubFlag.textWaiting else 0
  let v := match (c.sub x).detaching with
    | some t => (r.textDetached x).refuse t .done
    | none => r.textDetached x
  have steps : s.becomeDetached x = v.postSub x f := rfl
  have aside : r.aside = { s.aside with engQueue := s.engQueue.filter fun q => decide (q.sub ≠ x) } := by
    have camps : ((s.withdrawAll fun w => decide (w.owner = .sub x ∧ w.purpose ≠ .meas)).campsNoMore x).aside = s.aside :=
      (State.campsNoMore_aside _ x).trans (s.withdrawAll_aside _)
    simp only [r, c]
    rw [State.modSub_aside, State.dropRequest_aside, camps, engQueue_of_aside camps]
  have own : (r.sub x).state = .detached ∧ (r.sub x).camped = none :=
    ⟨congrArg SubRec.state (Two.get_set_same ..), congrArg SubRec.camped (Two.get_set_same ..)⟩
  have flags : f &&& 3 = 3 := by
    simp only [f]
    cases (c.sub x).textWaiting <;> decide
  have answers : ∃ (held : List Reserved) (more : List Reply), v = { r.textDetached x with
      link := { (r.textDetached x).link with reserved := held, filled := (r.textDetached x).link.filled ++ more } } := by
    cases hd : (c.sub x).detaching with
    | none => exact ⟨(r.textDetached x).link.reserved, [], by simp [v, hd]⟩
    | some t =>
      obtain ⟨held, more, answered⟩ := (r.textDetached x).answer_eq t .done .none
      exact ⟨held, more, by simp only [v, hd]; exact answered⟩
  rw [steps]
  clear_value r v f
  obtain ⟨held, more, rfl⟩ := answers
  have untold : r.untold = { s.untold with engQueue := s.engQueue.filter fun q => decide (q.sub ≠ x) } :=
    congrArg Aside.untold aside
  have unconnected : r.connection x = none :=
    (State.connection_congr (congrArg (fun a : Aside => a.ctx.active) aside) x).trans hc
  have store : r.store = s.store := congrArg Aside.store aside
  have writes : r.lastWrites x = s.lastWrites x := by
    rw [State.lastWrites, State.lastWrites, show r.text = s.text from congrArg Aside.text aside]
  obtain ⟨table, detached, subs⟩ := State.textDetached_ends unconnected
  have filled : (r.textDetached x).link.filled = s.link.filled :=
    (congrArg (fun a : Aside => a.link.filled) detached).trans (congrArg (fun a : Aside => a.link.filled) untold)
  have record : (r.textDetached x).sub x = r.sub x := congrArg (fun t : Two SubRec => t.get x) subs
  rw [untold, store, writes] at detached
  rw [filled]
  refine ⟨⟨table, held, more, ?_⟩, ?_, ?_, State.postSub_told _ _ flags⟩
  · rw [State.postSub_untold, State.withReplies_untold, detached]
  · rw [State.postSub_sub, State.withReplies_sub, record, own.1]
  · rw [State.postSub_sub, State.withReplies_sub, record, own.2]

end Sys2Proof.Machine
end

section
/-! SUPPORT. A connection that is lost or abandoned with its handover (R98, R115, R116). -/

namespace Sys2Proof.Machine

open Sys2Proof

/-! ### The subscription's record (R39) -/

theorem State.regDropped_subs (s : State) (x : Sub) :
    (s.regDropped x).subs = s.subs.set x { s.sub x with regGuard := none, areaChanged := false } := by
  unfold State.regDropped
  dsimp only
  split <;> rfl

theorem State.textConnEnded_subs (s : State) (x : Sub) : (s.textConnEnded x).subs = s.subs := by
  unfold State.textConnEnded
  dsimp only
  split
  · split
    · exact State.endEntry_subs ..
    · rfl
  · rfl

theorem State.dropConnection_subs (s : State) (x : Sub) :
    (s.dropConnection x).subs = s.subs.set x { s.sub x with regGuard := none, areaChanged := false } := by
  have ends (t : State) :
      (if (t.connection x).isSome then t.modCtx fun c => { CtxUnit.reset with nextMsg := c.nextMsg } else t).subs = t.subs := by
    split <;> rfl
  unfold State.dropConnection
  dsimp only
  rw [ends, State.modText_subs, State.setMode_subs, State.textConnEnded_subs, State.regDropped_subs]
  rfl

theorem State.dropConnection_sub (s : State) (x : Sub) :
    (s.dropConnection x).sub x = { s.sub x with regGuard := none, areaChanged := false } :=
  (congrArg (fun t : Two SubRec => t.get x) (s.dropConnection_subs x)).trans (Two.get_set_same ..)

/-! ### What it leaves -/

theorem State.disengage_untold (s : State) (x : Sub) :
    (s.disengage x).untold = { s.untold with engaged := s.engaged.filter fun e => decide (e.sub ≠ x) } := rfl

theorem State.dropRequest_untold (s : State) (x : Sub) :
    (s.dropRequest x).untold = { s.untold with engQueue := s.engQueue.filter fun q => decide (q.sub ≠ x) } := rfl

/-- The records say which subscription has a call. -/
theorem State.uncalled_congr {s t : State} {x : Sub} (h : t.calls = s.calls) (hu : s.uncalled x) : t.uncalled x := by
  intro i hx
  have same : t.call i = s.call i := by cases i <;> simp only [State.call, h]
  rw [same] at hx ⊢
  exact hu i hx

/-- What is left of a state whose subscription has lost its connection, before the radio is granted anew. -/
structure State.losesTo (s : State) (x : Sub) (t : State) : Prop where
  calls : t.calls = s.calls
  ctx : t.ctx = { CtxUnit.reset with nextMsg := s.ctx.nextMsg }
  voice : t.voice = s.voice
  store : t.store = { s.store with
    queue := s.store.queue ++ if (s.sub x).detaching = none then [] else s.lastWrites x }
  power : t.power = s.power
  filled : s.link.filled <+: t.link.filled
  notices : t.link.callsOnly.outbox = s.link.callsOnly.outbox
  requests : t.engQueue = s.engQueue.filter fun q => decide (q.sub ≠ x)
  state : (t.sub x).state = if (s.sub x).detaching = none then .searching else .detached
  camped : (t.sub x).camped = none
  told : t.told x

/-- The context records of a unit without a connection are all there is of it. -/
theorem CtxUnit.bare_unconnected {c : CtxUnit} (h : c.active = none) : c.bare = c := by
  rw [CtxUnit.bare, h]
  exact congrArg (fun a => { c with active := a }) h.symm

theorem CtxUnit.eq_of_bare {c d : CtxUnit} (h : c.bare = d) (hd : d.active = none) : c = d :=
  (CtxUnit.bare_unconnected (c := c) ((congrArg CtxUnit.active h).trans hd)).symm.trans h

theorem State.loseConnection_ends {s : State} {x : Sub} (hc : s.connection x ≠ none) (hu : s.uncalled x) (why : CallCause) :
    ∃ t, s.loseConnection x why = t.grantIfFree ∧ s.losesTo x t := by
  let d := s.dropConnection x
  have dropped : d.untold = { s.untold with ctx := { CtxUnit.reset with nextMsg := s.ctx.nextMsg } } :=
    State.dropConnection_untold hc
  have record : d.sub x = { s.sub x with regGuard := none, areaChanged := false } := s.dropConnection_sub x
  have steps : s.loseConnection x why =
      if d.leaving x = true then ((d.disengage x).becomeDetached x).grantIfFree else d.engagedToSearch x := by
    unfold State.loseConnection
    rw [State.endCalls_none hu]
  have leaving : d.leaving x = true ↔ (s.sub x).detaching ≠ none := by
    rw [State.leaving, record, Option.isSome_iff_ne_none]
  clear_value d
  have calls : d.calls = s.calls := congrArg Aside.calls dropped
  have store : d.store = s.store := congrArg Aside.store dropped
  have table : d.text.table = s.text.table := congrArg (fun a : Aside => a.text.table) dropped
  have filled : d.link.filled = s.link.filled := congrArg (fun a : Aside => a.link.filled) dropped
  have queue : d.engQueue = s.engQueue := congrArg Aside.engQueue dropped
  by_cases hd : (s.sub x).detaching = none
  · rw [if_neg fun h => leaving.1 h hd] at steps
    have uncalled : ((d.disengage x).dropRequest x).uncalled x := State.uncalled_congr calls hu
    let t := ((d.disengage x).dropRequest x).toSearching x
    have searches : d.engagedToSearch x = t.grantIfFree := by
      unfold State.engagedToSearch State.lostService
      rw [State.freeCalls_none uncalled]
    obtain ⟨untold, state, camped, told⟩ := State.toSearching_ends ((d.disengage x).dropRequest x) x
    rw [State.dropRequest_untold, State.disengage_untold, dropped, show (d.disengage x).engQueue = s.engQueue from queue] at untold
    refine ⟨t, steps.trans searches, ?_⟩
    change t.untold = _ at untold
    change (t.sub x).state = _ at state
    change (t.sub x).camped = _ at camped
    change t.told x at told
    clear_value t
    exact {
      calls := congrArg Aside.calls untold
      ctx := CtxUnit.eq_of_bare (congrArg Aside.ctx untold) rfl
      voice := congrArg Aside.voice untold
      store := (congrArg Aside.store untold).trans (by simp only [hd, if_true, List.append_nil]; rfl)
      power := congrArg Aside.power untold
      filled := ⟨[], (List.append_nil _).trans (congrArg (fun a : Aside => a.link.filled) untold).symm⟩
      notices := congrArg (fun a : Aside => a.link.outbox) untold
      requests := congrArg Aside.engQueue untold
      state := state.trans (if_pos hd).symm
      camped := camped
      told := told }
  · rw [if_pos (leaving.2 hd)] at steps
    have unconnected : (d.disengage x).connection x = none :=
      State.connection_congr (s := { s with ctx := CtxUnit.reset }) (congrArg (fun a : Aside => a.ctx.active) dropped) x
    have writes : (d.disengage x).lastWrites x = s.lastWrites x := by
      rw [State.lastWrites, State.lastWrites, show (d.disengage x).text.table = s.text.table from table]
    obtain ⟨⟨after, held, more, untold⟩, state, camped, told⟩ := State.becomeDetached_ends unconnected
    rw [State.disengage_untold, dropped, writes, show (d.disengage x).engQueue = s.engQueue from queue,
      show (d.disengage x).store = s.store from store, show (d.disengage x).link.filled = s.link.filled from filled] at untold
    refine ⟨(d.disengage x).becomeDetached x, steps, ?_⟩
    generalize (d.disengage x).becomeDetached x = t at untold state camped told ⊢
    exact {
      calls := congrArg Aside.calls untold
      ctx := CtxUnit.eq_of_bare (congrArg Aside.ctx untold) rfl
      voice := congrArg Aside.voice untold
      store := (congrArg Aside.store untold).trans (by simp only [hd, if_false])
      power := congrArg Aside.power untold
      filled := ⟨more, (congrArg (fun a : Aside => a.link.filled) untold).symm⟩
      notices := congrArg (fun a : Aside => a.link.outbox) untold
      requests := congrArg Aside.engQueue untold
      state := state.trans (if_neg hd).symm
      camped := camped
      told := told }

end Sys2Proof.Machine
end

section
/-! SUPPORT. What the grant of the dedicated radio to one subscription leaves alone of the other (R35). -/

namespace Sys2Proof.Machine

open Sys2Proof

/-- What is apart from the other subscription: the context records, the voice path, the store, the power state and the replies, with
the record, the calls and some of the notices of one subscription. -/
structure Apart where
  ctx : CtxUnit
  voice : Voice
  store : Store
  power : Power
  filled : List Reply
  record : SubRec
  calls : CallId → Option CallRec
  notices : List Notice

/-- These parts of a state, with the notices of some kinds and keys. -/
def State.apart (s : State) (x : Sub) (p : NoticeKind × Nat → Bool) : Apart :=
  { ctx := s.ctx.bare, voice := s.voice, store := s.store, power := s.power, filled := s.link.filled, record := s.sub x
    calls := fun i => if (s.call i).sub = some x then some (s.call i) else none
    notices := s.link.outbox.filter fun n => p n.snapshot.key }

theorem Sub.eq_other_of_ne : ∀ {x y : Sub}, y ≠ x → x = y.other
  | .A, .A, h => absurd rfl h
  | .A, .B, _ => rfl
  | .B, .A, _ => rfl
  | .B, .B, h => absurd rfl h

theorem State.modSub_sub_ne {x y : Sub} (h : y ≠ x) (s : State) (f : SubRec → SubRec) : (s.modSub y f).sub x = s.sub x := by
  rw [Sub.eq_other_of_ne h]
  exact Two.get_set_other ..

theorem State.adoptCandidate_aside (s : State) (x : Sub) : (s.adoptCandidate x).aside = s.aside := by
  unfold State.adoptCandidate
  split <;> rfl

theorem State.clearTextWaiting_calls (s : State) (x : Sub) : (s.clearTextWaiting x).calls = s.calls := by
  unfold State.clearTextWaiting
  split <;> rfl

section
variable {x y : Sub} (h : y ≠ x) (p : NoticeKind × Nat → Bool)

theorem apart_of_aside {s t : State} (ha : t.aside = s.aside) (hr : t.sub x = s.sub x) (p : NoticeKind × Nat → Bool) :
    t.apart x p = s.apart x p := by
  have calls : t.calls = s.calls := congrArg Aside.calls ha
  have call (i : CallId) : t.call i = s.call i := by cases i <;> simp only [State.call, calls]
  have link : t.link = s.link := congrArg Aside.link ha
  have ctx : t.ctx.bare = s.ctx.bare := congrArg Aside.ctx ha
  have voice : t.voice = s.voice := congrArg Aside.voice ha
  have store : t.store = s.store := congrArg Aside.store ha
  have power : t.power = s.power := congrArg Aside.power ha
  simp only [State.apart, ctx, voice, store, power, link, hr, call]

include h

theorem State.modSub_apart (s : State) (f : SubRec → SubRec) : (s.modSub y f).apart x p = s.apart x p :=
  apart_of_aside (State.modSub_aside ..) (State.modSub_sub_ne h s f) p

theorem State.adoptCandidate_apart (s : State) : (s.adoptCandidate y).apart x p = s.apart x p := by
  unfold State.adoptCandidate
  split
  · rw [State.modSub_apart h, State.stopSearch, State.modSub_apart h]
    rfl
  · rfl

theorem State.dropPaging_apart (s : State) : (s.dropPaging y).apart x p = s.apart x p := State.modSub_apart h p _ _

theorem State.endResel_apart (s : State) : (s.endResel y).apart x p = s.apart x p := by
  unfold State.endResel
  dsimp only
  rw [State.modSub_apart h]
  split <;> rfl

omit h in
theorem State.setMode_apart (s : State) (mode : Mode) : (s.setMode y mode).apart x p = s.apart x p :=
  apart_of_aside (State.setMode_aside ..) (congrArg (fun t : Two SubRec => t.get x) (State.setMode_subs ..)) p

omit h in
theorem State.postSub_apart (hp : p (.sub, subKey y) = false) (s : State) (f : BitVec 16) :
    (s.postSub y f).apart x p = s.apart x p :=
  congrArg (fun ns => { s.apart x p with notices := ns }) (filter_postIn (a := s.subSnapshot y) hp f s.link.outbox)

theorem State.clearTextWaiting_apart (hp : p (.sub, subKey y) = false) (s : State) :
    (s.clearTextWaiting y).apart x p = s.apart x p := by
  unfold State.clearTextWaiting
  split
  · rw [State.postSub_apart p hp, State.modSub_apart h]
  · rfl

/-- R85: the record of the call that is granted the radio is one of the other subscription. -/
theorem State.dialGranted_apart {s : State} (hp : ∀ i, (s.call i).sub = some y → p (.call, callNumber i) = false)
    (ps : List Purpose) : (s.dialGranted y ps).apart x p = s.apart x p := by
  unfold State.dialGranted
  split
  · cases hi : s.callOf y with
    | none => rfl
    | some i =>
      obtain ⟨hy, -, -⟩ := State.callOf_eq_some hi
      have ne : ((s.call i).sub = some x) = False := by
        rw [hy]
        exact eq_false fun e => h (Option.some.inj e)
      dsimp only
      split
      next hs =>
        rw [State.enterCall_told (by simp [hs])]
        let r : CallRec := { s.call i with state := .requesting, timer := none }
        change (s.callTold i r 1).apart x p = _
        have notices : (s.callTold i r 1).link.outbox.filter (fun n => p n.snapshot.key) =
            s.link.outbox.filter fun n => p n.snapshot.key := by
          rw [State.callTold_eq]
          exact filter_postIn (a := r.snapshot i) (hp i hy) 1 _
        have calls (j : CallId) : (if ((s.callTold i r 1).call j).sub = some x then some ((s.callTold i r 1).call j) else none) =
            if (s.call j).sub = some x then some (s.call j) else none := by
          rcases CallId.eq_or_other i j with rfl | rfl
          · simp only [State.callTold_call, r, ne, if_false]
          · rw [State.callTold_call_other]
        refine Eq.trans (b := { s.apart x p with
          notices := (s.callTold i r 1).link.outbox.filter fun n => p n.snapshot.key
          calls := fun j => if ((s.callTold i r 1).call j).sub = some x then some ((s.callTold i r 1).call j) else none }) rfl ?_
        rw [notices]
        simp only [calls]
        rfl
      next => rfl
  · rfl

omit h in
theorem State.insertBurst_apart (s : State) (a : Attempt) (f : FrameNo) (start : Slot) :
    (s.insertBurst y a f start).apart x p = s.apart x p := by
  unfold State.insertBurst
  split
  next c hc =>
    let i : Insertion := { owner := .sub y, reporter := .subscription, purpose := .accessTx, channel := c.cell.channel
                           start := start, len := 1, slack := none, block := some (.burst a.burst a.reference) }
    exact apart_of_aside (t := (s.insert i).2) (s.insert_aside i) (congrArg (fun t : Two SubRec => t.get x) (s.insert_subs i)) p
  next => rfl

/-- R35: a grant to the other subscription. -/
theorem State.grant_apart {s : State} {q : EngRequest} (hq : q.sub = y) (hs : p (.sub, subKey y) = false)
    (hp : ∀ i, (s.call i).sub = some y → p (.call, callNumber i) = false) : (s.grant q).apart x p = s.apart x p := by
  subst hq
  let y := q.sub
  let a := (((s.adoptCandidate y).dropPaging y).endResel y).setMode y .none
  let b := (a.modSub y fun r => { r with state := .engaged }).postSub y
    (SubFlag.state ||| if (s.sub y).state = .searching then SubFlag.cell else 0)
  let c := if q.pageReply = true ∧ q.purposes.contains .text = true then b.clearTextWaiting y else b
  let d := c.dialGranted y q.purposes
  let n : Attempt :=
    { purposes := q.purposes, pageReply := q.pageReply, burst := burstFor q.pageReply q.purposes
      reference := Config.reference d.draws, placed := 0, tx := none, watches := [] }
  let e : State := { d with draws := d.draws + 1, engaged := some { sub := y, stage := .attempt n } }
  have steps : s.grant q = match (e.sub y).camped with
      | some k => e.insertBurst y n (nextFrame k.anchor e.now 3 8 1 0).1 (nextFrame k.anchor e.now 3 8 1 0).2
      | none => e := rfl
  have aside : a.aside = s.aside := by
    simp only [a]
    rw [State.setMode_aside, State.endResel_aside, State.dropPaging_aside, State.adoptCandidate_aside]
  have calls : c.calls = s.calls := by
    refine Eq.trans ?_ (congrArg Aside.calls aside)
    simp only [c]
    split
    · exact State.clearTextWaiting_calls b y
    · rfl
  have call (i : CallId) : c.call i = s.call i := by cases i <;> simp only [State.call, calls]
  have last : e.apart x p = d.apart x p := rfl
  have dialled : d.apart x p = c.apart x p := State.dialGranted_apart h p (fun i hi => hp i (by rw [← call]; exact hi)) q.purposes
  have told : c.apart x p = b.apart x p := by
    simp only [c]
    split
    · exact State.clearTextWaiting_apart h p hs b
    · rfl
  have first : b.apart x p = s.apart x p := by
    simp only [b, a]
    rw [State.postSub_apart p hs, State.modSub_apart h, State.setMode_apart, State.endResel_apart h, State.dropPaging_apart h,
      State.adoptCandidate_apart h]
  have before : e.apart x p = s.apart x p := last.trans (dialled.trans (told.trans first))
  rw [steps]
  split
  · rw [State.insertBurst_apart, before]
  · exact before

end

/-- The request that the queue would grant is one of it. -/
theorem firstRequest_mem {qs : List EngRequest} {q : EngRequest} (h : firstRequest qs = some q) : q ∈ qs := by
  induction qs with
  | nil => cases h
  | cons a qs ih =>
    unfold firstRequest at h
    split at h
    · cases h
      exact List.mem_cons_self
    next r hr =>
      split at h
      · cases h
        exact List.mem_cons_self
      · cases h
        exact List.mem_cons_of_mem _ (ih hr)

/-- R35: with no request of a subscription in the queue, what is granted leaves it alone. -/
theorem State.grantIfFree_apart {s : State} {x : Sub} {p : NoticeKind × Nat → Bool} (hq : ∀ q ∈ s.engQueue, q.sub ≠ x)
    (hs : p (.sub, subKey x.other) = false) (hp : ∀ i, (s.call i).sub = some x.other → p (.call, callNumber i) = false) :
    s.grantIfFree.apart x p = s.apart x p := by
  unfold State.grantIfFree
  split
  next q he hf =>
    have foreign : q.sub ≠ x := hq q (firstRequest_mem hf)
    have other : q.sub = x.other := Sub.eq_other_of_ne foreign.symm
    exact State.grant_apart (s := { s with engQueue := s.engQueue.filter fun r => decide (r.sub ≠ q.sub) }) (Sub.other_ne x) p
      other hs hp
  next => rfl

end Sys2Proof.Machine
end

section
/-! SUPPORT. CALL_END in a handover (R116): every call of the subscription is freed, and its connection is abandoned. -/

namespace Sys2Proof.Machine

open Sys2Proof

/-! ### A record freed (R82) -/

theorem State.freeCall_call (s : State) (i : CallId) (c : CallCause) : (s.freeCall i c).call i = (s.call i).freed c := by
  rw [State.freeCall_eq, State.callTold_call]

theorem State.freeCall_call_other (s : State) (i : CallId) (c : CallCause) : (s.freeCall i c).call i.other = s.call i.other := by
  rw [State.freeCall_eq, State.callTold_call_other]
  rfl

theorem State.freeCall_voice (s : State) (i : CallId) (c : CallCause) :
    (s.freeCall i c).voice = if (s.call i).state = .connected then s.voice.stop else s.voice := by
  rw [State.freeCall_eq]
  rfl

/-- What the freeing of a record leaves: all but the records, the voice port and the outbox. -/
theorem State.freeCall_frame (s : State) (i : CallId) (c : CallCause) : s.freeCall i c = { s with
    calls := (s.freeCall i c).calls, voice := (s.freeCall i c).voice
    link := { s.link with outbox := postIn (((s.call i).freed c).snapshot i) 1 s.link.outbox } } := by
  rw [State.freeCall_eq, State.callTold_eq]
  rfl

theorem State.freeCall_outbox (s : State) (i : CallId) (c : CallCause) :
    (s.freeCall i c).link.outbox = postIn (((s.call i).freed c).snapshot i) 1 s.link.outbox :=
  congrArg (fun t : State => t.link.outbox) (s.freeCall_frame i c)

/-- A notice of another kind or key is in the outbox as before a posting. -/
theorem mem_postIn_other {n : Notice} {a : Snapshot} (h : n.snapshot.key ≠ a.key) (f : BitVec 16) (ns : List Notice) :
    n ∈ postIn a f ns ↔ n ∈ ns := by
  have same := filter_postIn (a := a) (p := fun k => decide (k ≠ a.key)) (by simp) f ns
  have kept (l : List Notice) : (n ∈ l.filter fun m => decide (m.snapshot.key ≠ a.key)) ↔ n ∈ l := by simp [h]
  rw [← kept, same, kept]

theorem CallId.other_other (i : CallId) : i.other.other = i := by cases i <;> rfl

theorem CallId.other_ne (i : CallId) : i.other ≠ i := by cases i <;> decide

theorem callNumber_other (i : CallId) : callNumber i.other ≠ callNumber i := by cases i <;> decide

/-- The voice port that has stopped stops no more. -/
theorem Voice.stop_stop (v : Voice) : v.stop.stop = v.stop := by
  unfold Voice.stop
  split <;> simp [*]

/-! ### Every call of a subscription freed -/

/-- With one record FREE only the other can be freed of the subscription's. -/
theorem State.freeCalls_other {s : State} {i : CallId} (hi : (s.call i).state = .free) (x : Sub) (c : CallCause) :
    s.freeCalls x (fun _ => true) c =
      if (s.call i.other).sub = some x ∧ (s.call i.other).state ≠ .free then s.freeCall i.other c else s := by
  have stays (t : State) (ht : (t.call i).state = .free) :
      (if (t.call i).sub = some x ∧ (t.call i).state ≠ .free then t.freeCall i c else t) = t := if_neg fun h => h.2 ht
  simp only [State.freeCalls, callIds, List.foldl_cons, List.foldl_nil, and_true]
  cases i
  · rw [stays s hi]
    rfl
  · refine stays _ ?_
    split
    · rw [show (s.freeCall .one c).call .two = s.call .two from State.freeCall_call_other s .one c]
      exact hi
    · exact hi

/-- A call of a subscription in use. -/
def State.usedBy (s : State) (x : Sub) (j : CallId) : Prop := (s.call j).sub = some x ∧ (s.call j).state ≠ .free

/-- What is left when a call of a subscription, and then its other one, have been freed. -/
structure State.freesTo (s : State) (x : Sub) (i : CallId) (c : CallCause) (w : State) : Prop where
  frame : w = { s with calls := w.calls, voice := w.voice, link := { s.link with outbox := w.link.outbox } }
  calls : ∀ j, s.usedBy x j → w.call j = (s.call j).freed (if j = i then c else .byHost)
  others : ∀ j, ¬s.usedBy x j → w.call j = s.call j
  told : ∀ j, s.usedBy x j → ∃ n ∈ w.link.outbox, n.snapshot = w.callSnapshot j ∧ n.flags &&& 1 = 1
  notices : ∀ n : Notice, (∀ j, s.usedBy x j → n.snapshot.key ≠ (.call, callNumber j)) →
    (n ∈ w.link.outbox ↔ n ∈ s.link.outbox)
  voice : w.voice = if (s.call i).state = .connected ∨ ((s.call i.other).sub = some x ∧ (s.call i.other).state = .connected)
    then s.voice.stop else s.voice

theorem State.freesTo.uncalled {s w : State} {x : Sub} {i : CallId} {c : CallCause} (h : s.freesTo x i c w) : w.uncalled x := by
  intro j hj
  by_cases hu : s.usedBy x j
  · rw [h.calls j hu]
    rfl
  · rw [h.others j hu] at hj ⊢
    by_contra hf
    exact hu ⟨hj, hf⟩

/-- The one call of a subscription is freed. -/
theorem State.freeCall_freesTo {s : State} {x : Sub} {i : CallId} (hi : s.usedBy x i) (ho : ¬s.usedBy x i.other) (c : CallCause) :
    s.freesTo x i c (s.freeCall i c) where
  frame := by
    rw [State.freeCall_outbox]
    exact s.freeCall_frame i c
  calls j hj := by
    rcases CallId.eq_or_other i j with rfl | rfl
    · rw [State.freeCall_call, if_pos rfl]
    · exact absurd hj ho
  others j hj := by
    rcases CallId.eq_or_other i j with rfl | rfl
    · exact absurd hi hj
    · exact State.freeCall_call_other ..
  told j hj := by
    rcases CallId.eq_or_other i j with rfl | rfl
    · rw [State.callSnapshot_eq, State.freeCall_outbox, State.freeCall_call]
      exact mem_postIn _ 1 _
    · exact absurd hj ho
  notices n hn := by
    rw [State.freeCall_outbox]
    exact mem_postIn_other (hn i hi) 1 _
  voice := by
    rw [State.freeCall_voice]
    exact if_congr (or_iff_left fun ⟨hx, hs⟩ => ho ⟨hx, by simp [hs]⟩).symm rfl rfl

/-- Both calls of a subscription are freed. -/
theorem State.freeBoth_freesTo {s : State} {x : Sub} {i : CallId} (hi : s.usedBy x i) (ho : s.usedBy x i.other) (c : CallCause) :
    s.freesTo x i c ((s.freeCall i c).freeCall i.other .byHost) := by
  let t := s.freeCall i c
  have first : t.call i = (s.call i).freed c := State.freeCall_call ..
  have second : t.call i.other = s.call i.other := State.freeCall_call_other ..
  have named : (t.freeCall i.other .byHost).call i = (s.call i).freed c := by
    have := State.freeCall_call_other t i.other .byHost
    rw [CallId.other_other] at this
    exact this.trans first
  have other : (t.freeCall i.other .byHost).call i.other = (s.call i.other).freed .byHost := by
    rw [State.freeCall_call, second]
  have outbox : (t.freeCall i.other .byHost).link.outbox = postIn (((s.call i.other).freed .byHost).snapshot i.other) 1
      (postIn (((s.call i).freed c).snapshot i) 1 s.link.outbox) := by
    rw [State.freeCall_outbox, second, State.freeCall_outbox]
  have apart : (((s.call i).freed c).snapshot i).key ≠ (((s.call i.other).freed .byHost).snapshot i.other).key :=
    fun h => callNumber_other i (congrArg Prod.snd h).symm
  exact {
    frame := by
      rw [outbox]
      refine (t.freeCall_frame i.other .byHost).trans ?_
      rw [second, State.freeCall_outbox s i c]
      generalize t.freeCall i.other .byHost = w
      rw [show t = _ from s.freeCall_frame i c]
    calls := fun j hj => by
      rcases CallId.eq_or_other i j with rfl | rfl
      · rw [if_pos rfl]
        exact named
      · rw [if_neg (CallId.other_ne i)]
        exact other
    others := fun j hj => by
      rcases CallId.eq_or_other i j with rfl | rfl
      · exact absurd hi hj
      · exact absurd ho hj
    told := fun j hj => by
      rw [State.callSnapshot_eq, outbox]
      rcases CallId.eq_or_other i j with rfl | rfl
      · rw [named]
        obtain ⟨n, hn, snapshot, flags⟩ := mem_postIn (((s.call j).freed c).snapshot j) 1 s.link.outbox
        exact ⟨n, (mem_postIn_other (by rw [snapshot]; exact apart) 1 _).2 hn, snapshot, flags⟩
      · rw [other]
        exact mem_postIn _ 1 _
    notices := fun n hn => by
      rw [outbox]
      exact (mem_postIn_other (hn i.other ho) 1 _).trans (mem_postIn_other (hn i hi) 1 _)
    voice := by
      rw [State.freeCall_voice, second, State.freeCall_voice]
      obtain ⟨hx, -⟩ := ho
      by_cases h1 : (s.call i).state = .connected <;> by_cases h2 : (s.call i.other).state = .connected <;>
        simp [h1, h2, hx, Voice.stop_stop] }

/-- R116: every call of the subscription is freed, the one named first. -/
theorem State.freeCalls_freesTo {s : State} {x : Sub} {i : CallId} (hi : s.usedBy x i) (c : CallCause) :
    s.freesTo x i c ((s.freeCall i c).freeCalls x (fun _ => true) .byHost) := by
  have free : ((s.freeCall i c).call i).state = .free := by
    rw [State.freeCall_call]
    rfl
  rw [State.freeCalls_other free, State.freeCall_call_other]
  split
  next ho => exact State.freeBoth_freesTo hi ho c
  next ho => exact State.freeCall_freesTo hi ho c

end Sys2Proof.Machine
end

section
/-! SUPPORT. What CALL_END in a handover leaves (R116, R95, R40). -/

namespace Sys2Proof.Machine

open Sys2Proof

/-- What a subscription without a request finds after the radio was granted to the other one. -/
structure State.grantsPast (t : State) (x : Sub) (v : State) : Prop where
  ctx : v.ctx = t.ctx
  voice : v.voice = t.voice
  store : v.store = t.store
  power : v.power = t.power
  filled : v.link.filled = t.link.filled
  record : v.sub x = t.sub x
  calls : ∀ j, (t.call j).sub = some x → v.call j = t.call j
  callNotices : ∀ j, (t.call j).sub = some x → ∀ n ∈ t.link.outbox, n.snapshot.key = (.call, callNumber j) → n ∈ v.link.outbox
  told : t.told x → v.told x

theorem subKey_other_ne (x : Sub) : subKey x.other ≠ subKey x := by cases x <;> decide

theorem callNumber_inj {i j : CallId} (h : callNumber i = callNumber j) : i = j := by
  rcases CallId.eq_or_other j i with rfl | rfl
  · rfl
  · exact absurd h (callNumber_other j)

/-- R35: a grant of the queue in which a subscription has no request. -/
theorem State.grantIfFree_past {t : State} {x : Sub} (hq : ∀ q ∈ t.engQueue, q.sub ≠ x) (hc : t.ctx.active = none) :
    t.grantsPast x t.grantIfFree := by
  have apart {p : NoticeKind × Nat → Bool} (hs : p (.sub, subKey x.other) = false)
      (hp : ∀ i, (t.call i).sub = some x.other → p (.call, callNumber i) = false) : t.grantIfFree.apart x p = t.apart x p :=
    State.grantIfFree_apart hq hs hp
  have kept {p : NoticeKind × Nat → Bool} (hs : p (.sub, subKey x.other) = false)
      (hp : ∀ i, (t.call i).sub = some x.other → p (.call, callNumber i) = false) {n : Notice} (hn : n ∈ t.link.outbox)
      (hk : p n.snapshot.key = true) : n ∈ t.grantIfFree.link.outbox := by
    have notices : t.grantIfFree.link.outbox.filter (fun n => p n.snapshot.key) =
        t.link.outbox.filter fun n => p n.snapshot.key := congrArg Apart.notices (apart hs hp)
    have : n ∈ t.link.outbox.filter fun n => p n.snapshot.key := List.mem_filter.2 ⟨hn, hk⟩
    rw [← notices] at this
    exact (List.mem_filter.1 this).1
  have plain := apart (p := fun _ => false) rfl fun _ _ => rfl
  have record : t.grantIfFree.sub x = t.sub x := congrArg Apart.record plain
  exact {
    ctx := by
      have bare : t.grantIfFree.ctx.bare = t.ctx.bare := congrArg Apart.ctx plain
      rw [CtxUnit.bare_unconnected hc] at bare
      exact CtxUnit.eq_of_bare bare hc
    voice := congrArg Apart.voice plain
    store := congrArg Apart.store plain
    power := congrArg Apart.power plain
    filled := congrArg Apart.filled plain
    record := record
    calls := fun j hj => by
      have call := congrFun (congrArg Apart.calls plain) j
      simp only [State.apart, hj, if_true] at call
      split at call
      · exact Option.some.inj call
      · cases call
    callNotices := fun j hj n hn hk => by
      refine kept (p := fun k => decide (k = (.call, callNumber j))) (by simp) (fun i hi => ?_) hn (by simp [hk])
      refine decide_eq_false fun h => ?_
      obtain rfl := callNumber_inj (congrArg Prod.snd h)
      rw [hj] at hi
      exact Sub.other_ne x (Option.some.inj hi).symm
    told := fun ⟨n, hn, snapshot, flags⟩ => by
      refine ⟨n, kept (p := fun k => decide (k = (.sub, subKey x))) ?_ (fun _ _ => by simp) hn ?_, ?_, flags⟩
      · exact decide_eq_false fun h => subKey_other_ne x (congrArg Prod.snd h)
      · rw [snapshot]
        exact decide_eq_true rfl
      · rw [snapshot, State.subSnapshot, State.subSnapshot, record] }

end Sys2Proof.Machine
end

section
/-! SUPPORT. A search that begins in an empty calendar (R24, R43). -/

namespace Sys2Proof.Machine

open Sys2Proof

theorem searchWindows_append (first : WinId) (now : Slot) (x : Sub) (cs : List Nat) (c : Nat) :
    searchWindows first now x (cs ++ [c]) = searchWindows first now x cs ++ [{
      id := first + BitVec.ofNat 32 cs.length, owner := .sub x, reporter := .subscription, purpose := .search, cls := .search
      channel := c, start := slotAdd now (3 + 2 * cs.length), len := 1, requested := slotAdd now (3 + 2 * cs.length)
      slack := some 8, block := none, state := .planned, withdrawn := false }] := by
  simp [searchWindows, List.zipIdx_append]

@[simp] theorem searchWindows_length (first : WinId) (now : Slot) (x : Sub) (cs : List Nat) :
    (searchWindows first now x cs).length = cs.length := by simp [searchWindows]

/-- A window of a search stands at one of its slots. -/
theorem mem_searchWindows {first : WinId} {now : Slot} {x : Sub} {cs : List Nat} {w : Window}
    (h : w ∈ searchWindows first now x cs) : ∃ k < cs.length, w.start = slotAdd now (3 + 2 * k) ∧ w.len = 1 := by
  obtain ⟨⟨c, k⟩, hk, rfl⟩ := List.mem_map.1 h
  obtain ⟨-, hk, -⟩ := List.mem_zipIdx hk
  exact ⟨k, by simpa using hk, rfl, rfl⟩

/-- One window of a search is inserted after another (R24). -/
def State.searchTurn (x : Sub) (p : State × List (WinId × Nat)) (ck : Nat × Nat) : State × List (WinId × Nat) :=
  let i := p.1.insert { owner := .sub x, reporter := .subscription, purpose := .search, channel := ck.1
                        start := slotAdd p.1.now (3 + 2 * ck.2), len := 1, slack := some 8, block := none }
  (i.2, p.2 ++ [(i.1, ck.1)])

theorem State.beginSearch_turns (s : State) (x : Sub) : s.beginSearch x =
    let p := (s.sub x).channels.zipIdx.foldl (State.searchTurn x) (s, [])
    p.1.modSub x fun r => { r with search := .sampling p.2 [] } := rfl

/-- The state in which the windows of a search stand in an empty calendar. -/
def State.searching (s : State) (x : Sub) (cs : List Nat) : State :=
  { s with cal := { s.cal with
      counter := s.cal.counter + BitVec.ofNat 32 cs.length, windows := searchWindows s.cal.counter s.now x cs } }

/-- R24, R43: a window of a search after some others, which it does not touch. -/
theorem State.searching_insert {s : State} (hq : s.cal.quiet = false) (x : Sub) {cs : List Nat} (hl : cs.length < 32) (c : Nat) :
    (s.searching x cs).insert { owner := .sub x, reporter := .subscription, purpose := .search, channel := c
                                start := slotAdd s.now (3 + 2 * cs.length), len := 1, slack := some 8, block := none } =
      (s.cal.counter + BitVec.ofNat 32 cs.length, s.searching x (cs ++ [c])) := by
  let i : Insertion := { owner := .sub x, reporter := .subscription, purpose := .search, channel := c
                         start := slotAdd s.now (3 + 2 * cs.length), len := 1, slack := some 8, block := none }
  let w := (s.searching x cs).newWindow i
  have apart {v : Window} (hv : v ∈ searchWindows s.cal.counter s.now x cs) :
      v.start ≠ i.start ∧ conflict w v = false ∧ before w v = false := by
    obtain ⟨k, hk, start, len⟩ := mem_searchWindows hv
    have wstart : w.start = slotAdd s.now (3 + 2 * cs.length) := rfl
    have wlen : w.len = 1 := rfl
    refine ⟨?_, ?_, ?_⟩
    · rw [start]
      simp only [i, slotAdd]
      bv_omega
    · simp only [conflict, shareSlot, backToBack, wstart, wlen, start, len, slotsTo, slotAdd, Bool.or_eq_false_iff,
        Bool.and_eq_false_iff, decide_eq_false_iff_not]
      refine ⟨?_, .inr ?_⟩
      · bv_omega
      · bv_omega
    · have unequal : w.start ≠ v.start := by
        rw [wstart, start]
        unfold slotAdd
        bv_omega
      have earlier : isLater v.start w.start = false := by
        rw [← Bool.not_eq_true, isLater_iff, wstart, start]
        unfold slotAdd
        bv_omega
      simp [before, unequal, earlier]
  have near : 3 ≤ (i.start - s.now).toNat ∧ (i.start - s.now).toNat < 2 ^ 31 := by
    simp only [i, slotAdd]
    bv_omega
  have unmatched : (s.searching x cs).matching i = none :=
    List.find?_eq_none.2 fun v hv => by simp [(apart hv).1]
  refine (State.insert_beside (s := s.searching x cs) unmatched hq near.1 near.2 (fun v hv => (apart hv).2.1)
    (by simpa [State.searching] using hl)).trans ?_
  have placed : place w (searchWindows s.cal.counter s.now x cs) = searchWindows s.cal.counter s.now x (cs ++ [c]) := by
    rw [place_last w _ fun v hv => (apart hv).2.2, searchWindows_append]
    rfl
  have count : s.cal.counter + BitVec.ofNat 32 cs.length + 1 = s.cal.counter + BitVec.ofNat 32 (cs ++ [c]).length := by
    rw [List.length_append, BitVec.add_assoc, BitVec.ofNat_add]
    rfl
  unfold State.searching
  rw [← placed, ← count]
  rfl

/-- R24: the windows of a search, one after another. -/
theorem State.searchTurns_eq {s : State} (hq : s.cal.quiet = false) (x : Sub) : ∀ cs : List Nat, cs.length ≤ 32 →
    cs.zipIdx.foldl (State.searchTurn x) (s.searching x [], []) =
      (s.searching x cs, (searchWindows s.cal.counter s.now x cs).map fun w => (w.id, w.channel)) := by
  intro cs
  induction cs using List.reverseRecOn with
  | nil => intro _; rfl
  | append_singleton cs c ih =>
    intro hl
    have room : cs.length < 32 := by
      rw [List.length_append] at hl
      exact hl
    rw [List.zipIdx_append, List.foldl_append, ih room.le, searchWindows_append]
    simp only [List.zipIdx_singleton, List.foldl_cons, List.foldl_nil, Nat.zero_add, State.searchTurn]
    rw [show (s.searching x cs).now = s.now from rfl, State.searching_insert hq x room c]
    simp

/-- R24: a search that begins in an empty calendar. -/
theorem State.beginSearch_empty {s : State} {x : Sub} (hw : s.cal.windows = []) (hq : s.cal.quiet = false)
    (hl : (s.sub x).channels.length ≤ 32) :
    let ws := searchWindows s.cal.counter s.now x (s.sub x).channels
    s.beginSearch x = { s with
      subs := s.subs.set x { s.sub x with search := .sampling (ws.map fun w => (w.id, w.channel)) [] }
      cal := { s.cal with windows := ws, counter := s.cal.counter + BitVec.ofNat 32 ws.length } } := by
  intro ws
  have start : s.searching x [] = s := by
    have windows : searchWindows s.cal.counter s.now x [] = s.cal.windows := by rw [hw]; rfl
    have count : s.cal.counter + BitVec.ofNat 32 ([] : List Nat).length = s.cal.counter := by simp
    unfold State.searching
    rw [windows, count]
  rw [State.beginSearch_turns]
  have turns := State.searchTurns_eq hq x (s.sub x).channels hl
  rw [start] at turns
  simp only [turns]
  rw [searchWindows_length]
  rfl

end Sys2Proof.Machine
end

section
/-! SUPPORT. All that the end of a connection leaves of a subscription that has nothing else under way (R37, R64, R66, R143). -/

namespace Sys2Proof.Machine

open Sys2Proof

/-- What narrows the end of a connection to that of its subscription: no other request waits, no text is being sent, no round and
no reselection read is in progress, and the calendar holds PLANNED windows of the connection alone. -/
structure State.endsAlone (s : State) (x : Sub) : Prop where
  staying : (s.sub x).detaching = none
  held : s.engaged = some { sub := x, stage := .connected }
  requests : ∀ q ∈ s.engQueue, q.sub = x
  unsending : s.sendingEntry x = none
  rounds : ∀ y, (s.measOf y).rounds = []
  resel : (s.measOf x).resel = .none
  unbound : ∀ e ∈ s.meas.entries, e.bound = none
  indices : (s.meas.entries.map Entry.index).Nodup
  untargeted : (s.sub x.other).target = none
  windows : ∀ w ∈ s.cal.windows, w.owner = .sub x ∧ w.reporter = .context ∧ w.state = .planned
  silenceOver : s.cal.quiet = false
  channels : (s.sub x).channels.length ≤ 32

/-- R39: a registration that ends without an outcome may post a SUB notice. -/
theorem State.regDropped_eq (s : State) (x : Sub) : ∃ o : List Notice, s.regDropped x = { s with
    subs := s.subs.set x { s.sub x with regGuard := none, areaChanged := false }, link := { s.link with outbox := o } } ∧
    ∀ n : Notice, n.snapshot.key ≠ (.sub, subKey x) → (n ∈ o ↔ n ∈ s.link.outbox) := by
  let r := s.modSub x fun r => { r with regGuard := none, areaChanged := false }
  by_cases h : s.registering x = true
  · exact ⟨postIn (r.subSnapshot x) SubFlag.registration s.link.outbox, if_pos h, fun n hn => mem_postIn_other hn _ _⟩
  · exact ⟨s.link.outbox, if_neg h, fun _ _ => Iff.rfl⟩

section
variable {s : State} {x : Sub} (h : s.endsAlone x) (hc : s.connection x ≠ none)
include h hc

/-- R16, R103: the connection ends. -/
theorem State.endsAlone.dropConnection : ∃ o : List Notice,
    s.dropConnection x = { s.disconnected x with
      cal := { s.cal with windows := [] }, link := { s.link with outbox := o } } ∧
    ∀ n : Notice, n.snapshot.key ≠ (.sub, subKey x) → (n ∈ o ↔ n ∈ s.link.outbox) := by
  let a : State := { s with cal := { s.cal with windows := [] } }
  have withdrawn : (s.withdrawAll fun w => w.ofContext x) = a := by
    rw [State.withdrawAll_eq, withdrawnBy_all fun w hw => ?_]
    obtain ⟨owner, reporter, planned⟩ := h.windows w hw
    simp [Window.ofContext, Window.isPlanned, owner, reporter, planned]
  obtain ⟨o, dropped, notices⟩ := a.regDropped_eq x
  refine ⟨o, ?_, notices⟩
  have connected : (a.connection x).isSome = true := Option.isSome_iff_ne_none.2 hc
  unfold State.dropConnection
  simp only [withdrawn, dropped]
  rw [State.textConnEnded_none (by exact h.unsending), State.setMode_none (by exact connected) rfl (by exact h.rounds x)]
  refine (if_pos (by exact connected)).trans ?_
  simp only [State.disconnected, State.modText, State.modCtx, Two.set_set, Two.get_set_same]
  rfl

/-- The state in which such a subscription searches again: its camping, its registration and its reason ended, its incoming reason
and recent records gone, its mode NONE, some entries left, and one SEARCH window for each channel. -/
def State.searchingAgain (s : State) (x : Sub) (es : List Entry) (o : List Notice) : State :=
  let ws := searchWindows s.cal.counter s.now x (s.sub x).channels
  { s with
    ctx := { CtxUnit.reset with nextMsg := s.ctx.nextMsg }, engaged := none, engQueue := []
    subs := s.subs.set x { s.sub x with
      state := .searching, camped := none, target := none, reason := none, page := none, refresh := none
      regGuard := none, areaChanged := false, search := .sampling (ws.map fun w => (w.id, w.channel)) [] }
    text := { s.text with
      recent := s.text.recent.filter fun r => decide (r.sub ≠ x)
      subs := s.text.subs.set x { s.textOf x with incoming := false, idle := .stopped, readySent := false } }
    meas := { s.unmeasured x with entries := es }
    cal := { s.cal with windows := ws, counter := s.cal.counter + BitVec.ofNat 32 ws.length }
    link := { s.link with outbox := o } }

/-- R37: the connection lost, its subscription searches again. -/
theorem State.endsAlone.loseConnection (hu : s.uncalled x) (why : CallCause) : ∃ (es : List Entry) (o : List Notice),
    s.loseConnection x why = s.searchingAgain x es o ∧
    (es.map fun e => (e.cell, e.level)) =
      ((s.meas.entries.filter fun e => e.owner.get x.other || e.serving.get x.other).map fun e => (e.cell, e.level)) ∧
    (∀ e ∈ es, e.owner.get x = false ∧ e.serving.get x = false) ∧
    ∀ n : Notice, n.snapshot.key ≠ (.sub, subKey x) → (n ∈ o ↔ n ∈ s.link.outbox) := by
  obtain ⟨o, dropped, notices⟩ := State.endsAlone.dropConnection h hc
  let lost : State := { s.disconnected x with
    cal := { s.cal with windows := [] }, link := { s.link with outbox := o }, engaged := none, engQueue := [] }
  let unpaged : State := { lost with
    subs := s.subs.set x { s.sub x with regGuard := none, areaChanged := false, page := none, refresh := none } }
  have released : ((s.dropConnection x).disengage x).dropRequest x = lost := by
    have requests : ∀ q ∈ ((s.dropConnection x).disengage x).engQueue, q.sub = x := by
      rw [dropped]
      exact h.requests
    have held : (s.dropConnection x).engaged = some { sub := x, stage := .connected } := by
      rw [dropped]
      exact h.held
    have free : (s.dropConnection x).disengage x = { s.dropConnection x with engaged := none } := by
      simp [State.disengage, held]
    rw [State.dropRequest_all requests, free, dropped]
  have paging : lost.dropPaging x = unpaged := by
    have none : (lost.withdrawAll fun w => w.isOf x [.pageRx, .beaconRx]) = lost :=
      lost.withdrawAll_none _ fun w hw => absurd hw List.not_mem_nil
    unfold State.dropPaging
    rw [none]
    simp only [lost, State.disconnected, State.modSub, Two.set_set, Two.get_set_same]
    rfl
  have rest : unpaged.unmeasuring x :=
    { unconnected := rfl
      windows := fun w hw => absurd hw List.not_mem_nil
      rounds := Two.get_set_cases (P := fun m : MeasSub => m.rounds = []) (h.rounds x) (h.rounds x.other)
      resel := (congrArg MeasSub.resel (Two.get_set_same ..)).trans h.resel
      unbound := h.unbound
      indices := h.indices
      untargeted := (congrArg SubRec.target (Two.get_set_other ..)).trans h.untargeted }
  obtain ⟨es, camps, levels, left⟩ := rest.campsNoMore
  let searches : State := { unpaged with
    subs := s.subs.set x { s.sub x with
      state := .searching, camped := none, target := none, reason := none, page := none, refresh := none
      regGuard := none, areaChanged := false }
    meas := { s.unmeasured x with entries := es } }
  have unmeasured : unpaged.unmeasured x = s.unmeasured x := by
    simp only [unpaged, lost, State.disconnected, State.unmeasured, State.measOf, Two.set_set, Two.get_set_same]
  have camped : ((unpaged.campsNoMore x).modSub x fun r =>
      { r with state := .searching, camped := none, target := none, reason := none }) = searches := by
    rw [camps, unmeasured]
    simp only [unpaged, State.modSub, State.sub, Two.set_set, Two.get_set_same]
    rfl
  let posted := searches.postSub x (SubFlag.state ||| SubFlag.cell)
  have record : posted.sub x = { s.sub x with
      state := .searching, camped := none, target := none, reason := none, page := none, refresh := none
      regGuard := none, areaChanged := false } := Two.get_set_same ..
  have begins := State.beginSearch_empty (s := posted) (x := x) rfl h.silenceOver (by rw [record]; exact h.channels)
  rw [record] at begins
  have ends : s.loseConnection x why = (posted.beginSearch x).grantIfFree := by
    have staying : (s.dropConnection x).leaving x = false := by
      rw [State.leaving, State.dropConnection_sub, h.staying]
      rfl
    have searching : lost.toSearching x = posted.beginSearch x := by
      unfold State.toSearching
      rw [paging]
      simp only [camped]
      rfl
    have uncalled : lost.uncalled x := hu
    unfold State.loseConnection
    rw [State.endCalls_none hu]
    refine (if_neg (by rw [staying]; decide)).trans ?_
    unfold State.engagedToSearch State.lostService
    rw [released, State.freeCalls_none uncalled, searching]
  refine ⟨es, postIn (searches.subSnapshot x) (SubFlag.state ||| SubFlag.cell) o, ?_, levels, left, fun n hn => ?_⟩
  · have again (r : SubRec) : posted.subs.set x r = s.subs.set x r := Two.set_set ..
    rw [ends, begins, State.grantIfFree_idle rfl, again]
    rfl
  · exact (mem_postIn_other hn _ _).trans (notices n hn)

end

end Sys2Proof.Machine
end

section
/-! SUPPORT. CALL_END, in and outside a handover (R92, R116). -/

namespace Sys2Proof.Machine

open Sys2Proof

/-- R116: the cause of a record that is ended in a handover: a CLEARING one keeps its own. -/
def CallRec.abandonedFor (r : CallRec) : CallCause := if r.state = .clearing then r.cause.getD .byHost else .byHost

/-- R116: in a handover every call of the subscription is freed, its connection is lost, and the radio granted anew. -/
theorem State.abandonHandover_ends {s : State} {x : Sub} {i : CallId} (hi : s.usedBy x i) (hc : s.connection x ≠ none) :
    ∃ w t, s.freesTo x i (s.call i).abandonedFor w ∧ w.losesTo x t ∧ t.grantsPast x t.grantIfFree ∧
      s.abandonHandover x i = w.loseConnection x .byHost ∧ w.loseConnection x .byHost = t.grantIfFree := by
  have frees := State.freeCalls_freesTo hi (s.call i).abandonedFor
  have abandons : s.abandonHandover x i =
      ((s.freeCall i (s.call i).abandonedFor).freeCalls x (fun _ => true) .byHost).loseConnection x .byHost := rfl
  rw [abandons]
  generalize (s.freeCall i (s.call i).abandonedFor).freeCalls x (fun _ => true) .byHost = w at frees
  have connected : w.connection x ≠ none := by
    rw [frees.frame]
    exact hc
  obtain ⟨t, steps, loses⟩ := State.loseConnection_ends connected frees.uncalled .byHost
  refine ⟨w, t, frees, loses, State.grantIfFree_past (fun q hq => ?_) ?_, rfl, steps⟩
  · rw [loses.requests] at hq
    simpa using (List.mem_filter.1 hq).2
  · rw [loses.ctx]
    rfl

/-- R142, R147: the writes of open entries, each of the subscription. -/
theorem State.lastWrites_eq (s : State) (x : Sub) : s.lastWrites x =
    (s.text.table.filter fun e => decide (e.sub = x ∧ e.closing = none)).filterMap fun e =>
      e.slot.map fun p => .write p {
        header := {
          number := 0, sub := x, sender := e.sender, time := 0, count := e.count, present := e.parts.map Prod.fst
          complete := false }
        body := e.parts.flatMap Prod.snd } := by
  refine List.filterMap_congr fun e he => ?_
  obtain ⟨rfl, -⟩ := of_decide_eq_true (List.mem_filter.1 he).2
  rfl

section
variable {s : State} {tag id : Byte} {i : CallId} {x : Sub} (ha : s.accepts tag (.callEnd id)) (hi : callIdOf id = some i)
  (hm : s.ctx.handover ≠ .none) (hx : (s.call i).sub = some x) (hf : (s.call i).state ≠ .free)
  (hb : (s.call i).state ≠ .blocked) (hc : s.connection x ≠ none)
include ha hi hm hx hf hb hc

theorem exec_callEnd_moving :
    exec (.callEnd tag id) s = settle ((s.replied tag 0x22 .done .none).abandonHandover x i) := by
  let u := s.replied tag 0x22 .done .none
  have moving : u.callInHandover i = true := (State.callInHandover_iff (s := u) hx hb).2 ⟨hm, hc⟩
  have named : (u.call i).sub = some x := hx
  rw [exec_callEnd ha hi hf, State.endCall, if_pos moving, named]
  rfl

end

/-- A subscription that ends alone does so whatever became of its calls. -/
theorem State.freesTo.endsAlone {s w : State} {x : Sub} {i : CallId} {c : CallCause} (h : s.freesTo x i c w)
    (he : s.endsAlone x) : w.endsAlone x := by
  rw [h.frame]
  exact { he with }

section
variable {s w t : State} {x : Sub} {i : CallId} {c : CallCause} (frees : s.freesTo x i c w) (loses : w.losesTo x t)
  (past : t.grantsPast x t.grantIfFree)
include frees loses past

/-- R116: each call of the subscription is FREE, with its notice. -/
theorem State.abandoned_call {j : CallId} (hj : s.usedBy x j) :
    t.grantIfFree.call j = (s.call j).freed (if j = i then c else .byHost) ∧
      ∃ n ∈ t.grantIfFree.link.outbox, n.snapshot = t.grantIfFree.callSnapshot j ∧ n.flags &&& 1 = 1 := by
  have same : t.call j = w.call j := by cases j <;> simp only [State.call, loses.calls]
  have own : (t.call j).sub = some x := by
    rw [same, frees.calls j hj]
    exact hj.1
  have call : t.grantIfFree.call j = w.call j := (past.calls j own).trans same
  refine ⟨call.trans (frees.calls j hj), ?_⟩
  obtain ⟨n, hn, snapshot, flags⟩ := frees.told j hj
  have key : n.snapshot.key = (.call, callNumber j) := by rw [snapshot]; rfl
  have isCall : n ∈ w.link.callsOnly.outbox := List.mem_filter.2 ⟨hn, by simp [isCallKey, key]⟩
  rw [← loses.notices] at isCall
  refine ⟨n, past.callNotices j own n (List.mem_filter.1 isCall).1 key, ?_, flags⟩
  rw [snapshot, State.callSnapshot_eq, State.callSnapshot_eq, call]

omit past in
/-- R95: without a request of the other subscription its calls stand. -/
theorem State.abandoned_other (hq : ∀ q ∈ s.engQueue, q.sub = x) {j : CallId} (hj : ¬s.usedBy x j) :
    t.grantIfFree.call j = s.call j := by
  have none : t.engQueue = [] := by
    have queue : w.engQueue = s.engQueue := by rw [frees.frame]
    rw [loses.requests, queue]
    exact List.filter_eq_nil_iff.2 fun q hmem => by simp [hq q hmem]
  rw [State.grantIfFree_idle none, ← frees.others j hj]
  cases j <;> simp only [State.call, loses.calls]

end

/-- R116: all that is left of a subscription that has nothing else under way. -/
theorem State.freesTo.searchingAgain {s w : State} {x : Sub} {i : CallId} {c : CallCause} (frees : s.freesTo x i c w)
    (alone : s.endsAlone x) (hc : s.connection x ≠ none) {v : State} (hv : w.loseConnection x .byHost = v) :
    v = { s.searchingAgain x v.meas.entries v.link.outbox with calls := v.calls, voice := v.voice } ∧
    (v.meas.entries.map fun e => (e.cell, e.level)) =
      ((s.meas.entries.filter fun e => e.owner.get x.other || e.serving.get x.other).map fun e => (e.cell, e.level)) ∧
    (∀ e ∈ v.meas.entries, e.owner.get x = false ∧ e.serving.get x = false) ∧
    ∀ n : Notice, n.snapshot.key ≠ (.sub, subKey x) → (∀ j, s.usedBy x j → n.snapshot.key ≠ (.call, callNumber j)) →
      (n ∈ v.link.outbox ↔ n ∈ s.link.outbox) := by
  have connected : w.connection x ≠ none := by
    rw [frees.frame]
    exact hc
  obtain ⟨es, o, ends, levels, left, notices⟩ := (frees.endsAlone alone).loseConnection connected frees.uncalled .byHost
  rw [ends] at hv
  subst hv
  rw [frees.frame] at levels
  refine ⟨?_, levels, left, fun n hs hcall => (notices n hs).trans (frees.notices n hcall)⟩
  rw [frees.frame]
  rfl

/-- Settles O45: outside a handover a call is cleared by its state (`State.localClear_frees`, `State.localClear_offers`), in one
the connection is abandoned (`State.abandonHandover_ends`, `State.endsAlone.loseConnection`), and what the CALL purpose leaves is
told by the lemmas about `State.callGone`. -/
theorem callEndByState : Obligations.CallEndByState := by
  refine ⟨fun tag id s ha hq => ?_, fun x s => ⟨fun c hc => ⟨State.callGone_used hc, fun hu hl =>
      ⟨State.callGone_leaves hc hu hl, State.callGone_registers hc hu⟩⟩,
    fun hc => ⟨State.callGone_call hc, State.callGone_queue hc, fun a hcall he => ?_⟩⟩⟩
  · intro run
    refine ⟨fun hi => ?_, fun i hi => ?_⟩
    · unfold run exec execCallEnd
      refine dispatched_replied ha hq _ .badValue _ ?_
      simp only [hi]
      rfl
    intro told freed
    let u := s.replied tag 0x22 .done .none
    refine ⟨fun hf => ?_, fun hm => ?_, fun x c hm hx hc hf hb => ?_⟩
    · have free : ((s.reserveHead tag 0x22).call i).state = .free := hf
      unfold run exec execCallEnd
      refine dispatched_replied ha hq _ .unknownItem _ ?_
      simp only [hi]
      exact if_pos free
    · have clears (hf : (s.call i).state ≠ .free) : run = settle (u.localClear i .byHost) := by
        rw [← State.endCall_clears (s := u) hm]
        exact exec_callEnd ha hi hf
      have frees {x : Sub} (hx : (s.call i).sub = some x) (hs : (s.call i).state = .blocked ∨ (s.call i).state = .dialling ∨
          (s.call i).state = .requesting ∨ ((s.call i).state = .incoming ∧ (s.call i).arrived = false)) :
          run = settle (if (s.call i).state = .blocked ∧ s.connection x = none then freed else freed.callGone x) := by
        have used : (s.call i).state ≠ .free ∧ (s.call i).state ≠ .connected := by
          rcases hs with hs | hs | hs | ⟨hs, -⟩ <;> simp [hs]
        rw [clears used.1, State.localClear_frees (s := u) hs, State.freeAndLeave_eq (s := u) hx,
          State.freeCall_told (s := u) used.2]
        have same : u.callTold i ((u.call i).freed .byHost) 1 = freed := by cases i <;> rfl
        exact congrArg settle (if_congr Iff.rfl same (congrArg (fun v : State => v.callGone x) same))
      refine ⟨fun hs => ?_, fun x hx => ⟨fun hs => ?_, fun hs => ?_, fun hs hd => ?_⟩, fun hs => ?_⟩
      · have stands : u.localClear i .byHost = u := by
          have clearing : (u.call i).state = .clearing := hs
          simp only [State.localClear, clearing]
        rw [clears (by simp [hs]), stands]
        exact settle_quiet hq
      · rw [frees hx (.inl hs)]
        simp only [hs, true_and]
        split
        · exact settle_quiet hq
        · rfl
      · have unblocked : (s.call i).state ≠ .blocked := by
          rcases hs with hs | hs | ⟨hs, -⟩ <;> simp [hs]
        rw [frees hx (.inr hs), if_neg fun h => unblocked h.1]
      · have named : ((u.removeMsgs UpMsg.isDial).call i).sub = some x := hx
        have offering : ((u.removeMsgs UpMsg.isDial).call i).state = .offering := hs
        rw [clears (by simp [hs]), State.localClear_unsent (s := u) hs hd, State.freeAndLeave_eq named,
          if_neg fun h => by simp [offering] at h, State.freeCall_told (by simp [offering])]
        cases i <;> rfl
      · have used : (s.call i).state ≠ .free := by
          rcases hs with hs | ⟨hs, -⟩ | ⟨hs, -⟩
          · intro hf
            simp [hf] at hs
          · simp [hs]
          · simp [hs]
        rw [clears used, State.localClear_offers (s := u) hs]
        refine (settle_quiet (by rw [State.droppedLocally_reports]; exact hq)).trans ?_
        cases i <;> rfl
    · have connected : s.connection x ≠ none := by simp [hc]
      obtain ⟨w, t, frees, loses, past, steps, ends⟩ := State.abandonHandover_ends (s := u) (x := x) (i := i) ⟨hx, hf⟩ connected
      have wsub : w.sub x = s.sub x := by rw [frees.frame]; rfl
      have runs : run = settle t.grantIfFree := by
        rw [← ends, ← steps]
        exact exec_callEnd_moving ha hi hm hx hf hb connected
      have ctx : t.grantIfFree.ctx = { CtxUnit.reset with nextMsg := s.ctx.nextMsg } := by
        rw [past.ctx, loses.ctx, frees.frame]
        rfl
      refine ⟨t.grantIfFree, runs, ctx, fun j hj hused => ?_, ?_, ?_, past.told loses.told, ?_, fun hqueue j hj => ?_, ?_, ?_,
        ?_, ?_⟩
      · obtain ⟨call, told⟩ := State.abandoned_call frees loses past (j := j) ⟨hj, hused⟩
        refine ⟨call.trans ?_, told⟩
        have cause : (if j = i then (u.call i).abandonedFor else CallCause.byHost) =
            if j = i ∧ (s.call i).state = .clearing then (s.call i).cause.getD .byHost else .byHost := by
          by_cases h : j = i
          · simp only [h, if_true, true_and]
            rfl
          · simp only [h, if_false, false_and]
        rw [cause]
        rfl
      · rw [past.record, loses.state, wsub]
      · rw [past.record, loses.camped]
      · have filled : w.link.filled = u.link.filled := by rw [frees.frame]
        rw [past.filled, show (s.replied tag 0x22 .done .none).link.filled = w.link.filled from filled.symm]
        exact loses.filled
      · exact State.abandoned_other frees loses hqueue fun h => hj.elim (· h.1) h.2
      · rw [past.voice, loses.voice, frees.voice]
        rfl
      · rw [past.store, loses.store, wsub, ← State.lastWrites_eq, frees.frame]
        rfl
      · rw [past.power, loses.power, frees.frame]
        rfl
      · intro hl he hqueue hsend hrounds hresel hbound hindices htarget hwindows hquiet hchannels
        have alone : u.endsAlone x :=
          ⟨hl, he, hqueue, hsend, hrounds, hresel, hbound, hindices, htarget, hwindows, hquiet, hchannels⟩
        obtain ⟨same, levels, left, notices⟩ := frees.searchingAgain alone connected ends
        refine ⟨?_, levels, left, fun n hs hcall => notices n hs fun j hj => hcall j hj.1 hj.2⟩
        rw [ctx]
        exact same
  · intro rest u
    have gone := State.callGone_attempt hc hcall he
    exact ⟨fun hr => gone.trans (if_neg hr), fun hr => gone.trans (if_pos hr)⟩

end Sys2Proof.Machine
end

section
/-! SUPPORT. The voice path (R122 to R133): what fills a port frame, the trim watermark and the uplink ring, each as one equation
per case, and the settlement of the commands of the port. -/

namespace Sys2Proof.Machine

open Sys2Proof

/-! ### A frame without data (R124, R131) -/

/-- R124: the output mark of a frame without data. -/
def Voice.emptyMark (v : Voice) : OutMark := if v.hold || (!v.playing && v.resumed) then .held else .fill

/-- R124: HELD in hold and in PRIMING after a resume, FILL otherwise. -/
theorem Voice.emptyMark_eq (v : Voice) :
    v.emptyMark = if v.hold = true ∨ (v.playing = false ∧ v.resumed = true) then .held else .fill := by
  simp only [Voice.emptyMark, Bool.or_eq_true, Bool.and_eq_true, Bool.not_eq_true']

/-- R124: the repeat store, while the repeat count is below 3. -/
theorem Voice.noData_repeats {v : Voice} {octets : List Byte} (source : Option Mark) (hs : v.store = some octets)
    (hr : v.repeats < 3) : v.noData source = { v with
      repeats := v.repeats + 1
      counts := v.counts.output v.emptyMark false
      frame := some (statusOctet v.emptyMark (v.repeats + 1) source :: octets) } := by
  unfold Voice.noData
  simp only [hs]
  exact if_pos hr

/-- R124: silence without a store, and once the repeat count is 3. -/
theorem Voice.noData_silent {v : Voice} (source : Option Mark) (h : v.store = none ∨ 3 ≤ v.repeats) : v.noData source = { v with
    counts := v.counts.output v.emptyMark true
    frame := some (statusOctet v.emptyMark 0 source :: silence) } := by
  unfold Voice.noData
  cases hs : v.store with
  | none => rfl
  | some octets =>
    have : ¬v.repeats < 3 := by simpa [hs] using h
    exact if_neg this

/-! ### A frame of an entry (R123) -/

/-- R123: a GOOD entry is played. -/
theorem Voice.play_good {v : Voice} {e : VoiceEntry} {rest : List VoiceEntry} (hd : v.down = e :: rest) (hm : e.mark = .good) :
    v.play = { v with down := rest }.data .good e := by
  unfold Voice.play
  simp only [hd, hm]

/-- R123: a DAMAGED entry is played. -/
theorem Voice.play_damaged {v : Voice} {e : VoiceEntry} {rest : List VoiceEntry} (hd : v.down = e :: rest)
    (hm : e.mark = .damaged) : v.play = { v with down := rest }.data .damaged e := by
  unfold Voice.play
  simp only [hd, hm]

/-- R123, R124: any other entry leaves the frame without data. -/
theorem Voice.play_other {v : Voice} {e : VoiceEntry} {rest : List VoiceEntry} (hd : v.down = e :: rest) (hg : e.mark ≠ .good)
    (hb : e.mark ≠ .damaged) : v.play = { v with down := rest }.noData (some e.mark) := by
  unfold Voice.play
  cases hm : e.mark with
  | good => exact absurd hm hg
  | damaged => exact absurd hm hb
  | lost => simp only [hd, hm]
  | signal => simp only [hd, hm]
  | stolen => simp only [hd, hm]

/-- Settles O49: the two cases of `Voice.noData`, each under either mark, and the two entries that are played. -/
theorem aFrameWithoutDataRepeatsTheStore : Obligations.AFrameWithoutDataRepeatsTheStore := by
  intro v source held counted octet
  have mark : v.emptyMark = if held then .held else .fill := v.emptyMark_eq
  have marked (silent : Bool) : v.counts.output v.emptyMark silent = counted silent := by
    by_cases h : held
    · simp only [mark, counted, if_pos h]
      cases silent <;> rfl
    · simp only [mark, counted, if_neg h]
      cases silent <;> rfl
  have status (n : Nat) : statusOctet v.emptyMark n source = octet n := by
    simp only [mark, octet]
    cases source with
    | none => split_ifs <;> rfl
    | some m => cases m <;> split_ifs <;> rfl
  refine ⟨fun octets hs hr => ?_, fun h => ?_, fun e rest hd hm => ?_⟩
  · rw [Voice.noData_repeats source hs hr, marked, status]
  · rw [Voice.noData_silent source h, marked, status]
    rfl
  · rcases hm with hm | hm
    · rw [Voice.play_good hd hm]
      exact ⟨rfl, rfl⟩
    · rw [Voice.play_damaged hd hm]
      exact ⟨rfl, rfl⟩

/-! ### PORT_FRAME_START (R123, R125, R130, R132) -/

/-- R130: a running port of a part that is awake begins a frame at a codec's frame sync, and, where the part drives both the
frame sync and the clock, at a slot value that is a multiple of 10. -/
theorem exec_portFrameStart {s : State} (ha : s.awake = true) (hr : s.voice.running = true)
    (hd : s.voice.settings.frame = .follow ∨ (s.voice.settings.frame = .drive ∧ s.voice.settings.clock = .drive ∧
      s.now.toNat % 10 = 0 ∧ s.voice.lastFrame ≠ some s.now)) (hq : s.quiet) :
    exec .portFrameStart s = .next { s with voice := { s.voice.cutShort.output with lastFrame := some s.now } } := by
  have due : s.portFrameDue = true := by
    unfold State.portFrameDue
    rcases hd with hf | ⟨hf, hc, hslot⟩
    · simp [ha, hr, hf]
    · simp [ha, hr, hf, hc, hslot]
  have begins : exec .portFrameStart s = settle (s.modVoice fun v => { v.cutShort.output with lastFrame := some s.now }) :=
    if_pos due
  rw [begins]
  exact settle_quiet hq

/-- R132: a frame in progress that the part does not time itself is counted short; none is in progress afterwards. -/
theorem Voice.cutShort_eq (v : Voice) : v.cutShort = { v with
    shortFrames := if v.frame ≠ none ∧ (v.settings.frame = .follow ∨ v.settings.clock = .follow) then
        min (v.shortFrames + 1) 65535
      else v.shortFrames
    frame := none } := by
  have timed : v.settings.bothDriven = true ↔ ¬(v.settings.frame = .follow ∨ v.settings.clock = .follow) := by
    unfold VoiceSettings.bothDriven
    cases v.settings.frame <;> cases v.settings.clock <;> decide
  unfold Voice.cutShort
  cases hf : v.frame with
  | none =>
    simp only [Option.isSome_none, Bool.false_eq_true, if_false, ne_eq, not_true_eq_false, false_and]
    rw [← hf]
  | some octets =>
    simp only [Option.isSome_some, if_true, timed, ite_not, ne_eq, reduceCtorEq, not_false_eq_true, true_and]
    rfl

/-- R125: the trim count starts anew with 8 entries or fewer, and rises otherwise, until at the 64th time the oldest entry goes. -/
theorem Voice.trimmed_eq (v : Voice) : v.trimmed = if v.down.length ≤ 8 then { v with trim := 0 }
    else if v.trim < 63 then { v with trim := v.trim + 1 }
    else { v with down := v.down.drop 1, trim := 0, counts := { v.counts with trims := min (v.counts.trims + 1) 65535 } } := by
  unfold Voice.trimmed
  by_cases hl : v.down.length ≤ 8
  · rw [if_pos hl, if_neg (by omega)]
  · rw [if_neg hl, if_pos (by omega)]
    by_cases ht : v.trim < 63
    · rw [if_pos ht, if_neg (by omega)]
    · rw [if_neg ht, if_pos (by omega)]
      rfl

/-- R123: a PLAYING path, and a PRIMING one with 2 entries, plays its oldest entry. -/
theorem Voice.output_plays {v : Voice} {e : VoiceEntry} {rest : List VoiceEntry} (hd : v.trimmed.down = e :: rest)
    (hp : v.trimmed.playing = true ∨ rest ≠ []) : v.output = { v.trimmed with playing := true }.play := by
  unfold Voice.output
  by_cases h : v.trimmed.playing = true
  · simp only [h, if_true]
    rw [← h]
  · have two : 2 ≤ v.trimmed.down.length := by
      have := List.length_pos_of_ne_nil (hp.resolve_left h)
      rw [hd, List.length_cons]
      omega
    simp only [h, two, if_true, Bool.false_eq_true, if_false]

/-- R123, R124: with no entry taken the frame is one without data. -/
theorem Voice.output_empty {v : Voice}
    (h : v.trimmed.down = [] ∨ (v.trimmed.playing = false ∧ v.trimmed.down.length < 2)) :
    v.output = v.trimmed.noData none := by
  unfold Voice.output
  by_cases hp : v.trimmed.playing = true
  · have empty : v.trimmed.down = [] := h.resolve_right fun g => by simp [hp] at g
    simp only [hp, if_true]
    unfold Voice.play
    simp only [empty]
  · have few : ¬2 ≤ v.trimmed.down.length := by
      rcases h with h | ⟨-, h⟩
      · simp [h]
      · omega
    simp only [hp, few, Bool.false_eq_true, if_false]

/-- Settles O48: `exec_portFrameStart`, with the output of the path that was cut short and trimmed. -/
theorem aPortFrameTakesTheOldestEntry : Obligations.APortFrameTakesTheOldestEntry := by
  intro s ha hr hd hq short v w
  have trims : s.voice.cutShort.trimmed = w := by rw [Voice.trimmed_eq, Voice.cutShort_eq]
  rw [exec_portFrameStart ha hr hd hq]
  refine ⟨fun e rest hdown hp => ?_, fun h => ?_⟩
  · have plays : s.voice.cutShort.output = { w with playing := true }.play := by
      rw [← trims] at hdown hp ⊢
      exact Voice.output_plays hdown hp
    have down : { w with playing := true }.down = e :: rest := hdown
    rw [plays]
    refine ⟨fun hm => ?_, fun hm => ?_, fun hg hb => ?_⟩
    · rw [Voice.play_good down hm, Voice.data, hm]
      rfl
    · rw [Voice.play_damaged down hm, Voice.data, hm]
      rfl
    · rw [Voice.play_other down hg hb]
  · have empty : s.voice.cutShort.output = w.noData none := by
      rw [← trims] at h ⊢
      exact Voice.output_empty h
    rw [empty]

/-! ### UPLINK_BLOCK_RECEIVED (R122, R127) -/

/-- R127: a block joins a ring with room. -/
theorem Voice.addUp_room {v : Voice} (block : List Byte) (h : v.up.length < 16) :
    v.addUp block = { v with up := v.up ++ [block] } := if_neg (Nat.not_le.2 h)

/-- R127, R122: a full ring first loses its oldest block. -/
theorem Voice.addUp_full {v : Voice} (block : List Byte) (h : 16 ≤ v.up.length) : v.addUp block = { v with
    up := v.up.drop 1 ++ [block]
    counts := { v.counts with upOverflow := min (v.counts.upOverflow + 1) 65535 } } := if_pos h

/-- R127: the 21 octets of a frame in progress give the ring a block, and the frame is over. -/
theorem exec_uplinkBlockReceived {s : State} {octets : List Byte} (ha : s.awake = true) (hr : s.voice.running = true)
    (hf : s.voice.frame ≠ none) (hl : octets.length = 21) (hq : s.quiet) : exec (.uplinkBlockReceived octets) s =
      .next { s with voice := { s.voice.addUp (octets.drop 1) with frame := none } } := by
  have taken : exec (.uplinkBlockReceived octets) s =
      settle (s.modVoice fun v => { v.addUp (octets.drop 1) with frame := none }) :=
    if_pos ⟨ha, hr, Option.isSome_iff_ne_none.2 hf, hl⟩
  rw [taken]
  exact settle_quiet hq

/-- Settles O50: the ring with room and the full ring; without a frame, or with another number of octets, the command does
nothing. -/
theorem anUplinkBlockJoinsTheRing : Obligations.AnUplinkBlockJoinsTheRing := by
  intro octets s ha hr hq
  refine ⟨fun hf hl => ⟨fun room => ?_, fun full => ?_⟩, fun h => ?_⟩
  · rw [exec_uplinkBlockReceived ha hr hf hl hq, Voice.addUp_room _ room]
  · rw [exec_uplinkBlockReceived ha hr hf hl hq, Voice.addUp_full _ full]
  · refine if_neg ?_
    rintro ⟨-, -, hf, hl⟩
    exact h.elim (Option.isSome_iff_ne_none.1 hf) fun other => other hl

/-! ### VOICE_SET (R129) -/

/-- R129: a value given must be one of those it can name, and an absent one leaves the present value. -/
theorem given_eq {α : Type} {f : Byte → Option α} {g : Byte → α} {n : Nat}
    (hf : ∀ o, f o = if o.toNat ≤ n then some (g o) else none) (present : α) (x : Option Byte) :
    given f present x = if ∀ o ∈ x, o.toNat ≤ n then some ((x.map g).getD present) else none := by
  cases x with
  | none => simp [given]
  | some o => simp [given, hf o]

/-- R129: a value that is set was in range. -/
theorem given_inRange {α : Type} {f : Byte → Option α} {g : Byte → α} {n : Nat}
    (hf : ∀ o, f o = if o.toNat ≤ n then some (g o) else none) {present c : α} {x : Option Byte}
    (h : given f present x = some c) : ∀ o ∈ x, o.toNat ≤ n := by
  rw [given_eq hf, Option.ite_none_right_eq_some] at h
  exact h.1

/-- An octet of at most 1 is 0 or 1. -/
theorem byte_toNat_le_one {o : Byte} : o.toNat ≤ 1 ↔ o = 0 ∨ o = 1 := by
  constructor
  · intro h; bv_omega
  · rintro (rfl | rfl) <;> decide

/-- R129: the role of an octet in range. -/
def roleNamed (o : Byte) : PortRole := if o = 0 then .drive else .follow

/-- R129: the clock rate of an octet in range. -/
def rateNamed (o : Byte) : ClockRate := if o = 0 then .khz256 else if o = 1 then .khz512 else .khz1024

/-- R129: the roles. -/
theorem roleOf_eq (o : Byte) : roleOf o = if o.toNat ≤ 1 then some (roleNamed o) else none := by
  unfold roleOf roleNamed
  simp only [byte_toNat_le_one]
  split_ifs <;> simp_all

/-- R129: the clock rates. -/
theorem rateOf_eq (o : Byte) : rateOf o = if o.toNat ≤ 2 then some (rateNamed o) else none := by
  have range : o.toNat ≤ 2 ↔ o = 0 ∨ o = 1 ∨ o = 2 := by
    constructor
    · intro h; bv_omega
    · rintro (rfl | rfl | rfl) <;> decide
  unfold rateOf rateNamed
  simp only [range]
  split_ifs <;> simp_all

/-- R129: the polarity and the idle line state, whose first value the settings hold as true. -/
theorem flagOf_not (o : Byte) : flagOf o = if o.toNat ≤ 1 then some (!decide (o = 0)) else none := by
  unfold flagOf
  simp only [byte_toNat_le_one]
  split_ifs <;> simp_all

/-- R129: the values of a VOICE_SET are in range. -/
def settable (clock frame rate polarity idle : Option Byte) : Prop :=
  (∀ o ∈ clock, o.toNat ≤ 1) ∧ (∀ o ∈ frame, o.toNat ≤ 1) ∧ (∀ o ∈ rate, o.toNat ≤ 2) ∧ (∀ o ∈ polarity, o.toNat ≤ 1) ∧
    ∀ o ∈ idle, o.toNat ≤ 1

/-- R129: the settings that values in range lead to. -/
def VoiceSettings.setTo (v : VoiceSettings) (clock frame rate polarity idle : Option Byte) : VoiceSettings :=
  { clock := (clock.map roleNamed).getD v.clock
    frame := (frame.map roleNamed).getD v.frame
    rate := (rate.map rateNamed).getD v.rate
    activeHigh := (polarity.map fun o => decide (o = 0)).getD v.activeHigh
    idleLow := (idle.map fun o => decide (o = 0)).getD v.idleLow }

theorem not_getD_map_not (x : Option Byte) (f : Byte → Bool) (b : Bool) :
    (!(x.map fun o => !f o).getD (!b)) = (x.map f).getD b := by cases x <;> simp

/-- R129: values in range set what they name. -/
theorem VoiceSettings.set_settable (v : VoiceSettings) {clock frame rate polarity idle : Option Byte}
    (h : settable clock frame rate polarity idle) :
    v.set clock frame rate polarity idle = some (v.setTo clock frame rate polarity idle) := by
  obtain ⟨hclock, hframe, hrate, hpolarity, hidle⟩ := h
  unfold VoiceSettings.set
  simp only [given_eq roleOf_eq, given_eq rateOf_eq, given_eq flagOf_not, if_pos hclock, if_pos hframe, if_pos hrate,
    if_pos hpolarity, if_pos hidle, not_getD_map_not]
  rfl

/-- R129: a value out of range sets nothing. -/
theorem VoiceSettings.set_unsettable (v : VoiceSettings) {clock frame rate polarity idle : Option Byte}
    (h : ¬settable clock frame rate polarity idle) : v.set clock frame rate polarity idle = none := by
  unfold VoiceSettings.set
  split
  next hclock hframe hrate hpolarity hidle =>
    exact absurd ⟨given_inRange roleOf_eq hclock, given_inRange roleOf_eq hframe, given_inRange rateOf_eq hrate,
      given_inRange flagOf_not hpolarity, given_inRange flagOf_not hidle⟩ h
  next => rfl

theorem State.voiceCall_iff (s : State) : s.voiceCall = true ↔ ∃ i, (s.call i).state = .connected := by
  unfold State.voiceCall
  rw [decide_eq_true_eq]
  constructor
  · rintro (h | h)
    · exact ⟨.one, h⟩
    · exact ⟨.two, h⟩
  · rintro ⟨i, h⟩
    cases i with
    | one => exact .inl h
    | two => exact .inr h

/-- Settles O47: the two checks refuse and change nothing; values in range set what `VoiceSettings.setTo` says. -/
theorem voiceSetAppliesWhatItNames : Obligations.VoiceSetAppliesWhatItNames := by
  intro tag clock frame rate polarity idle s ha hq good role old
  unfold exec execVoiceSet
  refine ⟨fun bad => ?_, fun inRange hc => ?_, fun inRange hc => ?_⟩
  · refine dispatched_replied ha hq _ .badValue _ ?_
    simp only [VoiceSettings.set_unsettable _ bad]
    rfl
  · refine dispatched_replied ha hq _ .wrongState _ ?_
    simp only [VoiceSettings.set_settable _ inRange]
    exact if_pos ((s.reserveHead tag 0x28).voiceCall_iff.2 hc)
  · have noCall : ¬(s.reserveHead tag 0x28).voiceCall = true := fun called =>
      have ⟨i, hi⟩ := (s.reserveHead tag 0x28).voiceCall_iff.1 called
      hc i hi
    refine dispatched_eq ha ?_ hq
    simp only [VoiceSettings.set_settable _ inRange]
    exact (if_neg noCall).trans (State.answer_ticket _ _ _ _ _ _ rfl)

end Sys2Proof.Machine
end

section
/-! SUPPORT. TEXT_SEND (R135, R136): its checks in their order, what a taken piece makes of the outbox, and what becomes of TEXT
when it is raised (R137). -/

namespace Sys2Proof.Machine

open Sys2Proof

/-! ### The checks (R135) -/

theorem pieceInRange_iff (destination : Digits) (index last : Byte) (body : List Byte) :
    pieceInRange destination index last body = true ↔
      1 ≤ destination.length ∧ destination.length ≤ 20 ∧ (∀ d ∈ destination, d.toNat ≤ 9) ∧ 1 ≤ index.toNat ∧
        index.toNat ≤ 8 ∧ body.length ≤ 96 ∧ last.toNat ≤ 1 := by
  have flag : (flagOf last).isSome = true ↔ last.toNat ≤ 1 := by rw [flagOf_not]; split <;> simp [*]
  simp only [pieceInRange, Bool.and_eq_true, digitsInRange_iff, decide_eq_true_eq, flag]
  tauto

theorem State.mayText_iff (s : State) (x : Sub) : s.mayText x = true ↔
    (s.sub x).state ≠ .empty ∧ (s.sub x).state ≠ .detached ∧ (s.sub x).detaching = none := by
  simp [State.mayText, State.leaving, and_assoc]

section
variable {s : State} {x : Sub} {reference : Byte}

/-- R135: a piece that names no entry must be a first one. -/
theorem State.pieceFits_new (h : s.outEntry x reference = none) (destination : Digits) (index : Byte) :
    s.pieceFits x destination reference index = decide (index.toNat = 1) := by
  simp only [State.pieceFits, h]

/-- R136: a piece that names an entry must be the next one of it. -/
theorem State.pieceFits_old {e : OutEntry} (h : s.outEntry x reference = some e) (destination : Digits) (index : Byte) :
    s.pieceFits x destination reference index = decide (1 < index.toNat ∧ e.state = .assembling ∧
      e.next = some index.toNat ∧ e.destination = destination) := by
  simp only [State.pieceFits, h]

end

theorem State.pieceRoom_first (s : State) {index : Byte} (h : index.toNat = 1) (last : Bool) :
    s.pieceRoom index last = decide (s.text.outbox.length < 8 ∧ s.partsHeld < 32) := if_pos h

theorem State.pieceRoom_next (s : State) {index : Byte} (h : index.toNat ≠ 1) (last : Bool) :
    s.pieceRoom index last = (decide (s.partsHeld < 32) && (last || decide (index.toNat ≠ 8))) := if_neg h

section
variable {s : State} {tag sub : Byte} {destination : Digits} {reference index last : Byte} {body : List Byte}
  (ha : s.accepts tag (.textSend sub destination reference index last body))
include ha

/-- R135: a piece that one of the checks refuses. -/
theorem exec_textSend_refused (hq : s.quiet) {st : Status}
    (h : (subOf sub = none ∨ pieceInRange destination index last body = false) ∧ st = .badValue ∨
      ∃ x, subOf sub = some x ∧ pieceInRange destination index last body = true ∧
        (s.mayText x = false ∧ st = .wrongState ∨
          s.mayText x = true ∧ (s.pieceFits x destination reference index = false ∧ st = .badValue ∨
            s.pieceFits x destination reference index = true ∧ s.pieceRoom index (decide (last = 1)) = false ∧
              st = .noRoom))) :
    exec (.textSend tag sub destination reference index last body) s = .next (s.replied tag 0x30 st .none) := by
  have may (x : Sub) : (s.reserveHead tag 0x30).mayText x = s.mayText x := rfl
  have fits (x : Sub) : (s.reserveHead tag 0x30).pieceFits x destination reference index =
    s.pieceFits x destination reference index := rfl
  have room : (s.reserveHead tag 0x30).pieceRoom index (decide (last = 1)) = s.pieceRoom index (decide (last = 1)) := rfl
  have code : requestCode (.textSend sub destination reference index last body) = 0x30 := rfl
  unfold exec execTextSend
  refine dispatched_replied ha hq _ st _ ?_
  rw [code]
  rcases h with ⟨hx | hr, rfl⟩ | ⟨x, hx, hr, ⟨hm, rfl⟩ | ⟨hm, ⟨hf, rfl⟩ | ⟨hf, hp, rfl⟩⟩⟩
  · simp only [hx]; rfl
  · cases hx : subOf sub with
    | none => rfl
    | some x => simp only [hr]; rfl
  · simp only [hx, hr, may, hm]; rfl
  · simp only [hx, hr, may, hm, fits, hf]; rfl
  · simp only [hx, hr, may, hm, fits, hf, room, hp]; rfl

end

/-! ### What a taken piece makes of the outbox (R135, R136) -/

theorem State.modOut_is (s : State) (x : Sub) (reference : Byte) (f : OutEntry → OutEntry) :
    s.modOut (fun e => e.is x reference) f = { s with
      text := { s.text with outbox := s.text.outbox.map fun e =>
        if e.sub = x ∧ e.reference = reference then f e else e } } := by
  simp only [State.modOut, OutEntry.is, decide_eq_true_eq]

/-- R136: the state in which an entry whose last piece has been taken is READY. -/
def State.readied (s : State) (x : Sub) (reference : Byte) : State :=
  { s with
    text := { s.text with outbox := s.text.outbox.map fun f =>
      if f.sub = x ∧ f.reference = reference then f.ready s.moments else f }
    moments := s.moments + 1 }

theorem State.pieceReady_eq (s : State) (x : Sub) (reference : Byte) :
    s.pieceReady x reference = (s.readied x reference).raiseText x := by
  simp only [State.pieceReady, State.moment, State.modOut_is]
  rfl

/-- No entry of the outbox has a subscription and reference that none is found for. -/
theorem State.outEntry_eq_none {s : State} {x : Sub} {reference : Byte} :
    s.outEntry x reference = none ↔ ∀ e ∈ s.text.outbox, ¬(e.sub = x ∧ e.reference = reference) := by
  simp [State.outEntry]

theorem State.outEntry_eq_some {s : State} {x : Sub} {reference : Byte} {e : OutEntry} (h : s.outEntry x reference = some e) :
    e ∈ s.text.outbox ∧ e.sub = x ∧ e.reference = reference :=
  ⟨List.mem_of_find?_eq_some h,
    of_decide_eq_true (List.find?_some (p := fun e : OutEntry => decide (e.sub = x ∧ e.reference = reference)) h)⟩

/-- R136: what a later piece makes of its entry. -/
def OutEntry.joined (e : OutEntry) (body : List Byte) (index : Nat) (expiry : Slot) : OutEntry :=
  { e with parts := e.parts ++ [body], next := some (index + 1), assembly := some expiry }

theorem State.storePiece_next (s : State) (x : Sub) (destination : Digits) (reference : Byte) {index : Byte}
    (h : index.toNat ≠ 1) (body : List Byte) : s.storePiece x destination reference index body = { s with
      text := { s.text with outbox := s.text.outbox.map fun e =>
        if e.sub = x ∧ e.reference = reference then e.joined body index.toNat (slotAdd s.now 20000) else e } } :=
  (if_neg h).trans (s.modOut_is ..)

/-- R136: a later piece that is the last makes its entry READY with one part more. -/
theorem OutEntry.joined_ready (e : OutEntry) (body : List Byte) (index : Nat) (expiry : Slot) (order : Nat) :
    (e.joined body index expiry).ready order = { e with
      parts := e.parts ++ [body], state := .ready, count := some (e.parts.length + 1), next := none, assembly := none
      order := order } := by
  simp [OutEntry.joined, OutEntry.ready]

/-- A change of the entries of one subscription and reference passes over the others. -/
theorem map_outbox_other {x : Sub} {reference : Byte} {es : List OutEntry}
    (h : ∀ e ∈ es, ¬(e.sub = x ∧ e.reference = reference)) (f : OutEntry → OutEntry) :
    (es.map fun e => if e.sub = x ∧ e.reference = reference then f e else e) = es :=
  (List.map_congr_left fun e he => if_neg (h e he)).trans (List.map_id es)

/-- Two changes of the elements with p, of which the first leaves p true, are one. -/
theorem map_replaced_map {α : Type} {p : α → Prop} [DecidablePred p] (es : List α) {f : α → α} (g : α → α)
    (hf : ∀ e, p e → p (f e)) :
    ((es.map fun e => if p e then f e else e).map fun e => if p e then g e else e) =
      es.map fun e => if p e then g (f e) else e := by
  rw [List.map_map]
  refine List.map_congr_left fun e _ => ?_
  by_cases h : p e <;> simp [h, hf]

/-! ### TEXT raised (R34, R137) -/

theorem mem_withPurpose {p q : Purpose} {ps : List Purpose} : q ∈ withPurpose p ps ↔ q ∈ ps ∨ q = p := by
  unfold withPurpose
  split
  next h => exact ⟨.inl, fun hq => hq.elim id (· ▸ h)⟩
  next => simp

theorem State.joinedBy_connection {s : State} {x : Sub} {c : Context} (hc : s.connection x = some c) (p : Purpose) :
    (s.joinedBy c p).connection x = some { c with purposes := withPurpose p c.purposes } :=
  State.connection_eq_some.2 ⟨rfl, (State.connection_eq_some.1 hc).2⟩

/-- R137: while a registration is open or an entry is SENDING, no other begins to be sent. -/
theorem State.startSending_stays {s : State} {x : Sub} {c : Context} (hc : s.connection x = some c)
    (h : Purpose.register ∈ c.purposes ∨ s.sendingEntry x ≠ none) : s.startSending x = s := by
  unfold State.startSending
  simp only [hc]
  refine if_neg ?_
  rintro ⟨-, hr, hs⟩
  rw [State.registering_eq hc, decide_eq_false_iff_not] at hr
  exact h.elim hr fun sending => sending hs

/-- R137: how texts go on when TEXT joins a connection. -/
theorem State.joinedBy_startSending {s : State} {x : Sub} {c : Context} (hc : s.connection x = some c) :
    let u := s.joinedBy c .text
    (Purpose.register ∈ c.purposes ∨ s.sendingEntry x ≠ none → u.startSending x = u) ∧
      (Purpose.register ∉ c.purposes → s.sendingEntry x = none →
        (∀ e, s.readyFirst x e → u.startSending x = u.sendingNow e) ∧
          ((∀ e ∈ s.text.outbox, e.sub = x → e.state ≠ .ready) → u.startSending x = u)) := by
  have joined := State.joinedBy_connection hc .text
  have registers : Purpose.register ∈ withPurpose .text c.purposes ↔ Purpose.register ∈ c.purposes := by
    simp [mem_withPurpose]
  exact ⟨fun h => State.startSending_stays joined (h.imp_left registers.2),
    fun hr hs => State.startSending_eq joined (mem_withPurpose.2 (.inr rfl)) (hr ∘ registers.1) hs⟩

/-- R34: the first purpose of a subscription without a request makes one. -/
theorem State.queuedFor_new {s : State} {x : Sub} (h : ∀ q ∈ s.engQueue, q.sub ≠ x) (p : Purpose) (page : Bool) :
    s.queuedFor x p page = { s with
      engQueue := s.engQueue ++ [{ sub := x, purposes := [p], pageReply := page, moment := s.moments }]
      moments := s.moments + 1 } := by
  have none : ¬∃ q ∈ s.engQueue, q.sub = x := by simpa using h
  simp only [State.queuedFor, queueWith, if_neg none]

/-- R34: a purpose of its own joins the subscription's request, unless it is among its purposes. -/
theorem State.queuedFor_joins {s : State} {x : Sub} (h : ∃ q ∈ s.engQueue, q.sub = x) (p : Purpose) :
    s.queuedFor x p false = { s with
      engQueue := s.engQueue.map fun q =>
        if q.sub = x ∧ p ∉ q.purposes then { q with purposes := q.purposes ++ [p] } else q } := by
  simp only [State.queuedFor, queueWith, if_pos h, Bool.or_false]
  congr 1
  refine List.map_congr_left fun q _ => ?_
  by_cases hx : q.sub = x
  · subst hx
    by_cases hp : p ∈ q.purposes <;> simp [withPurpose, hp]
  · simp [hx]

section
variable {s : State} {x : Sub} (hl : (s.sub x).detaching = none)
include hl

theorem State.raiseText_refused (h : (s.sub x).state = .searching ∨ (s.sub x).state = .noService) : s.raiseText x = s := by
  have refused : s.ask x [.text] false = (.refused, s) := by
    rcases h with h | h <;> simp [State.ask, State.leaving, hl, h]
  simp [State.raiseText, refused]

theorem State.raiseText_camped (hs : (s.sub x).state = .camped) (he : s.engaged ≠ none) :
    s.raiseText x = s.queuedFor x .text false := by
  simp [State.raiseText, State.ask_waits hl (.inl ⟨hs, he⟩)]

theorem State.raiseText_attempt {a : Attempt} (hs : (s.sub x).state = .engaged)
    (he : s.engaged = some { sub := x, stage := .attempt a }) : s.raiseText x = { s with
      engaged := some { sub := x, stage := .attempt { a with purposes := withPurpose .text a.purposes } } } := by
  simp [State.raiseText, State.ask_attempt hl hs he]

theorem State.raiseText_connected {c : Context} (hs : (s.sub x).state = .engaged)
    (he : s.engaged = some { sub := x, stage := .connected }) (hc : s.connection x = some c) :
    s.raiseText x = if s.doneGone = true then s else (s.joinedBy c .text).startSending x := by
  simp only [State.raiseText, State.ask_connected hl hs he hc]
  split <;> simp

end

/-! ### A taken piece (R135, R136) -/

section
variable {s : State} {tag sub : Byte} {destination : Digits} {reference index last : Byte} {body : List Byte}
  (ha : s.accepts tag (.textSend sub destination reference index last body)) {x : Sub} (hx : subOf sub = some x)
  (hr : pieceInRange destination index last body = true) (hm : s.mayText x = true)
  (hf : s.pieceFits x destination reference index = true) (hp : s.pieceRoom index (decide (last = 1)) = true)
include ha hx hr hm hf hp

/-- A piece that passes the checks is stored and answered DONE; the last one makes its entry READY. -/
theorem exec_textSend_taken {u : State}
    (hu : (s.replied tag 0x30 .done .none).storePiece x destination reference index body = u) :
    exec (.textSend tag sub destination reference index last body) s =
      settle (if last = 1 then u.pieceReady x reference else u) := by
  have may : (s.reserveHead tag 0x30).mayText x = true := hm
  have fits : (s.reserveHead tag 0x30).pieceFits x destination reference index = true := hf
  have room : (s.reserveHead tag 0x30).pieceRoom index (decide (last = 1)) = true := hp
  have code : requestCode (.textSend sub destination reference index last body) = 0x30 := rfl
  have stored : ((s.reserveHead tag 0x30).storePiece x destination reference index body).refuse s.link.ticket .done = u := by
    rw [← hu]
    unfold State.storePiece
    split <;> exact State.refuse_reserved (out := s.link.outbox) .done rfl rfl
  unfold exec execTextSend
  refine (dispatched_accepts ha _).trans ?_
  simp only [code, hx, hr, may, fits, room, if_true, stored]

/-- The outbox that holds the piece, and what becomes of it when the piece was the last. -/
theorem exec_textSend_stored (hq : s.quiet) {es ready : List OutEntry}
    (hes : (s.replied tag 0x30 .done .none).storePiece x destination reference index body =
      { s.replied tag 0x30 .done .none with text := { s.text with outbox := es } })
    (hready : (es.map fun f => if f.sub = x ∧ f.reference = reference then f.ready s.moments else f) = ready) :
    (last = 0 → exec (.textSend tag sub destination reference index last body) s =
      .next { s.replied tag 0x30 .done .none with text := { s.text with outbox := es } }) ∧
    (last = 1 →
      let u : State := { s.replied tag 0x30 .done .none with
        text := { s.text with outbox := ready }, moments := s.moments + 1 }
      exec (.textSend tag sub destination reference index last body) s = settle (u.raiseText x) ∧
      ((s.sub x).state = .searching ∨ (s.sub x).state = .noService →
        exec (.textSend tag sub destination reference index last body) s = .next u)) := by
  have taken := exec_textSend_taken ha hx hr hm hf hp hes
  refine ⟨fun h => ?_, fun h => ?_⟩
  · rw [if_neg (by rw [h]; decide)] at taken
    exact taken.trans (settle_quiet hq)
  · rw [if_pos h, State.pieceReady_eq] at taken
    subst hready
    have attached := ((s.mayText_iff x).1 hm).2.2
    refine ⟨taken, fun hs => taken.trans ?_⟩
    rw [State.raiseText_refused]
    exacts [settle_quiet hq, attached, hs]

end

/-- Settles O51: the checks by `exec_textSend_refused`, a taken piece by `exec_textSend_stored`, and TEXT raised by the lemmas
about `State.raiseText`. -/
theorem aTextPieceIsCheckedAndStored : Obligations.ATextPieceIsCheckedAndStored := by
  refine ⟨fun tag sub destination reference index last body s ha hq => ?pieces, fun x s hl => ?raised⟩
  case pieces =>
    intro run answered good parts
    have inRange : good ↔ subOf sub ≠ none ∧ pieceInRange destination index last body = true := by rw [pieceInRange_iff]
    refine ⟨fun bad => ?_, fun hgood x hx => ?_⟩
    · rw [inRange, not_and_or, not_not, Bool.not_eq_true] at bad
      exact exec_textSend_refused ha hq (.inl ⟨bad, rfl⟩)
    have hr := (inRange.1 hgood).2
    have refuses {st : Status} (h : s.mayText x = false ∧ st = .wrongState ∨ s.mayText x = true ∧
        (s.pieceFits x destination reference index = false ∧ st = .badValue ∨
          s.pieceFits x destination reference index = true ∧ s.pieceRoom index (decide (last = 1)) = false ∧ st = .noRoom)) :
        answered st := exec_textSend_refused ha hq (.inr ⟨x, hx, hr, h⟩)
    refine ⟨fun h => refuses (.inl ⟨?_, rfl⟩), fun hempty hdetached hl => ?_⟩
    · rw [← Bool.not_eq_true, State.mayText_iff]
      tauto
    have may : s.mayText x = true := (s.mayText_iff x).2 ⟨hempty, hdetached, hl⟩
    refine ⟨fun hn hi => ?_, fun e he h => ?_, fun hn hi => ?first, fun e he hi hs hnext hd => ?next⟩
    · exact refuses (.inr ⟨may, .inl ⟨by rw [State.pieceFits_new hn]; simp; omega, rfl⟩⟩)
    · refine refuses (.inr ⟨may, .inl ⟨?_, rfl⟩⟩)
      rw [State.pieceFits_old he, decide_eq_false_iff_not]
      rintro ⟨hi, hs, hnext, hd⟩
      exact h.elim (by omega) (Or.elim · (· hs) (Or.elim · (· hnext) (· hd)))
    case first =>
      have fits : s.pieceFits x destination reference index = true := by rw [State.pieceFits_new hn]; simpa using hi
      have room := s.pieceRoom_first hi (decide (last = 1))
      refine ⟨fun hfull => refuses (.inr ⟨may, .inr ⟨fits, ?_, rfl⟩⟩), fun hroom hparts => ?_⟩
      · rw [room, decide_eq_false_iff_not, not_and_or, not_lt, not_lt]
        exact hfull
      intro made
      refine exec_textSend_stored ha hx hr may fits (room.trans (decide_eq_true ⟨hroom, hparts⟩)) hq (if_pos hi) ?_
      rw [List.map_append, map_outbox_other (State.outEntry_eq_none.1 hn)]
      exact congrArg (s.text.outbox ++ [·]) (if_pos ⟨rfl, rfl⟩)
    case next =>
      have fits : s.pieceFits x destination reference index = true := by
        rw [State.pieceFits_old he]
        exact decide_eq_true ⟨hi, hs, hnext, hd⟩
      have unfirst : index.toNat ≠ 1 := by omega
      have room := s.pieceRoom_next unfirst (decide (last = 1))
      have stored (hparts : s.partsHeld < 32) (h : last = 1 ∨ index.toNat ≠ 8) :=
        exec_textSend_stored ha hx hr may fits (room.trans (by simpa [hparts] using h)) hq
          (State.storePiece_next _ x destination reference unfirst body)
          (map_replaced_map s.text.outbox (OutEntry.ready · s.moments) fun _ => id)
      refine ⟨fun hfull => refuses (.inr ⟨may, .inr ⟨fits, ?_, rfl⟩⟩), fun hparts h h8 => ?_, fun hparts h => ?_⟩
      · have full : 32 ≤ s.partsHeld ∨ (index.toNat = 8 ∧ last = 0) := hfull
        rw [room]
        rcases full with h | ⟨h8, h⟩ <;> simp [*]
      · exact (stored hparts (.inr (by omega))).1 h
      · have ready := (stored hparts (.inl h)).2 h
        simp only [OutEntry.joined_ready] at ready
        exact ready
  case raised =>
    refine ⟨State.raiseText_refused hl, fun hs he => ⟨fun hn => ?_, fun hq => ?_⟩, fun a hs he ht => ?_,
      fun c hs he hc => ⟨fun hd => ?_, fun hd => ⟨fun h => ?_, fun e hr hn hf => ?_⟩⟩⟩
    · rw [State.raiseText_camped hl hs he, State.queuedFor_new hn]
    · rw [State.raiseText_camped hl hs he, State.queuedFor_joins hq]
    · rw [State.raiseText_attempt hl hs he, withPurpose, if_neg ht]
    · rw [State.raiseText_connected hl hs he hc, if_pos hd]
    all_goals
      have raised : s.raiseText x = (s.joinedBy c .text).startSending x := by
        rw [State.raiseText_connected hl hs he hc, if_neg (by simp [hd])]
      rw [raised]
    · exact (State.joinedBy_startSending hc).1 h
    · exact ((State.joinedBy_startSending hc).2 hr hn).1 e hf

end Sys2Proof.Machine
end

section
/-! SUPPORT. Texts that end (R139, R140) and texts that are taken back (R141): what the end of an outbox entry leaves, what
becomes of TEXT when nothing is left to send, and TEXT_CANCEL with ASSEMBLY_TIMER_EXPIRY. -/

namespace Sys2Proof.Machine

open Sys2Proof

/-! ### An entry that ends (R140) -/

/-- An entry that has ended with an outcome at a moment. -/
def OutEntry.over (e : OutEntry) (o : TextOutcome) (moment : Nat) : OutEntry :=
  { e with
    state := if o = .sent then .sent else .failed
    outcome := some o, ended := moment, assembly := none, wait := .stopped, part := none, next := none }

@[simp] theorem OutEntry.over_sub (e : OutEntry) (o : TextOutcome) (moment : Nat) : (e.over o moment).sub = e.sub := rfl

@[simp] theorem OutEntry.over_reference (e : OutEntry) (o : TextOutcome) (moment : Nat) :
    (e.over o moment).reference = e.reference := rfl

@[simp] theorem OutEntry.over_isEnded (e : OutEntry) (o : TextOutcome) (moment : Nat) : (e.over o moment).isEnded = true := by
  refine decide_eq_true ?_
  by_cases h : o = .sent <;> simp [OutEntry.over, h]

section
variable {α : Type} {p : α → Prop} [DecidablePred p] {q : α → Bool} {es : List α} {e : α} {g : α → α}

/-- The one element of a list with p. -/
theorem filter_eq_singleton (one : (es.filter fun f => decide (p f)) = [e]) : (e ∈ es ∧ p e) ∧ ∀ f ∈ es, p f → f = e := by
  have member (f : α) : (f ∈ es ∧ p f) ↔ f = e := by
    rw [← List.mem_singleton, ← one, List.mem_filter, decide_eq_true_eq]
  exact ⟨(member e).2 rfl, fun f hf hp => (member f).1 ⟨hf, hp⟩⟩

/-- Of a list in which that element has been replaced, the replacement alone has q. -/
theorem filter_map_replaced (one : (es.filter fun f => decide (p f)) = [e]) (hq : q (g e) = true)
    (hn : ∀ f ∈ es, ¬p f → q f = false) :
    (es.map fun f => if p f then g f else f).filter q = [g e] := by
  obtain ⟨⟨-, he⟩, unique⟩ := filter_eq_singleton one
  have same : es.filter (q ∘ fun f => if p f then g f else f) = es.filter fun f => decide (p f) := by
    refine List.filter_congr fun f hf => ?_
    by_cases h : p f
    · obtain rfl := unique f hf h
      simp [h, hq]
    · simp [h, hn f hf h]
  rw [List.filter_map, same, one, List.map_singleton, if_pos he]

/-- The others of the list have q, and the replacements have not. -/
theorem filter_map_others (hq : ∀ f ∈ es, p f → q (g f) = false) (hn : ∀ f ∈ es, ¬p f → q f = true) :
    (es.map fun f => if p f then g f else f).filter q = es.filter fun f => decide (¬p f) := by
  have same : es.filter (q ∘ fun f => if p f then g f else f) = es.filter fun f => decide (¬p f) := by
    refine List.filter_congr fun f hf => ?_
    by_cases h : p f
    · simp [h, hq f hf h]
    · simp [h, hn f hf h]
  rw [List.filter_map, same]
  exact (List.map_congr_left fun f hf => if_neg (of_decide_eq_true (List.mem_filter.1 hf).2)).trans (List.map_id _)

end

section
variable {s : State} {x : Sub} {reference : Byte}

/-- The state in which the outbox holds an entry that has ended. -/
def State.overIn (s : State) (x : Sub) (reference : Byte) (o : TextOutcome) : State :=
  { s with
    text := { s.text with outbox := s.text.outbox.map fun f =>
      if f.sub = x ∧ f.reference = reference then f.over o s.moments else f }
    moments := s.moments + 1 }

theorem State.endEntry_eq (s : State) (x : Sub) (reference : Byte) (o : TextOutcome) :
    s.endEntry x reference o = (s.overIn x reference o).flushOutcomes x := by
  simp only [State.endEntry, State.moment, State.modOut_is]
  rfl

/-- R140: without room in the outcome list an entry that has ended stays in the outbox. -/
theorem State.endEntry_stays (h : 8 ≤ (s.textOf x).outcomes.length) (o : TextOutcome) :
    s.endEntry x reference o = s.overIn x reference o := by
  have full : outcomeRoom - ((s.overIn x reference o).textOf x).outcomes.length = 0 := Nat.sub_eq_zero_of_le h
  rw [State.endEntry_eq, State.flushOutcomes, full, List.take_zero]
  exact if_pos rfl

/-- The state in which an entry has left the outbox and its outcome has joined the list. -/
def State.listed (s : State) (x : Sub) (reference : Byte) (o : TextOutcome) : State :=
  { s with
    text := { s.text with
      outbox := s.text.outbox.filter fun f => decide (¬(f.sub = x ∧ f.reference = reference))
      subs := s.text.subs.set x { s.textOf x with outcomes := (s.textOf x).outcomes ++ [(reference, o)] } }
    moments := s.moments + 1 }

/-- R140: with room in the list the one entry that has ended leaves the outbox, and the TEXT notice has OUTCOME. -/
theorem State.endEntry_leaves {e : OutEntry}
    (one : (s.text.outbox.filter fun f => decide (f.sub = x ∧ f.reference = reference)) = [e])
    (unended : ∀ f ∈ s.text.outbox, f.sub = x → f.state ≠ .sent ∧ f.state ≠ .failed)
    (h : (s.textOf x).outcomes.length < 8) (o : TextOutcome) :
    s.endEntry x reference o = (s.listed x reference o).postText x 1 := by
  obtain ⟨⟨-, hx, href⟩, unique⟩ := filter_eq_singleton one
  have ended : ((s.overIn x reference o).text.outbox.filter fun f => decide (f.sub = x) && f.isEnded) =
      [e.over o s.moments] := by
    refine filter_map_replaced one ?_ fun f hf _ => ?_
    · simp [hx]
    · by_cases hf' : f.sub = x
      · simp [OutEntry.isEnded, unended f hf hf']
      · simp [hf']
  have left : ((s.overIn x reference o).text.outbox.filter fun f => !([e.over o s.moments].contains f)) =
      s.text.outbox.filter fun f => decide (¬(f.sub = x ∧ f.reference = reference)) := by
    refine filter_map_others (fun f hf hp => ?_) fun f _ hp => ?_
    · rw [unique f hf hp]
      simp
    · have : f ≠ e.over o s.moments := by
        rintro rfl
        exact hp ⟨hx, href⟩
      simpa using this
  have go : (sortBy OutEntry.ended [e.over o s.moments]).take (8 - (s.textOf x).outcomes.length) = [e.over o s.moments] :=
    List.take_of_length_le (by simp [sortBy, placeBy]; omega)
  have room : outcomeRoom - ((s.overIn x reference o).textOf x).outcomes.length = 8 - (s.textOf x).outcomes.length := rfl
  rw [State.endEntry_eq, State.flushOutcomes, ended, room, go]
  refine (if_neg (by simp)).trans (congrArg (State.postText · x 1) ?_)
  have outcomes : ([e.over o s.moments].filterMap fun f => f.outcome.map fun o => (f.reference, o)) = [(reference, o)] := by
    simp [OutEntry.over, href]
  rw [outcomes]
  exact congrArg (fun es => { s.listed x reference o with text := { (s.listed x reference o).text with outbox := es } }) left

end

/-! ### When nothing is left to send (R137) -/

theorem State.sendingEntry_eq_none {s : State} {x : Sub} :
    s.sendingEntry x = none ↔ ∀ e ∈ s.text.outbox, e.sub = x → e.state ≠ .sending := by
  simp [State.sendingEntry]

/-- The outbox holds no entry of a subscription that is to be sent. -/
def State.allSent (s : State) (x : Sub) : Prop := s.hasReady x = false ∧ s.sendingEntry x = none

theorem State.allSent_iff {s : State} {x : Sub} :
    s.allSent x ↔ ∀ e ∈ s.text.outbox, e.sub = x → e.state ≠ .ready ∧ e.state ≠ .sending := by
  rw [State.allSent, State.hasReady_false_iff, State.sendingEntry_eq_none]
  exact ⟨fun ⟨hr, hs⟩ e he hx => ⟨hr e he hx, hs e he hx⟩,
    fun h => ⟨fun e he hx => (h e he hx).1, fun e he hx => (h e he hx).2⟩⟩

theorem State.textMayLeave_unconnected {s : State} {x : Sub} (hc : s.connection x = none) : s.textMayLeave x = s := by
  simp only [State.textMayLeave, hc]

theorem State.textMayLeave_stays {s : State} {x : Sub} {c : Context} (hc : s.connection x = some c)
    (h : Purpose.text ∉ c.purposes ∨ (s.textOf x).incoming = true ∨ ¬s.allSent x) : s.textMayLeave x = s := by
  simp only [State.textMayLeave, hc]
  refine if_neg ?_
  rintro ⟨ht, hi, hsent⟩
  rcases h with h | h | h
  · exact h (by simpa using ht)
  · simp [h] at hi
  · exact h hsent

/-- TEXT stays while an entry is to be sent. -/
theorem State.textMayLeave_unsent {s : State} {x : Sub} (h : ¬s.allSent x) : s.textMayLeave x = s := by
  cases hc : s.connection x with
  | none => exact State.textMayLeave_unconnected hc
  | some c => exact State.textMayLeave_stays hc (.inr (.inr h))

theorem State.textMayLeave_leaves {s : State} {x : Sub} {c : Context} (hc : s.connection x = some c)
    (ht : Purpose.text ∈ c.purposes) (hl : Purpose.leave ∉ c.purposes) (hi : (s.textOf x).incoming = false) (hs : s.allSent x) :
    s.textMayLeave x = s.leftBy c .text := by
  rw [← State.leaveConn_eq hc hl]
  simp only [State.textMayLeave, hc]
  exact if_pos ⟨by simpa using ht, hi, hs⟩

@[simp] theorem State.leftBy_reports (s : State) (c : Context) (p : Purpose) : (s.leftBy c p).reports = s.reports := by
  simp only [State.leftBy, apply_ite State.reports, State.offer_reports, ite_self]

/-! ### A purpose that leaves what holds it (R95) -/

section
variable {s : State} {x : Sub} (p : Purpose)

/-- Without a connection and an attempt a purpose leaves the request alone. -/
theorem State.purposeLeaves_queue (hc : s.connection x = none) (ha : ∀ a, s.engaged ≠ some { sub := x, stage := .attempt a }) :
    s.purposeLeaves x p = { s with engQueue := queueWithout x p s.engQueue } := by
  have left : s.leaveQueue x p = { s with engQueue := queueWithout x p s.engQueue } := rfl
  have stands (u : State) (hu : u.connection x = none) : u.leaveConn x p = u := by
    simp [State.leaveConn, State.modPurposes, State.settleConn, hu]
  unfold State.purposeLeaves
  dsimp only
  rw [left]
  split
  next y st he =>
    split
    next hy =>
      subst hy
      cases st with
      | attempt a => exact absurd he (ha a)
      | connected => exact stands _ hc
      | confirming w f => rfl
    next => rfl
  next => rfl

/-- A purpose leaves an access attempt; one left without purposes is abandoned. -/
theorem State.purposeLeaves_attempt {a : Attempt} (he : s.engaged = some { sub := x, stage := .attempt a }) :
    let rest := a.purposes.filter fun q => decide (q ≠ p)
    let u : State := { s with engQueue := queueWithout x p s.engQueue }
    s.purposeLeaves x p = if rest = [] then ((u.withdrawAttempt x).backToCamped x).grantIfFree
      else { u with engaged := some { sub := x, stage := .attempt { a with purposes := rest } } } := by
  intro rest u
  have engaged : u.engaged = some { sub := x, stage := .attempt a } := he
  have left : s.leaveQueue x p = u := rfl
  rw [State.purposeLeaves, left]
  simp only [engaged, if_true]
  refine if_congr Iff.rfl rfl ?_
  simp only [State.setStage, engaged, Option.map_some, if_true]
  rfl

end

/-! ### TEXT_CANCEL (R141) -/

/-- The state in which an entry has left the outbox without an outcome. -/
def State.removed (s : State) (x : Sub) (reference : Byte) : State :=
  { s with text := { s.text with
    outbox := s.text.outbox.filter fun f => decide (¬(f.sub = x ∧ f.reference = reference)) } }

theorem State.cancel_eq (s : State) (x : Sub) (e : OutEntry) :
    s.cancel x e = if e.state = .ready then (s.removed x e.reference).cancelLeaves x else s.removed x e.reference := by
  simp only [State.cancel, OutEntry.is, ← decide_not]
  rfl

/-- What else of a subscription is to be sent once an entry has been removed. -/
theorem State.removed_allSent {s : State} {x : Sub} {reference : Byte} : (s.removed x reference).allSent x ↔
    ∀ f ∈ s.text.outbox, f.sub = x → f.reference ≠ reference → f.state ≠ .ready ∧ f.state ≠ .sending := by
  simp only [State.allSent_iff, State.removed, List.mem_filter, decide_eq_true_eq]
  exact ⟨fun h f hf hx hr => h f ⟨hf, fun hfx => hr hfx.2⟩ hx, fun h f hf hx => h f hf.1 hx fun hr => hf.2 ⟨hx, hr⟩⟩

section
variable {s : State} {tag sub reference : Byte} (ha : s.accepts tag (.textCancel sub reference))
include ha

/-- R141: a cancel that finds nothing to take back. -/
theorem exec_textCancel_refused (hq : s.quiet) {st : Status}
    (h : subOf sub = none ∧ st = .badValue ∨ ∃ x, subOf sub = some x ∧ (s.outEntry x reference = none ∧ st = .unknownItem ∨
      ∃ e, s.outEntry x reference = some e ∧ e.state ≠ .assembling ∧ e.state ≠ .ready ∧ st = .wrongState)) :
    exec (.textCancel tag sub reference) s = .next (s.replied tag 0x31 st .none) := by
  have entry (x : Sub) : (s.reserveHead tag 0x31).outEntry x reference = s.outEntry x reference := rfl
  have code : requestCode (.textCancel sub reference) = 0x31 := rfl
  unfold exec execTextCancel
  refine dispatched_replied ha hq _ st _ ?_
  rw [code]
  rcases h with ⟨hx, rfl⟩ | ⟨x, hx, ⟨he, rfl⟩ | ⟨e, he, hassembling, hready, rfl⟩⟩
  · simp only [hx]; rfl
  · simp only [hx, entry, he]; rfl
  · simp only [hx, entry, he]
    exact if_neg fun h => h.elim hassembling hready

/-- R141: an entry that is ASSEMBLING or READY is removed, and the answer is DONE. -/
theorem exec_textCancel_done {x : Sub} {e : OutEntry} (hx : subOf sub = some x) (he : s.outEntry x reference = some e)
    (hs : e.state = .assembling ∨ e.state = .ready) : exec (.textCancel tag sub reference) s =
      let u := (s.replied tag 0x31 .done .none).removed x reference
      settle (if e.state = .ready then u.cancelLeaves x else u) := by
  have entry : (s.reserveHead tag 0x31).outEntry x reference = some e := he
  have code : requestCode (.textCancel sub reference) = 0x31 := rfl
  have answered : (s.reserveHead tag 0x31).refuse s.link.ticket .done = s.replied tag 0x31 .done .none :=
    State.reserveHead_answer ..
  unfold exec execTextCancel
  refine (dispatched_accepts ha _).trans ?_
  simp only [code, hx, entry, if_pos hs, answered, State.cancel_eq, (State.outEntry_eq_some he).2.2]

end

/-! ### ASSEMBLY_TIMER_EXPIRY (R136) -/

theorem exec_assemblyTimerExpiry {s : State} {x : Sub} {reference : Byte} {e : OutEntry} {u : Slot} (hawake : s.awake = true)
    (one : (s.text.outbox.filter fun f => decide (f.sub = x ∧ f.reference = reference)) = [e]) (hs : e.state = .assembling)
    (hu : e.assembly = some u) (hexp : (s.now - u).toNat < 2 ^ 31) :
    exec (.assemblyTimerExpiry x reference) s = settle (s.endEntry x reference .abandoned) := by
  have entry : s.outEntry x reference = some e := by
    rw [State.outEntry, ← List.head?_filter, one]
    rfl
  have expires : expired s.now e.assembly = true := by rw [hu]; exact decide_eq_true hexp
  unfold exec execAssemblyTimerExpiry
  simp only [entry]
  exact if_pos ⟨hawake, hs, expires⟩

/-- Settles O52: TEXT_CANCEL by `exec_textCancel_refused` and `exec_textCancel_done`, what it leaves of TEXT by the lemmas about
`State.textMayLeave` and `State.purposeLeaves`, and the assembly timer by those about `State.endEntry`. -/
theorem aPieceIsCancelledOrAbandoned : Obligations.APieceIsCancelledOrAbandoned := by
  refine ⟨fun tag sub reference s ha hq => ?cancel, fun x reference e u s hawake hq one hs hu hexp unended => ?expiry⟩
  case cancel =>
    refine ⟨fun hx => exec_textCancel_refused ha hq (.inl ⟨hx, rfl⟩), fun x hx =>
      ⟨fun he => exec_textCancel_refused ha hq (.inr ⟨x, hx, .inl ⟨he, rfl⟩⟩), fun e he =>
        ⟨fun hassembling hready => exec_textCancel_refused ha hq (.inr ⟨x, hx, .inr ⟨e, he, hassembling, hready, rfl⟩⟩),
          fun h => ?removed, fun hready hlast => ?last⟩⟩⟩
    case removed =>
      rw [exec_textCancel_done ha hx he (h.imp_right And.left)]
      refine (congrArg settle ?_).trans (settle_quiet hq)
      rcases h with hassembling | ⟨-, f, hf, hfx, hfr, hfs⟩
      · exact if_neg (by simp [hassembling])
      · have others : ¬((s.replied tag 0x31 .done .none).removed x reference).allSent x := fun hsent =>
          have ⟨h1, h2⟩ := State.removed_allSent.1 hsent f hf hfx hfr
          hfs.elim h1 h2
        exact ite_eq_right_iff.2 fun _ => if_neg others
    case last =>
      intro run u v
      have sent : u.allSent x := State.removed_allSent.2 hlast
      have ends : run = settle (if (s.connection x).isSome then u.textMayLeave x else u.purposeLeaves x .text) := by
        refine (exec_textCancel_done ha hx he (.inr hready)).trans (congrArg settle ?_)
        exact (if_pos hready).trans (if_pos sent)
      refine ⟨fun c hc => ?_, fun hc => ?_⟩
      · have connected : u.connection x = some c := hc
        rw [ends, if_pos (Option.isSome_iff_exists.2 ⟨c, hc⟩)]
        refine ⟨fun h => ?_, fun ht hl hi => ?_⟩
        · rw [State.textMayLeave_stays connected (h.imp_right .inl)]
          exact settle_quiet hq
        · rw [State.textMayLeave_leaves connected ht hl hi sent]
          exact settle_quiet ((u.leftBy_reports ..).trans hq)
      · have unconnected : u.connection x = none := hc
        rw [ends, if_neg (by simp [hc])]
        refine ⟨fun hn => ?_, fun a he => ?_⟩
        · rw [State.purposeLeaves_queue .text unconnected hn]
          exact settle_quiet hq
        · rw [State.purposeLeaves_attempt (s := u) .text he]
          refine ⟨fun h => ?_, fun h => congrArg settle (if_pos h)⟩
          exact (congrArg settle (if_neg h)).trans (settle_quiet hq)
  case expiry =>
    rw [exec_assemblyTimerExpiry hawake one hs hu hexp]
    refine ⟨fun h => ⟨(s.listed x reference .abandoned).postText x 1, ?_, rfl⟩, fun h => ?_⟩
    · rw [State.endEntry_leaves one unended h]
      exact settle_quiet hq
    · rw [State.endEntry_stays h]
      exact settle_quiet hq

end Sys2Proof.Machine
end

section
/-! SUPPORT. Texts that go out on a connection (R137, R139, R140): a part sent again, acknowledged or refused, and how the texts
go on when an entry has ended; the timers of texts in transfer (R139, R143, R147). -/

namespace Sys2Proof.Machine

open Sys2Proof

/-! ### A part offered (R139) -/

theorem State.offerPart_eq (s : State) {e : OutEntry} {k : Nat} (hp : e.part = some k) : s.offerPart e =
    s.offer (.textPart e.reference.toNat k (e.count.getD 0) e.destination (e.parts[k - 1]?.getD [])) := by
  simp only [State.offerPart, hp]

/-- R139: an entry put in its own place in the outbox, with its part offered. -/
theorem State.offerReplaced_eq (s : State) (x : Sub) {e : OutEntry} {k : Nat} (hp : e.part = some k) :
    (s.modOut (fun f => f.is x e.reference) fun _ => e).offerPart e = { s with
      text := { s.text with outbox := s.text.outbox.map fun f => if f.sub = x ∧ f.reference = e.reference then e else f }
      ctx := (s.offer (.textPart e.reference.toNat k (e.count.getD 0) e.destination (e.parts[k - 1]?.getD []))).ctx } := by
  rw [State.offerPart_eq _ hp, State.modOut_is]
  rfl

/-! ### How texts go on when none is SENDING (R137) -/

theorem State.afterSending_unconnected {s : State} {x : Sub} (hc : s.connection x = none) : s.afterSending x = s := by
  have started : s.startSending x = s := by simp only [State.startSending, hc]
  rw [State.afterSending, started, State.textMayLeave_unconnected hc]

/-- The READY entry that became READY first is sent; with none TEXT leaves, unless the incoming reason holds it. -/
theorem State.afterSending_cases {s : State} {x : Sub} {c : Context} (hs : s.sendingEntry x = none)
    (hc : s.connection x = some c) (ht : Purpose.text ∈ c.purposes) :
    (∀ f, Purpose.register ∉ c.purposes → s.readyFirst x f → s.afterSending x = s.sendingNow f) ∧
      ((∀ f ∈ s.text.outbox, f.sub = x → f.state ≠ .ready) →
        ((s.textOf x).incoming = true → s.afterSending x = s) ∧
          ((s.textOf x).incoming = false → Purpose.leave ∉ c.purposes → s.afterSending x = s.leftBy c .text)) := by
  refine ⟨fun f hr hf => ?_, fun hn => ?_⟩
  · rw [State.afterSending, (State.startSending_eq hc ht hr hs).1 f hf]
    exact State.textMayLeave_stays ((s.sendingNow_connection x f).trans hc)
      (.inr (.inr fun sent => State.sendingNow_sendingEntry hf sent.2))
  · have started : s.startSending x = s := by
      by_cases hr : Purpose.register ∈ c.purposes
      · exact State.startSending_stays hc (.inl hr)
      · exact (State.startSending_eq hc ht hr hs).2 hn
    have sent : s.allSent x := ⟨(s.hasReady_false_iff x).2 hn, hs⟩
    rw [State.afterSending, started]
    exact ⟨fun hi => State.textMayLeave_stays hc (.inr (.inl hi)), fun hi hl => State.textMayLeave_leaves hc ht hl hi sent⟩

/-! ### A SENDING entry that ends (R139, R140) -/

/-- An entry that is SENDING and can end: it is the only one of its subscription and reference and the only one SENDING, none
has ended already, and there is room in the outcome list. -/
structure State.sendsAlone (s : State) (x : Sub) (e : OutEntry) : Prop where
  sending : s.sendingEntry x = some e
  room : (s.textOf x).outcomes.length < 8
  unended : ∀ f ∈ s.text.outbox, f.sub = x → f.state ≠ .sent ∧ f.state ≠ .failed
  named : ∀ f ∈ s.text.outbox, f.sub = x → f.reference = e.reference → f = e
  only : ∀ f ∈ s.text.outbox, f.sub = x → f.state = .sending → f = e
  nodup : s.text.outbox.Nodup

theorem State.sendingEntry_eq_some {s : State} {x : Sub} {e : OutEntry} (h : s.sendingEntry x = some e) :
    e ∈ s.text.outbox ∧ e.sub = x ∧ e.state = .sending :=
  ⟨List.mem_of_find?_eq_some h,
    of_decide_eq_true (List.find?_some (p := fun e : OutEntry => decide (e.sub = x ∧ e.state = .sending)) h)⟩

/-- The state in which the entry has left the outbox, its outcome has joined the list, and a TEXT notice has OUTCOME. -/
def State.textEnded (s : State) (x : Sub) (e : OutEntry) (o : TextOutcome) : State :=
  let w : State := { s with
    text := { s.text with
      outbox := s.text.outbox.filter fun f => decide (f ≠ e)
      subs := s.text.subs.set x { s.textOf x with outcomes := (s.textOf x).outcomes ++ [(e.reference, o)] } }
    moments := s.moments + 1 }
  { w with link := { s.link with outbox := postIn (w.textSnapshot x) 1 s.link.outbox } }

namespace State.sendsAlone

variable {s : State} {x : Sub} {e : OutEntry} (h : s.sendsAlone x e) (o : TextOutcome)
include h

/-- Messages removed are no matter of the outbox. -/
theorem removeMsgs (p : UpMsg → Bool) : (s.removeMsgs p).sendsAlone x e :=
  ⟨h.sending, h.room, h.unended, h.named, h.only, h.nodup⟩

theorem endEntry : s.endEntry x e.reference o = s.textEnded x e o := by
  obtain ⟨he, hx, -⟩ := State.sendingEntry_eq_some h.sending
  have mine : ∀ f ∈ s.text.outbox, (f.sub = x ∧ f.reference = e.reference ↔ f = e) := fun f hf =>
    ⟨fun ⟨hfx, hfr⟩ => h.named f hf hfx hfr, by rintro rfl; exact ⟨hx, rfl⟩⟩
  have one : (s.text.outbox.filter fun f => decide (f.sub = x ∧ f.reference = e.reference)) = [e] := by
    refine List.perm_singleton.1 ((List.perm_ext_iff_of_nodup (h.nodup.filter _) (List.nodup_singleton e)).2 fun f => ?_)
    rw [List.mem_filter, decide_eq_true_eq, List.mem_singleton]
    exact ⟨fun ⟨hf, hp⟩ => (mine f hf).1 hp, by rintro rfl; exact ⟨he, hx, rfl⟩⟩
  have others : (s.text.outbox.filter fun f => decide (¬(f.sub = x ∧ f.reference = e.reference))) =
      s.text.outbox.filter fun f => decide (f ≠ e) :=
    List.filter_congr fun f hf => decide_eq_decide.2 (not_congr (mine f hf))
  rw [State.endEntry_leaves one h.unended h.room, State.listed, others]
  rfl

theorem unsent : (s.textEnded x e o).sendingEntry x = none :=
  State.sendingEntry_eq_none.2 fun f hf hx hs =>
    of_decide_eq_true (List.mem_filter.1 hf).2 (h.only f (List.mem_filter.1 hf).1 hx hs)

theorem ends_unconnected (hc : s.connection x = none) : (s.endEntry x e.reference o).afterSending x = s.textEnded x e o := by
  rw [h.endEntry]
  exact State.afterSending_unconnected hc

/-- R137, R140: how the texts go on when the entry has ended on a connection. -/
theorem ends {c : Context} (hc : s.connection x = some c) :
    let v := s.textEnded x e o
    (Purpose.text ∉ c.purposes → (s.endEntry x e.reference o).afterSending x = v) ∧
    (Purpose.text ∈ c.purposes →
      (∀ f, Purpose.register ∉ c.purposes → v.readyFirst x f →
        (s.endEntry x e.reference o).afterSending x = v.sendingNow f) ∧
      ((∀ f ∈ s.text.outbox, f.sub = x → f.state ≠ .ready) →
        ((s.textOf x).incoming = true → (s.endEntry x e.reference o).afterSending x = v) ∧
          ((s.textOf x).incoming = false → Purpose.leave ∉ c.purposes →
            (s.endEntry x e.reference o).afterSending x = v.leftBy c .text))) := by
  intro v
  have connected : v.connection x = some c := hc
  have listed : v.textOf x = { s.textOf x with outcomes := (s.textOf x).outcomes ++ [(e.reference, o)] } :=
    Two.get_set_same _ _ _
  rw [h.endEntry]
  refine ⟨State.afterSending_without connected, fun ht => ?_⟩
  obtain ⟨first, none_ready⟩ := State.afterSending_cases (h.unsent o) connected ht
  rw [listed] at none_ready
  exact ⟨first, fun hn => none_ready fun f hf => hn f (List.mem_filter.1 hf).1⟩

end State.sendsAlone

/-! ### The timers (R139, R143, R147) -/

section
variable {s : State} {x : Sub} {u : Slot} (hawake : s.awake = true) (hexp : (s.now - u).toNat < 2 ^ 31)
include hawake hexp

theorem exec_partWaitExpiry {e : OutEntry} (he : s.sendingEntry x = some e) (hw : e.wait = .running u) :
    exec (.partWaitExpiry x) s = settle (if e.sends < 3 then
      let e' := { e with sends := e.sends + 1, wait := .stopped }
      (s.modOut (fun f => f.is x e.reference) fun _ => e').offerPart e'
    else (s.endEntry x e.reference (.failed .noAck)).afterSending x) := by
  have expires : e.wait.expired s.now = true := by rw [hw]; exact decide_eq_true hexp
  unfold exec execPartWaitExpiry State.partWaitExpired
  simp only [he]
  exact if_pos ⟨hawake, expires⟩

/-- After the third sending the entry ends, and the texts go on. -/
theorem exec_partWaitExpiry_third {e : OutEntry} (he : s.sendingEntry x = some e) (hw : e.wait = .running u)
    (hsends : 3 ≤ e.sends) (hq : s.quiet) {t : State}
    (ht : (s.endEntry x e.reference (.failed .noAck)).afterSending x = t) (hr : t.reports = s.reports) :
    exec (.partWaitExpiry x) s = .next t := by
  rw [exec_partWaitExpiry hawake hexp he hw, if_neg (not_lt.2 hsends), ht]
  exact settle_quiet (hr.trans hq)

theorem exec_ageTimerExpiry {e : Reassembly} {sender : Digits} {reference : Nat}
    (he : (s.text.table.find? fun f => decide (f.sub = x ∧ f.sender = sender ∧ f.reference = reference)) = some e)
    (hc : e.closing = none) (hu : e.age = some u) :
    exec (.ageTimerExpiry x sender reference) s = settle (s.closeEntry e .incomplete) := by
  have entry : (s.text.table.find? fun f => f.is x sender reference) = some e := he
  have expires : expired s.now e.age = true := by rw [hu]; exact decide_eq_true hexp
  unfold exec execAgeTimerExpiry
  simp only [entry]
  exact if_pos ⟨hawake, decide_eq_true hc, expires⟩

theorem exec_idleWaitExpiry (hu : (s.textOf x).idle = .running u) :
    exec (.idleWaitExpiry x) s = settle (s.idleWaitOver x) := by
  have expires : (s.textOf x).idle.expired s.now = true := by rw [hu]; exact decide_eq_true hexp
  exact if_pos ⟨hawake, expires⟩

end

/-- R143: while an entry is open the wait is set again. -/
theorem State.idleWaitOver_open {s : State} {x : Sub} (h : ∃ e ∈ s.text.table, e.sub = x ∧ e.closing = none) :
    s.idleWaitOver x = s.modText x fun t => { t with idle := .running (slotAdd s.now 400) } :=
  if_pos (by simpa [Reassembly.opened] using h)

/-- R143: with none open the incoming reason ends, and TEXT may leave. -/
theorem State.idleWaitOver_closed {s : State} {x : Sub} (h : ∀ e ∈ s.text.table, e.sub = x → e.closing ≠ none) :
    s.idleWaitOver x = (s.modText x fun t => { t with incoming := false, idle := .stopped }).textMayLeave x :=
  if_neg (by simpa [Reassembly.opened] using h)

/-! ### TEXT_ACK and TEXT_REFUSE (R139) -/

section
variable (s : State) (x : Sub) (frame : Slot)

/-- An acknowledgement of another part than the one being sent changes nothing. -/
theorem State.received_textAck_other {ref k : Nat}
    (h : ∀ e, s.sendingEntry x = some e → e.reference.toNat ≠ ref ∨ e.part ≠ some k) :
    s.received x frame (.textAck ref k) = s := by
  have stands : s.textAcked x ref k = s := by
    unfold State.textAcked
    split
    next e he => exact if_neg fun hp => (h e he).elim (· hp.1) (· hp.2)
    next => rfl
  unfold State.received
  split
  · rfl
  · exact stands

/-- A refusal of another text than the one being sent changes nothing. -/
theorem State.received_textRefuse_other {ref : Nat} (h : ∀ e, s.sendingEntry x = some e → e.reference.toNat ≠ ref)
    (why : RefuseCause) : s.received x frame (.textRefuse ref why) = s := by
  have stands : s.textRefused x ref why = s := by
    unfold State.textRefused
    split
    next e he => exact if_neg (h e he)
    next => rfl
  unfold State.received
  split
  · rfl
  · exact stands

/-- A TEXT_PART with a reference and an index. -/
def UpMsg.isPart (ref k : Nat) (m : UpMsg) : Bool :=
  match m with
  | .textPart r j _ _ _ => decide (r = ref ∧ j = k)
  | _ => false

variable {s x} {e : OutEntry} (he : s.sendingEntry x = some e)
include he

theorem State.received_textAck {k : Nat} (hp : e.part = some k) (h1 : 1 ≤ k) (h8 : k ≤ 8) :
    s.received x frame (.textAck e.reference.toNat k) =
      let u := s.removeMsgs (UpMsg.isPart e.reference.toNat k)
      if e.count = some k then (u.endEntry x e.reference .sent).afterSending x
      else
        let e' := { e with part := some (k + 1), sends := 1, wait := .stopped }
        (u.modOut (fun f => f.is x e.reference) fun _ => e').offerPart e' := by
  have inRange : downInRange (.textAck e.reference.toNat k) = true :=
    decide_eq_true ⟨Nat.le_of_lt_succ e.reference.isLt, h1, h8⟩
  refine (if_neg (by simp [inRange])).trans ?_
  unfold State.textAcked
  simp only [he]
  exact if_pos ⟨trivial, hp⟩

theorem State.received_textRefuse (why : RefuseCause) : s.received x frame (.textRefuse e.reference.toNat why) =
    ((s.removeMsgs (UpMsg.isPartOf e.reference.toNat)).endEntry x e.reference (.failed (refuseCause why))).afterSending x := by
  have inRange : downInRange (.textRefuse e.reference.toNat why) = true :=
    decide_eq_true (Nat.le_of_lt_succ e.reference.isLt)
  refine (if_neg (by simp [inRange])).trans ?_
  unfold State.textRefused
  simp only [he, if_true]

end

end Sys2Proof.Machine
end

section
/-! SUPPORT. Texts that come in on a connection (R143 to R147): what every TEXT_PART changes, a part of an entry of the
reassembly table, and the first part of a new message. -/

namespace Sys2Proof.Machine

open Sys2Proof

/-! ### What every TEXT_PART changes (R38, R143) -/

/-- The state in which text-waiting is cleared, with its notice, and the incoming reason holds. -/
def State.heard (s : State) (x : Sub) : State :=
  let w : State := { s with
    subs := s.subs.set x { s.sub x with textWaiting := false }
    text := { s.text with
      subs := s.text.subs.set x { s.textOf x with incoming := true, idle := .running (slotAdd s.now 400) } } }
  { w with
    link := { s.link with
      outbox := if (s.sub x).textWaiting = true then postIn (w.subSnapshot x) 16 s.link.outbox else s.link.outbox } }

theorem State.heard_eq (s : State) (x : Sub) : (s.clearTextWaiting x).holdIncoming x = s.heard x := by
  by_cases h : (s.sub x).textWaiting = true
  · simp only [State.clearTextWaiting, State.heard, if_pos h]
    rfl
  · have same : s.subs.set x { s.sub x with textWaiting := false } = s.subs := by
      rw [Bool.not_eq_true] at h
      rw [← h]
      exact Two.set_get _ _
    simp only [State.clearTextWaiting, State.heard, if_neg h, same]
    rfl

theorem State.heard_joinedBy (s : State) (x : Sub) (c : Context) (p : Purpose) :
    (s.heard x).joinedBy c p = (s.joinedBy c p).heard x := rfl

theorem State.heard_sendingNow (s : State) (x : Sub) (e : OutEntry) :
    (s.heard x).sendingNow e = (s.sendingNow e).heard x := rfl

/-- TEXT joins the connection at a TEXT_PART: DONE was not sent, and the subscription is not detaching. -/
def State.textJoins (s : State) (x : Sub) : Prop := s.doneGone = false ∧ (s.sub x).detaching = none

/-- R143, R137: the state in which a TEXT_PART has been heard on a connection. -/
def State.hearsText (s : State) (x : Sub) (c : Context) (u : State) : Prop :=
  let starts := s.textJoins x ∧ Purpose.register ∉ c.purposes ∧ s.sendingEntry x = none
  (¬s.textJoins x ∧ u = s.heard x) ∨
    (s.textJoins x ∧ (¬starts ∨ ∀ e ∈ s.text.outbox, e.sub = x → e.state ≠ .ready) ∧ u = (s.joinedBy c .text).heard x) ∨
    (starts ∧ ∃ e, s.readyFirst x e ∧ u = ((s.joinedBy c .text).sendingNow e).heard x)

section
variable {s u : State} {x : Sub} {c : Context}

theorem State.hearsText.begins (hc : s.connection x = some c) (h : s.hearsText x c u) :
    (s.clearTextWaiting x).beginIncoming x = u := by
  have connected : (s.heard x).connection x = some c := hc
  have same : (s.heard x).sub x = { s.sub x with textWaiting := false } := Two.get_set_same _ _ _
  have waits : ((s.heard x).doneGone || (s.heard x).leaving x) = true ↔ ¬s.textJoins x := by
    have gone : (s.heard x).doneGone = s.doneGone := rfl
    rw [gone, State.leaving, same, State.textJoins]
    cases s.doneGone <;> cases (s.sub x).detaching <;> simp
  have joined : ((s.heard x).modPurposes x (addOnce .text)).removeMsgs UpMsg.isDone = (s.heard x).joinedBy c .text := by
    rw [State.modPurposes_eq connected, show addOnce .text c.purposes = withPurpose .text c.purposes by
      simp [addOnce, withPurpose]]
    rfl
  have begun : (s.clearTextWaiting x).beginIncoming x =
      if ((s.heard x).doneGone || (s.heard x).leaving x) = true then s.heard x
      else ((s.heard x).joinedBy c .text).startSending x := by
    unfold State.beginIncoming
    simp only [State.heard_eq, connected, joined]
  rw [begun]
  obtain ⟨stays, starts⟩ := State.joinedBy_startSending connected
  rcases h with ⟨hj, rfl⟩ | ⟨hj, hn, rfl⟩ | ⟨⟨hj, hr, hs⟩, e, he, rfl⟩
  · exact if_pos (waits.2 hj)
  · rw [if_neg fun h => waits.1 h hj]
    by_cases h : Purpose.register ∉ c.purposes ∧ s.sendingEntry x = none
    · exact (starts h.1 h.2).2 (hn.resolve_left (not_not_intro ⟨hj, h⟩))
    · exact stays ((not_and_or.1 h).imp_left not_not.1)
  · rw [if_neg fun h => waits.1 h hj]
    refine ((starts hr hs).1 e he).trans ?_
    rw [State.heard_joinedBy, State.heard_sendingNow]

/-- What the hearing of a TEXT_PART leaves as it was. -/
theorem State.hearsText.frame (h : s.hearsText x c u) : u.text.table = s.text.table ∧ u.text.recent = s.text.recent ∧
    u.store = s.store ∧ u.reports = s.reports ∧ u.now = s.now ∧
    u.subs = s.subs.set x { s.sub x with textWaiting := false } := by
  rcases h with ⟨-, rfl⟩ | ⟨-, -, rfl⟩ | ⟨-, e, -, rfl⟩ <;> exact ⟨rfl, rfl, rfl, rfl, rfl, rfl⟩

end

/-! ### A part of an entry of the table (R145) -/

/-- The entry that is found by a subscription, sender and reference has them. -/
theorem Reassembly.named_of_find {es : List Reassembly} {x : Sub} {sender : Digits} {reference : Nat} {e : Reassembly}
    (h : (es.find? fun f => decide (f.sub = x ∧ f.sender = sender ∧ f.reference = reference)) = some e) :
    e.sub = x ∧ e.sender = sender ∧ e.reference = reference :=
  of_decide_eq_true (List.find?_some (p := fun f : Reassembly =>
    decide (f.sub = x ∧ f.sender = sender ∧ f.reference = reference)) h)

theorem State.modTable_is (s : State) (x : Sub) (sender : Digits) (reference : Nat) (f : Reassembly → Reassembly) :
    s.modTable (fun e => e.is x sender reference) f = { s with
      text := { s.text with table := s.text.table.map fun e =>
        if e.sub = x ∧ e.sender = sender ∧ e.reference = reference then f e else e } } := by
  simp only [State.modTable, Reassembly.is, decide_eq_true_eq]

/-- R145: a part whose index the list has not stands behind the smaller indices and before the greater ones. -/
theorem placePart_eq {index : Nat} {body : List Byte} {ps : List (Nat × List Byte)} (hp : (ps.map Prod.fst).Pairwise (· < ·))
    (hi : index ∉ ps.map Prod.fst) : placePart (index, body) ps =
      (ps.filter fun q => decide (q.1 < index)) ++ (index, body) :: ps.filter fun q => decide (index < q.1) := by
  induction ps with
  | nil => rfl
  | cons q ps ih =>
    rw [List.map_cons, List.pairwise_cons] at hp
    rw [List.map_cons, List.mem_cons, not_or] at hi
    obtain ⟨hq, hp⟩ := hp
    obtain ⟨hne, hi⟩ := hi
    have after : ∀ r ∈ ps, q.1 < r.1 := fun r hr => hq r.1 (List.mem_map_of_mem hr)
    unfold placePart
    by_cases h : index < q.1
    · have none_before : (ps.filter fun r => decide (r.1 < index)) = [] :=
        List.filter_eq_nil_iff.2 fun r hr => by have := after r hr; simp; omega
      have all_after : (ps.filter fun r => decide (index < r.1)) = ps :=
        List.filter_eq_self.2 fun r hr => by have := after r hr; simp; omega
      rw [if_pos h, List.filter_cons_of_neg (by simp; omega), List.filter_cons_of_pos (by simpa using h), none_before,
        all_after]
      rfl
    · rw [if_neg h, List.filter_cons_of_pos (by simp; omega), List.filter_cons_of_neg (by simp; omega), ih hp hi]
      rfl

theorem placePart_length (p : Nat × List Byte) (ps : List (Nat × List Byte)) : (placePart p ps).length = ps.length + 1 := by
  induction ps with
  | nil => rfl
  | cons q ps ih => unfold placePart; split <;> simp [ih]

/-- R147: the write that an entry with some parts asks for when it is closed. -/
def Reassembly.write (e : Reassembly) (p : SlotId) (parts : List (Nat × List Byte)) (complete : Bool) : StoreOp :=
  .write p {
    header := {
      number := 0, sub := e.sub, sender := e.sender, time := 0, count := e.count, present := parts.map Prod.fst
      complete := complete }
    body := parts.flatMap Prod.snd }

/-- R147: an entry with a slot is closed, and its write is queued. -/
theorem State.closeEntry_writes (s : State) {e : Reassembly} {p : SlotId} (hp : e.slot = some p) (how : Closing) :
    s.closeEntry e how = { s with
      text := { s.text with table := s.text.table.map fun f =>
        if f.sub = e.sub ∧ f.sender = e.sender ∧ f.reference = e.reference then { f with closing := some how, age := none }
        else f }
      store := { s.store with queue := s.store.queue ++ [e.write p e.parts (decide (how = .complete))] } } := by
  unfold State.closeEntry State.askWrite
  simp only [State.modTable_is, hp, State.queueOp, State.modStore, Reassembly.message, Reassembly.write, Option.some.injEq]

theorem Reassembly.held_iff (e : Reassembly) (index : Nat) :
    (e.parts.any fun q => decide (q.1 = index)) = true ↔ index ∈ e.parts.map Prod.fst := by
  simp

/-- The state in which a new part of an entry is held and acknowledged. -/
def State.partStored (s : State) (e : Reassembly) (ref index : Nat) (body : List Byte) : State :=
  { s.offer (.textAck ref index) with
    text := { s.text with table := s.text.table.map fun f =>
      if f.sub = e.sub ∧ f.sender = e.sender ∧ f.reference = e.reference then
        { f with parts := placePart (index, body) f.parts }
      else f } }

section
variable (s : State) {e : Reassembly} (ref : Nat) {index count : Nat} (body : List Byte)

/-- R145: of a closed entry a held part is acknowledged and another refused. -/
theorem State.matchedPart_closed (hc : e.closing ≠ none) : s.matchedPart e ref index count body =
    if index ∈ e.parts.map Prod.fst then s.offer (.textAck ref index) else s.offer (.textRefuse ref false) := by
  unfold State.matchedPart
  simp only [e.held_iff]
  exact if_neg (by simp [Reassembly.opened, hc])

variable (hc : e.closing = none)
include hc

/-- R145: a part with another part count is refused. -/
theorem State.matchedPart_recounted (hn : e.count ≠ count) :
    s.matchedPart e ref index count body = s.offer (.textRefuse ref false) := by
  unfold State.matchedPart
  exact (if_pos (decide_eq_true hc)).trans (if_pos hn)

variable (hn : e.count = count)
include hn

/-- R145: a part that is held is acknowledged again. -/
theorem State.matchedPart_held (hi : index ∈ e.parts.map Prod.fst) :
    s.matchedPart e ref index count body = s.offer (.textAck ref index) := by
  unfold State.matchedPart
  refine (if_pos (decide_eq_true hc)).trans ((if_neg (not_not_intro hn)).trans ?_)
  exact if_pos ((e.held_iff index).2 hi)

/-- R145: a new part of an open entry, the only one of its name, is stored in index order and acknowledged; a full set is closed
COMPLETE. -/
theorem State.matchedPart_stored (hi : index ∉ e.parts.map Prod.fst) (hp : (e.parts.map Prod.fst).Pairwise (· < ·))
    (one : (s.text.table.filter fun f => decide (f.sub = e.sub ∧ f.sender = e.sender ∧ f.reference = e.reference)) = [e]) :
    let parts := (e.parts.filter fun q => decide (q.1 < index)) ++ (index, body) :: e.parts.filter fun q => decide (index < q.1)
    let stored (e' : Reassembly) : List Reassembly := s.text.table.map fun f =>
      if f.sub = e.sub ∧ f.sender = e.sender ∧ f.reference = e.reference then e' else f
    (e.parts.length + 1 ≠ count → s.matchedPart e ref index count body = { s.offer (.textAck ref index) with
      text := { s.text with table := stored { e with parts := parts } } }) ∧
    (∀ p, e.parts.length + 1 = count → e.slot = some p → s.matchedPart e ref index count body =
      { s.offer (.textAck ref index) with
        text := { s.text with table := stored { e with parts := parts, closing := some .complete, age := none } }
        store := { s.store with queue := s.store.queue ++ [e.write p parts true] } }) := by
  intro parts stored
  have placed : placePart (index, body) e.parts = parts := placePart_eq hp hi
  have length : parts.length = e.parts.length + 1 := by rw [← placed, placePart_length]
  obtain ⟨-, unique⟩ := filter_eq_singleton one
  have alone (g : Reassembly → Reassembly) : (s.text.table.map fun f =>
      if f.sub = e.sub ∧ f.sender = e.sender ∧ f.reference = e.reference then g f else f) = stored (g e) :=
    List.map_congr_left fun f hf => ite_congr rfl (fun h => congrArg g (unique f hf h)) fun _ => rfl
  have steps : s.matchedPart e ref index count body =
      if e.parts.length + 1 = count then (s.partStored e ref index body).closeEntry { e with parts := parts } .complete
      else s.partStored e ref index body := by
    unfold State.matchedPart
    refine (if_pos (decide_eq_true hc)).trans ((if_neg (not_not_intro hn)).trans ?_)
    refine (if_neg (mt (e.held_iff index).1 hi)).trans ?_
    simp only [State.modTable_is, placed, length, hn]
    rfl
  rw [steps]
  refine ⟨fun h => ?_, fun p h hs => ?_⟩
  · rw [if_neg h, State.partStored, alone, placed]
  · have closed : ((s.partStored e ref index body).text.table.map fun f =>
        if f.sub = e.sub ∧ f.sender = e.sender ∧ f.reference = e.reference then
          { f with closing := some .complete, age := none }
        else f) = stored { e with parts := parts, closing := some .complete, age := none } := by
      rw [← placed]
      exact (map_replaced_map (f := fun f : Reassembly => { f with parts := placePart (index, body) f.parts })
        _ _ fun _ => id).trans
        (alone fun f => { f with parts := placePart (index, body) f.parts, closing := some .complete, age := none })
    refine (if_pos h).trans ((State.closeEntry_writes _ (e := { e with parts := parts }) hs .complete).trans ?_)
    exact congrArg (fun ts => { s.offer (.textAck ref index) with
      text := { s.text with table := ts }
      store := { s.store with queue := s.store.queue ++ [e.write p parts true] } }) closed

end

/-! ### The first part of a new message (R146) -/

/-- R146: memory-full-signalled is set; the first time a TEXT notice with MEMORY tells of it, and the store looks at
its room. -/
theorem State.setMemoryFull_eq (s : State) (x : Sub) :
    let full : State := { s with
      subs := s.subs.set x { s.sub x with memoryFull := true }
      text := { s.text with subs := s.text.subs.set x { s.textOf x with readySent := false } } }
    let told : State := { full with
      link := { s.link with outbox := postIn (full.textSnapshot x) 4 s.link.outbox }, reports := s.reports ++ [.storeChanged] }
    s.setMemoryFull x = if (s.sub x).memoryFull = true then full else told := rfl

/-- R156: a slot reserved and handed back stands as it was. -/
theorem Store.setState_free {st : Store} {p : SlotId} (h : st.stateAt p = .free) :
    (st.setState p .reserved).setState p .free = st := by
  obtain ⟨row, hrow, hslot⟩ : ∃ row, st.index[p.block]? = some row ∧ row[p.slot]? = some .free := by
    unfold Store.stateAt at h
    cases hrow : st.index[p.block]? with
    | none => simp [hrow] at h
    | some row =>
      cases hslot : row[p.slot]? with
      | none => simp [hrow, hslot] at h
      | some v => exact ⟨row, rfl, by simpa [hrow, hslot] using h⟩
  have restored : row.set p.slot .free = row := by
    obtain ⟨hlt, hget⟩ := List.getElem?_eq_some_iff.1 hslot
    rw [← hget, List.set_getElem_self]
  have index : (st.index.modify p.block fun r => r.set p.slot .reserved).modify p.block (fun r => r.set p.slot .free) =
      st.index := by
    refine List.ext_getElem? fun i => ?_
    rw [List.modify_modify_eq, List.getElem?_modify]
    by_cases hi : p.block = i
    · subst hi
      simp [hrow, List.set_set, restored]
    · simp [hi]
  unfold Store.setState
  dsimp only
  rw [index]

section
variable {s : State} {x : Sub} (ref index count : Nat) (sender : Digits) (body : List Byte)

/-- R146: without a usable slot. -/
theorem State.firstPart_full (h : allSlots.find? s.store.usable = none) :
    s.firstPart x ref index count sender body = (s.setMemoryFull x).offer (.textRefuse ref true) := by
  simp only [State.firstPart, State.reserve, h]

variable {p : SlotId} (h : allSlots.find? s.store.usable = some p)
include h

/-- R144: with a full table the slot is handed back, and the oldest open entry is closed INCOMPLETE. -/
theorem State.firstPart_crowded (ht : 4 ≤ s.text.table.length) :
    let u : State := { s with reports := s.reports ++ [.storeChanged, .storeChanged, .usableRose] }
    ((∀ e ∈ s.text.table, e.closing ≠ none) → s.firstPart x ref index count sender body = u) ∧
      ∀ e, (s.text.table.find? fun f => decide (f.closing = none)) = some e →
        s.firstPart x ref index count sender body = u.closeEntry e .incomplete := by
  intro u
  have free : s.store.stateAt p = .free := by
    have usable := List.find?_some h
    simp only [Store.usable, Bool.and_eq_true, decide_eq_true_eq] at usable
    exact usable.1.1.1.1
  have back : (s.storeNow fun st => st.setState p .reserved).handBack p = u := by
    simp only [State.handBack, State.storeNow, State.modStore, State.report, Store.setState_free free, List.append_assoc]
    rfl
  unfold State.firstPart State.reserve
  simp only [h, back]
  refine ⟨fun hn => (if_pos ht).trans ?_, fun e he => (if_pos ht).trans ?_⟩
  · have unopened : u.text.table.find? Reassembly.opened = none :=
      List.find?_eq_none.2 fun e he => by simpa [Reassembly.opened] using hn e he
    simp only [unopened]
  · have opened : u.text.table.find? Reassembly.opened = some e := he
    simp only [opened]

/-- The entry that the first part of a message makes. -/
def State.firstEntry (s : State) (x : Sub) (ref index count : Nat) (sender : Digits) (body : List Byte) (p : SlotId) :
    Reassembly :=
  { sub := x, sender := sender, reference := ref, count := count, parts := [(index, body)], closing := none
    unwritten := false, slot := some p, age := some (slotAdd s.now 120000) }

/-- R146: otherwise a new entry is made in the first usable slot. -/
theorem State.firstPart_makes (ht : s.text.table.length < 4)
    (hn : ∀ f ∈ s.text.table, ¬(f.sub = x ∧ f.sender = sender ∧ f.reference = ref)) :
    let made := s.firstEntry x ref index count sender body p
    let kept : State := { s.offer (.textAck ref index) with
      text := { s.text with table := s.text.table ++ [made] }
      store := s.store.setState p .reserved, reports := s.reports ++ [.storeChanged] }
    (count ≠ 1 → s.firstPart x ref index count sender body = kept) ∧
    (count = 1 → s.firstPart x ref index count sender body = { kept with
      text := { s.text with table := s.text.table ++ [{ made with closing := some .complete, age := none }] }
      store := { (s.store.setState p .reserved) with
        queue := s.store.queue ++ [made.write p [(index, body)] true] } }) := by
  intro made kept
  have steps : s.firstPart x ref index count sender body = if count = 1 then kept.closeEntry made .complete else kept := by
    unfold State.firstPart State.reserve
    simp only [h]
    exact if_neg (not_le.2 ht)
  rw [steps]
  refine ⟨fun h => if_neg h, fun h => ?_⟩
  have closed : (kept.text.table.map fun f =>
      if f.sub = x ∧ f.sender = sender ∧ f.reference = ref then { f with closing := some .complete, age := none } else f) =
      s.text.table ++ [{ made with closing := some .complete, age := none }] := by
    refine (List.map_append ..).trans ?_
    rw [List.map_congr_left fun f hf => if_neg (hn f hf), List.map_id']
    exact congrArg (s.text.table ++ [·]) (if_pos ⟨rfl, rfl, rfl⟩)
  refine (if_pos h).trans ((State.closeEntry_writes _ (p := p) rfl .complete).trans ?_)
  exact congrArg (fun ts => { kept with
    text := { s.text with table := ts }
    store := { (s.store.setState p .reserved) with queue := s.store.queue ++ [made.write p [(index, body)] true] } }) closed

end

end Sys2Proof.Machine
end

section
/-! SUPPORT. A TEXT_PART by what the reassembly table and the recent list hold (R145, R146), and the settlement of the timers
and messages of texts in transfer. -/

namespace Sys2Proof.Machine

open Sys2Proof

/-! ### A TEXT_PART (R145) -/

theorem textPart_inRange {ref index count : Nat} {sender : Digits} {body : List Byte} (hr : ref ≤ 255) (hi1 : 1 ≤ index)
    (hi8 : index ≤ 8) (hc1 : 1 ≤ count) (hc8 : count ≤ 8)
    (hs : 1 ≤ sender.length ∧ sender.length ≤ 20 ∧ ∀ d ∈ sender, d.toNat ≤ 9) (hb : body.length ≤ 96) :
    downInRange (.textPart ref index count sender body) = true := by
  simp only [downInRange, Bool.and_eq_true, digitsInRange_iff, decide_eq_true_eq]
  exact ⟨hs, hr, hi1, hi8, hc1, hc8, hb⟩

/-- R153: a message of the recent list is still held. -/
theorem Store.stillLive_iff (st : Store) (n : Nat) (x : Sub) (sender : Digits) : st.stillLive n x sender = true ↔
    ∃ q ∈ allSlots, st.holds n q = true ∧
      (st.messageAt q).map (fun m => (m.header.sub, m.header.sender)) = some (x, sender) := by
  simp only [Store.stillLive, List.any_eq_true, Bool.and_eq_true, decide_eq_true_eq]

namespace State.hearsText

/-- R146: memory-full-signalled stands, and is set beside text-waiting. -/
theorem signalled {s u : State} {x : Sub} {c : Context} (h : s.hearsText x c u) :
    (u.sub x).memoryFull = (s.sub x).memoryFull ∧ u.subs.set x { u.sub x with memoryFull := true } =
      s.subs.set x { s.sub x with textWaiting := false, memoryFull := true } := by
  obtain ⟨-, -, -, -, -, subs⟩ := h.frame
  have own : u.sub x = { s.sub x with textWaiting := false } := by rw [State.sub, subs, Two.get_set_same]
  rw [own, subs, Two.set_set]
  exact ⟨rfl, rfl⟩

variable {s u : State} {x : Sub} {c : Context} (hc : s.connection x = some c) (h : s.hearsText x c u) (frame : Slot)
  {ref index count : Nat} {sender : Digits} {body : List Byte} (hr : downInRange (.textPart ref index count sender body) = true)
include hc h hr

/-- R145: a part of an entry of the table, of a message of the recent list, or the first of a new one. -/
theorem received : s.received x frame (.textPart ref index count sender body) =
    if count < index then u.offer (.textRefuse ref false)
    else
      match s.text.table.find? fun e => decide (e.sub = x ∧ e.sender = sender ∧ e.reference = ref) with
      | some e => u.matchedPart e ref index count body
      | none =>
        match s.text.recent.find? fun r => decide (r.sub = x ∧ r.sender = sender ∧ r.reference = ref) with
        | some r =>
          if u.store.stillLive r.number x sender ∧ r.parts.contains index then u.offer (.textAck ref index)
          else u.offer (.textRefuse ref false)
        | none => u.firstPart x ref index count sender body := by
  obtain ⟨table, recent, -⟩ := h.frame
  rw [← table, ← recent]
  have begins := h.begins hc
  subst begins
  exact if_neg (by simp [hr])

theorem received_bad (hi : count < index) :
    s.received x frame (.textPart ref index count sender body) = u.offer (.textRefuse ref false) :=
  (h.received hc frame hr).trans (if_pos hi)

variable (hi : index ≤ count)
include hi

theorem received_matched {e : Reassembly}
    (he : (s.text.table.find? fun e => decide (e.sub = x ∧ e.sender = sender ∧ e.reference = ref)) = some e) :
    s.received x frame (.textPart ref index count sender body) = u.matchedPart e ref index count body := by
  rw [h.received hc frame hr, if_neg (not_lt.2 hi), he]

variable (hn : (s.text.table.find? fun e => decide (e.sub = x ∧ e.sender = sender ∧ e.reference = ref)) = none)
include hn

/-- R145: of a recent message still LIVE a held part is acknowledged, and every other part of a recent message is refused. -/
theorem received_recent {r : Recent}
    (he : (s.text.recent.find? fun r => decide (r.sub = x ∧ r.sender = sender ∧ r.reference = ref)) = some r) :
    let live := ∃ q ∈ allSlots, s.store.holds r.number q = true ∧
      (s.store.messageAt q).map (fun m => (m.header.sub, m.header.sender)) = some (x, sender)
    (live ∧ index ∈ r.parts →
      s.received x frame (.textPart ref index count sender body) = u.offer (.textAck ref index)) ∧
    (¬(live ∧ index ∈ r.parts) →
      s.received x frame (.textPart ref index count sender body) = u.offer (.textRefuse ref false)) := by
  obtain ⟨-, -, store, -⟩ := h.frame
  intro live
  have held : (u.store.stillLive r.number x sender = true ∧ r.parts.contains index = true) ↔ live ∧ index ∈ r.parts := by
    rw [store, Store.stillLive_iff, List.contains_eq_mem, decide_eq_true_eq]
  rw [h.received hc frame hr, if_neg (not_lt.2 hi), hn, he]
  exact ⟨fun hl => if_pos (held.2 hl), fun hl => if_neg (mt held.1 hl)⟩

theorem received_first (he : ∀ r ∈ s.text.recent, ¬(r.sub = x ∧ r.sender = sender ∧ r.reference = ref)) :
    s.received x frame (.textPart ref index count sender body) = u.firstPart x ref index count sender body := by
  have unknown : (s.text.recent.find? fun r => decide (r.sub = x ∧ r.sender = sender ∧ r.reference = ref)) = none :=
    List.find?_eq_none.2 fun r hr' => by simpa using he r hr'
  rw [h.received hc frame hr, if_neg (not_lt.2 hi), hn, unknown]

end State.hearsText

/-- Settles O53: the timers by their `exec` lemmas, an entry that ends by `State.sendsAlone.ends`, the answers to a text by the
lemmas about `State.received`, and a TEXT_PART by those about `State.hearsText`, `State.matchedPart` and `State.firstPart`. -/
theorem theTimersAndMessagesOfATextInTransfer : Obligations.TheTimersAndMessagesOfATextInTransfer := by
  refine ⟨fun x u s hawake hq hexp =>
      ⟨fun e k he hw hp hsends => ?again, fun e he hw hsends room unended named only nodup => ?third,
        fun e sender reference p he hc hu hp => ?age,
        fun hu => ⟨fun hopen => ?renew, fun hclosed hout => ?held, fun hclosed hsent => ?idle⟩⟩,
    fun x c frame s hc => ⟨fun ref k h => s.received_textAck_other x frame h,
      fun ref why h => s.received_textRefuse_other x frame h why,
      fun e k he hp h1 h8 => ⟨fun hcount => ?acked, fun room unended named only nodup => ?ends⟩,
      fun ref index count sender body u hr hi1 hi8 hc1 hc8 hs1 hs20 hdigits hb => ?part⟩⟩
  case again =>
    rw [exec_partWaitExpiry hawake hexp he hw, if_pos hsends]
    dsimp only
    rw [State.offerReplaced_eq s x (e := { e with sends := e.sends + 1, wait := .stopped }) hp]
    exact settle_quiet hq
  case third =>
    have alone : s.sendsAlone x e := ⟨he, room, unended, named, only, nodup⟩
    intro w v run
    have next {t : State} := exec_partWaitExpiry_third hawake hexp he hw hsends hq (t := t)
    refine ⟨fun hc => next (alone.ends_unconnected _ hc) rfl, fun c hc ht => ?_⟩
    obtain ⟨first, none_ready⟩ := (alone.ends (.failed .noAck) hc).2 ht
    exact ⟨fun f hr hf => next (first f hr hf) rfl, fun hn => ⟨fun hi => next ((none_ready hn).1 hi) rfl,
      fun hi hl => next ((none_ready hn).2 hi hl) (State.leftBy_reports ..)⟩⟩
  case age =>
    obtain ⟨hx, rfl, rfl⟩ := Reassembly.named_of_find he
    subst hx
    rw [exec_ageTimerExpiry hawake hexp he hc hu, State.closeEntry_writes s hp]
    exact settle_quiet hq
  case renew =>
    rw [exec_idleWaitExpiry hawake hexp hu, State.idleWaitOver_open hopen]
    exact settle_quiet hq
  case held =>
    rw [exec_idleWaitExpiry hawake hexp hu, State.idleWaitOver_closed hclosed, State.textMayLeave_unsent]
    · exact settle_quiet hq
    · obtain ⟨e, he, hx, hs⟩ := hout
      exact fun sent => hs.elim (State.allSent_iff.1 sent e he hx).1 (State.allSent_iff.1 sent e he hx).2
  case idle =>
    intro v
    have sent : v.allSent x := State.allSent_iff.2 hsent
    have ended : (v.textOf x).incoming = false := congrArg TextSub.incoming (Two.get_set_same s.text.subs x
      { s.textOf x with incoming := false, idle := .stopped })
    have ends : exec (.idleWaitExpiry x) s = settle (v.textMayLeave x) := by
      rw [exec_idleWaitExpiry hawake hexp hu, State.idleWaitOver_closed hclosed]
      rfl
    rw [ends]
    refine ⟨fun hc => ?_, fun c hc => ⟨fun ht => ?_, fun ht hl => ?_⟩⟩
    · rw [State.textMayLeave_unconnected (s := v) hc]
      exact settle_quiet hq
    · rw [State.textMayLeave_stays (s := v) hc (.inl ht)]
      exact settle_quiet hq
    · rw [State.textMayLeave_leaves (s := v) hc ht hl ended sent]
      exact settle_quiet ((v.leftBy_reports ..).trans hq)
  case acked =>
    rw [State.received_textAck frame he hp h1 h8]
    dsimp only
    rw [if_neg hcount, State.offerReplaced_eq _ x (e := { e with part := some (k + 1), sends := 1, wait := .stopped }) rfl]
    rfl
  case ends =>
    intro endedWith
    have alone : s.sendsAlone x e := ⟨he, room, unended, named, only, nodup⟩
    have told {o : TextOutcome} {gone : UpMsg → Bool} {run : State}
        (hrun : run = ((s.removeMsgs gone).endEntry x e.reference o).afterSending x) : endedWith o gone run := by
      subst hrun
      exact (alone.removeMsgs gone).ends o hc
    refine ⟨fun hcount => told ?_, fun why => ?_⟩
    · rw [State.received_textAck frame he hp h1 h8]
      exact if_pos hcount
    · rw [State.received_textRefuse frame he why]
      cases why <;> exact told rfl
  case part =>
    have inRange := textPart_inRange hr hi1 hi8 hc1 hc8 ⟨hs1, hs20, hdigits⟩ hb
    intro heard joins starts hu run ack bad named write
    have h : s.hearsText x c u := hu
    obtain ⟨table, -, store, reports, now, -⟩ := h.frame
    refine ⟨h.received_bad hc frame inRange, fun hi => ⟨fun e he => ?known, fun hn =>
      ⟨fun r hr' => h.received_recent hc frame inRange hi hn hr', fun hn' =>
        ⟨fun hfull => ?full, fun p hp hlen _ => ?crowded, fun p hp hlen => ?makes⟩⟩⟩⟩
    case known =>
      have taken : run = u.matchedPart e ref index count body := h.received_matched hc frame inRange hi he
      obtain ⟨rfl, rfl, rfl⟩ := Reassembly.named_of_find he
      refine ⟨fun hclosed => taken.trans (u.matchedPart_closed _ body hclosed),
        fun hopen hcount => taken.trans (u.matchedPart_recounted _ body hopen hcount), fun hopen hcount =>
          ⟨fun hheld => taken.trans (u.matchedPart_held _ body hopen hcount hheld), fun hnew hp => ?_⟩⟩
      intro parts
      have stored (one : s.text.table.filter named = [e]) :=
        u.matchedPart_stored e.reference body hopen hcount hnew hp (by rw [table]; exact one)
      simp only [table, store] at stored
      simp only [named, decide_eq_true_eq]
      exact ⟨fun one hlen => taken.trans ((stored one).1 hlen),
        fun p one hlen hslot => taken.trans ((stored one).2 p hlen hslot)⟩
    all_goals
      have first : run = u.firstPart x ref index count sender body := h.received_first hc frame inRange hi hn hn'
    case full =>
      obtain ⟨was, signalled⟩ := h.signalled
      rw [← signalled, ← was, ← reports]
      rw [← store] at hfull
      exact first.trans (State.firstPart_full _ _ _ _ _ hfull)
    case crowded =>
      rw [← store] at hp
      rw [← table] at hlen
      obtain ⟨closed, opened⟩ := State.firstPart_crowded ref index count sender body hp hlen
      rw [← first] at closed opened
      rw [← reports, ← table, ← store]
      exact ⟨closed, fun e q he hq => (opened e he).trans (State.closeEntry_writes _ hq .incomplete)⟩
    case makes =>
      rw [← store] at hp
      rw [← table] at hlen hn
      have makes := State.firstPart_makes ref index count sender body hp hlen (by simpa [named] using hn)
      rw [← first] at makes
      rw [← reports, ← table, ← store, ← now]
      exact makes

end Sys2Proof.Machine
end

section
/-! SUPPORT. The non-volatile memory (R151, R154, R157, R164): what the blocks' actions leave of it, and each command's effect on it. -/

namespace Sys2Proof.Machine

open Sys2Proof

/-! ### Actions of the blocks -/

/-- States with the same still parts have the same memory. -/
theorem flash_of_still {s t : State} (h : t.still = s.still) : t.store.flash = s.store.flash := congrArg Still.flash h

@[simp] theorem State.answer_flash (s : State) (t : Nat) (st : Status) (r : Result) :
    (s.answer t st r).store.flash = s.store.flash := flash_of_still (s.answer_still t st r)

@[simp] theorem State.refuse_flash (s : State) (t : Nat) (st : Status) : (s.refuse t st).store.flash = s.store.flash :=
  flash_of_still (s.refuse_still t st)

@[simp] theorem State.powerDone_flash (s : State) (t : Nat) : (s.powerDone t).store.flash = s.store.flash := s.answer_flash ..

@[simp] theorem State.postSub_flash (s : State) (x : Sub) (flags : BitVec 16) :
    (s.postSub x flags).store.flash = s.store.flash := rfl

@[simp] theorem State.beginSearch_flash (s : State) (x : Sub) : (s.beginSearch x).store.flash = s.store.flash :=
  flash_of_still (s.beginSearch_still x)

@[simp] theorem State.load_flash (s : State) (x : Sub) (identity : BitVec 32) (cs : List (BitVec 16)) :
    (s.load x identity cs).store.flash = s.store.flash := flash_of_still (s.load_still x identity cs)

@[simp] theorem State.applySettings_flash (s : State) (x : Sub) (guard notices : Option Byte) (cs : Option (List (BitVec 16))) :
    (s.applySettings x guard notices cs).store.flash = s.store.flash := flash_of_still (s.applySettings_still x guard notices cs)

@[simp] theorem State.detach_flash (s : State) (x : Sub) (t : Nat) : (s.detach x t).store.flash = s.store.flash :=
  flash_of_still (s.detach_still x t)

@[simp] theorem State.dial_flash (s : State) (i : CallId) (x : Sub) (number : Digits) :
    (s.dial i x number).store.flash = s.store.flash := flash_of_still (s.dial_still i x number)

@[simp] theorem State.answerCall_flash (s : State) (i : CallId) (t : Nat) : (s.answerCall i t).store.flash = s.store.flash :=
  flash_of_still (s.answerCall_still i t)

@[simp] theorem State.endCall_flash (s : State) (i : CallId) : (s.endCall i).store.flash = s.store.flash :=
  flash_of_still (s.endCall_still i)

@[simp] theorem State.storePiece_flash (s : State) (x : Sub) (destination : Digits) (reference index : Byte) (body : List Byte) :
    (s.storePiece x destination reference index body).store.flash = s.store.flash :=
  flash_of_still (s.storePiece_still x destination reference index body)

@[simp] theorem State.pieceReady_flash (s : State) (x : Sub) (reference : Byte) :
    (s.pieceReady x reference).store.flash = s.store.flash := flash_of_still (s.pieceReady_still x reference)

@[simp] theorem State.cancel_flash (s : State) (x : Sub) (e : OutEntry) : (s.cancel x e).store.flash = s.store.flash :=
  flash_of_still (s.cancel_still x e)

/-! ### The command link -/

@[simp] theorem State.receiver_store (s : State) (r : Receiver) : (s.receiver r).store = s.store := rfl

@[simp] theorem State.linkLoss_store (s : State) (r : LinkReason) : (s.linkLoss r).store = s.store := rfl

@[simp] theorem State.immediate_store (s : State) (tag code : Byte) (st : Status) : (s.immediate tag code st).store = s.store := by
  unfold State.immediate; split <;> rfl

@[simp] theorem State.arrival_store (s : State) (tag cls code : Byte) (fields : List Byte) :
    (s.arrival tag cls code fields).store = s.store := by
  unfold State.arrival
  split
  · simp
  · split <;> simp

@[simp] theorem State.frameArrived_store (s : State) (octets : List Byte) : (s.frameArrived octets).store = s.store := by
  unfold State.frameArrived; split <;> simp

@[simp] theorem State.octet_store (s : State) (o : Byte) : (s.octet o).store = s.store := by
  unfold State.octet
  split
  case h_1 => split <;> simp
  case h_2 => split <;> simp
  case h_3 => split <;> simp

@[simp] theorem State.lose_store (s : State) (why : LinkReason) (after : Receiver) : (s.lose why after).store = s.store := by
  unfold State.lose; split <;> simp

theorem State.noticeSent_flash (s : State) (n : Snapshot) : (s.noticeSent n).store.flash = s.store.flash := by
  cases n with
  | text x => exact flash_of_still (State.flushOutcomes_still _ x)
  | _ => rfl

/-- R174: the reset that a RESET reply lets begin leaves the memory to the operation that runs. -/
theorem State.beginReset_flash (s : State) : s.beginReset.store.flash = s.store.flash :=
  (flash_of_still (State.syncErase_still _)).trans rfl

theorem State.replySent_flash (s : State) : s.replySent.store.flash = s.store.flash := by
  unfold State.replySent
  split
  · rfl
  · split
    · rfl
    · dsimp only
      split
      · exact State.beginReset_flash _
      · rfl

/-! ### The store and the radio -/

/-- R175, R163: the scan reads the memory and writes none of it. -/
theorem Store.scan_flash (f : Flash) : (Store.scan f).flash = f := rfl

@[simp] theorem State.queueOp_flash (s : State) (o : StoreOp) : (s.queueOp o).store.flash = s.store.flash := rfl

/-- R160: a delete asks for a mark, and programs none. -/
@[simp] theorem State.deleteMessage_flash (s : State) (p : SlotId) (t : Nat) :
    (s.deleteMessage p t).store.flash = s.store.flash := by
  unfold State.deleteMessage
  split
  · exact State.refuse_flash ..
  · split
    · rfl
    · dsimp only
      split
      · exact flash_of_still (State.requeue_still _ _)
      · rfl

theorem State.order_flash (s : State) (w : Window) : (s.order w).store.flash = s.store.flash := by
  have ordered : (s.blockFor w).2.store.flash = s.store.flash := by
    unfold State.blockFor
    split
    · exact flash_of_still (s.setTxBlock_still w.id)
    · rfl
  unfold State.order
  refine (flash_of_still (State.syncErase_still _)).trans ?_
  split
  · exact (flash_of_still (State.watchBurst_still _ _ _)).trans ordered
  · exact ordered

theorem State.endWindow_flash (s : State) (w : Window) (st : WinState) (e : Ended) :
    (s.endWindow w st e).store.flash = s.store.flash := by
  have removed : (s.removeWindow w.id).store.flash = s.store.flash := flash_of_still (s.removeWindow_still w.id)
  unfold State.endWindow
  dsimp only
  split
  · exact removed
  · exact (flash_of_still (State.handOver_still _ _ e)).trans removed

/-! ### Commands -/

/-- Whatever state an outcome leads to, the memory stands. -/
def keepsMemory (s : State) (o : Host.Outcome State Fault Refusal) : Prop := ∀ t, o = .next t → t.store.flash = s.store.flash

theorem keepsMemory_next {s u : State} (h : u.store.flash = s.store.flash) : keepsMemory s (.next u) := by
  rintro t ⟨⟩; exact h

/-- The taking of reports writes no memory. -/
theorem keepsMemory_settle {s u : State} (h : u.store.flash = s.store.flash) : keepsMemory s (settle u) := fun _ ht =>
  (flash_of_still (settle_still ht)).trans h

/-- A command with a condition does nothing without it. -/
theorem keepsMemory_when {s u : State} {p : Prop} [Decidable p] (h : u.store.flash = s.store.flash) :
    keepsMemory s (if p then settle u else .next s) := by
  split
  · exact keepsMemory_settle h
  · exact keepsMemory_next rfl

/-- A request writes no memory when its owner writes none. -/
theorem keepsMemory_dispatched {s : State} {tag : Byte} {r : Request} {owner : Nat → State → State}
    (h : ∀ t u, (owner t u).store.flash = u.store.flash) : keepsMemory s (dispatched s tag r owner) :=
  keepsMemory_when (h _ _)

/-! ### The requests -/

theorem execReset_keepsMemory (tag : Byte) (s : State) : keepsMemory s (execReset tag s) :=
  keepsMemory_dispatched fun t u => by simp

theorem execPowerSetDozeOn_keepsMemory (tag : Byte) (s : State) : keepsMemory s (execPowerSetDozeOn tag s) :=
  keepsMemory_dispatched fun t u => by simp

theorem execPowerSetDozeOff_keepsMemory (tag : Byte) (s : State) : keepsMemory s (execPowerSetDozeOff tag s) :=
  keepsMemory_dispatched fun t u => by simp

theorem execPowerSetDormant_keepsMemory (tag : Byte) (s : State) : keepsMemory s (execPowerSetDormant tag s) :=
  keepsMemory_dispatched fun t u => by split <;> simp

theorem execPowerSetQuery_keepsMemory (tag : Byte) (target : Option Byte) (s : State) :
    keepsMemory s (execPowerSetQuery tag target s) := by
  unfold execPowerSetQuery
  split
  · exact keepsMemory_dispatched fun t u => u.powerDone_flash t
  · split
    · exact keepsMemory_next rfl
    · exact keepsMemory_dispatched fun t u => u.refuse_flash t _

theorem execSubLoad_keepsMemory (tag sub : Byte) (identity : BitVec 32) (channels : List (BitVec 16)) (s : State) :
    keepsMemory s (execSubLoad tag sub identity channels s) :=
  keepsMemory_dispatched fun t u => by split <;> simp [apply_ite State.store, apply_ite Store.flash]

theorem execSubAttach_keepsMemory (tag sub : Byte) (s : State) : keepsMemory s (execSubAttach tag sub s) :=
  keepsMemory_dispatched fun t u => by split <;> simp [apply_ite State.store, apply_ite Store.flash]

theorem execSubDetach_keepsMemory (tag sub : Byte) (s : State) : keepsMemory s (execSubDetach tag sub s) :=
  keepsMemory_dispatched fun t u => by split <;> simp

theorem execSubSet_keepsMemory (tag sub : Byte) (guard notices : Option Byte) (channels : Option (List (BitVec 16))) (s : State) :
    keepsMemory s (execSubSet tag sub guard notices channels s) :=
  keepsMemory_dispatched fun t u => by split <;> simp [apply_ite State.store, apply_ite Store.flash]

theorem execSubQuery_keepsMemory (tag sub : Byte) (s : State) : keepsMemory s (execSubQuery tag sub s) :=
  keepsMemory_dispatched fun t u => by split <;> simp

theorem execCallDial_keepsMemory (tag sub : Byte) (number : Digits) (s : State) :
    keepsMemory s (execCallDial tag sub number s) :=
  keepsMemory_dispatched fun t u => by
    split
    · split
      · split
        · split <;> simp [apply_ite State.store, apply_ite Store.flash]
        · simp
      · simp
    · simp

theorem execCallAnswer_keepsMemory (tag id : Byte) (s : State) : keepsMemory s (execCallAnswer tag id s) :=
  keepsMemory_dispatched fun t u => by split <;> simp

theorem execCallEnd_keepsMemory (tag id : Byte) (s : State) : keepsMemory s (execCallEnd tag id s) :=
  keepsMemory_dispatched fun t u => by split <;> simp [apply_ite State.store, apply_ite Store.flash]

theorem execCallQuery_keepsMemory (tag : Byte) (id : Option Byte) (s : State) : keepsMemory s (execCallQuery tag id s) :=
  keepsMemory_dispatched fun t u => by
    split
    · simp
    · split <;> simp

theorem execVoiceSet_keepsMemory (tag : Byte) (clockRole frameRole clockRate polarity idleLine : Option Byte) (s : State) :
    keepsMemory s (execVoiceSet tag clockRole frameRole clockRate polarity idleLine s) :=
  keepsMemory_dispatched fun t u => by
    split
    · split <;> simp
    · simp

theorem execTextSend_keepsMemory (tag sub : Byte) (destination : Digits) (reference index last : Byte) (body : List Byte)
    (s : State) : keepsMemory s (execTextSend tag sub destination reference index last body s) :=
  keepsMemory_dispatched fun t u => by split <;> simp [apply_ite State.store, apply_ite Store.flash]

theorem execTextCancel_keepsMemory (tag sub reference : Byte) (s : State) : keepsMemory s (execTextCancel tag sub reference s) :=
  keepsMemory_dispatched fun t u => by
    split
    · split <;> simp [apply_ite State.store, apply_ite Store.flash]
    · simp

theorem execStoreList_keepsMemory (tag : Byte) (start : BitVec 16) (s : State) : keepsMemory s (execStoreList tag start s) :=
  keepsMemory_dispatched fun t u => by split <;> simp

theorem execStoreRead_keepsMemory (tag : Byte) (number offset : BitVec 16) (length : Byte) (s : State) :
    keepsMemory s (execStoreRead tag number offset length s) :=
  keepsMemory_dispatched fun t u => by
    split
    · split <;> simp
    · simp

theorem execStoreDelete_keepsMemory (tag : Byte) (number : BitVec 16) (s : State) :
    keepsMemory s (execStoreDelete tag number s) :=
  keepsMemory_dispatched fun t u => by
    split
    · simp
    · split <;> simp [apply_ite State.store, apply_ite Store.flash]

theorem execStoreKeep_keepsMemory (tag : Byte) (number : BitVec 16) (s : State) : keepsMemory s (execStoreKeep tag number s) :=
  keepsMemory_dispatched fun t u => by
    split
    · simp
    · split
      · simp
      · split
        · simp
        · split
          · simp
          · split <;> simp

theorem execStoreProtect_keepsMemory (tag edge count invert : Byte) (s : State) :
    keepsMemory s (execStoreProtect tag edge count invert s) :=
  keepsMemory_dispatched fun t u => by
    split
    · split <;> simp
    · simp

/-! ### The link, the timers and the radio -/

theorem execResetnReleased_keepsMemory (s : State) : keepsMemory s (execResetnReleased s) := keepsMemory_when rfl

/-- R174: a requested reset waits until the store has ended its operation, so that it cuts none. -/
theorem execRequestedReset_keepsMemory (s : State) : keepsMemory s (execRequestedReset s) := keepsMemory_when rfl

theorem execStartingReply_keepsMemory (s : State) : keepsMemory s (execStartingReply s) := by
  unfold execStartingReply
  split
  · exact keepsMemory_when (State.refuse_flash ..)
  · exact keepsMemory_next rfl

theorem execBreak_keepsMemory (s : State) : keepsMemory s (execBreak s) := by
  unfold execBreak
  split
  · exact keepsMemory_next rfl
  · exact keepsMemory_settle (by simp)

theorem execClrdyAsserted_keepsMemory (s : State) : keepsMemory s (execClrdyAsserted s) := by
  unfold execClrdyAsserted
  dsimp only
  split <;> exact keepsMemory_settle rfl

theorem execFrameTransmitStart_keepsMemory (s : State) : keepsMemory s (execFrameTransmitStart s) := by
  unfold execFrameTransmitStart
  split
  · split
    · exact keepsMemory_settle rfl
    · exact keepsMemory_settle (State.noticeSent_flash _ _)
    · exact keepsMemory_next rfl
  · exact keepsMemory_next rfl

theorem execFrameTransmitEnd_keepsMemory (s : State) : keepsMemory s (execFrameTransmitEnd s) := by
  unfold execFrameTransmitEnd
  split
  · refine keepsMemory_when ?_
    split
    · exact State.replySent_flash _
    · rfl
  · exact keepsMemory_next rfl

theorem execWindowOrdered_keepsMemory (s : State) : keepsMemory s (execWindowOrdered s) := by
  unfold execWindowOrdered
  split
  · split
    · exact keepsMemory_settle (s.order_flash _)
    · exact keepsMemory_next rfl
  · exact keepsMemory_next rfl

theorem execFrontEndResult_keepsMemory (order : Byte) (result : FrontEndResult) (s : State) :
    keepsMemory s (execFrontEndResult order result s) := by
  unfold execFrontEndResult
  split
  · split
    · exact keepsMemory_settle ((State.endWindow_flash _ _ _ _).trans (flash_of_still s.radioDone_still))
    · exact keepsMemory_next rfl
  · exact keepsMemory_next rfl

theorem execResultLimit_keepsMemory (window : WinId) (s : State) : keepsMemory s (execResultLimit window s) := by
  unfold execResultLimit
  split
  · exact keepsMemory_when ((State.endWindow_flash _ _ _ _).trans (flash_of_still s.radioFailed_still))
  · exact keepsMemory_next rfl

theorem execReleaseTimerExpiry_keepsMemory (s : State) : keepsMemory s (execReleaseTimerExpiry s) := by
  unfold execReleaseTimerExpiry
  split
  · exact keepsMemory_when (flash_of_still (s.releaseConnection_still _ false))
  · exact keepsMemory_next rfl

theorem execAssemblyTimerExpiry_keepsMemory (x : Sub) (reference : Byte) (s : State) :
    keepsMemory s (execAssemblyTimerExpiry x reference s) := by
  unfold execAssemblyTimerExpiry
  split
  · exact keepsMemory_when (flash_of_still (s.endEntry_still x reference .abandoned))
  · exact keepsMemory_next rfl

theorem execPartWaitExpiry_keepsMemory (x : Sub) (s : State) : keepsMemory s (execPartWaitExpiry x s) := by
  unfold execPartWaitExpiry
  split
  · exact keepsMemory_when (flash_of_still (s.partWaitExpired_still x))
  · exact keepsMemory_next rfl

theorem execAgeTimerExpiry_keepsMemory (x : Sub) (sender : Digits) (reference : Nat) (s : State) :
    keepsMemory s (execAgeTimerExpiry x sender reference s) := by
  unfold execAgeTimerExpiry
  split
  · exact keepsMemory_when (flash_of_still (s.closeEntry_still _ .incomplete))
  · exact keepsMemory_next rfl

/-- R151, R154: every command but the ends of store operations and the resets that cut one leaves the memory as it is. -/
theorem exec_keepsMemory (c : Instr) (s : State) (h : Instr.writesMemory c = false) : keepsMemory s (exec c s) := by
  cases c with
  | powerOn | resetnAsserted | slotProgramEnd | markProgramEnd | blockEraseEnd | settingsRewriteEnd => cases h
  | resetnReleased => exact execResetnReleased_keepsMemory s
  | requestedReset => exact execRequestedReset_keepsMemory s
  | startupEnd => exact keepsMemory_when rfl
  | lineBreak => exact execBreak_keepsMemory s
  | characterError => exact keepsMemory_when (congrArg Store.flash (s.lose_store ..))
  | receiveGapTimeout => exact keepsMemory_when (congrArg Store.flash (s.lose_store ..))
  | lengthDiscard octet => exact keepsMemory_when (congrArg Store.flash (s.octet_store octet))
  | requestArrival octet => exact keepsMemory_when (congrArg Store.flash (s.octet_store octet))
  | goodOctet octet => exact keepsMemory_when (congrArg Store.flash (s.octet_store octet))
  | startingReply => exact execStartingReply_keepsMemory s
  | identify tag => exact keepsMemory_when (State.answer_flash ..)
  | reset tag => exact execReset_keepsMemory tag s
  | powerSetDozeOn tag => exact execPowerSetDozeOn_keepsMemory tag s
  | powerSetDozeOff tag => exact execPowerSetDozeOff_keepsMemory tag s
  | powerSetDormant tag => exact execPowerSetDormant_keepsMemory tag s
  | powerSetQuery tag target => exact execPowerSetQuery_keepsMemory tag target s
  | subLoad tag sub identity channels => exact execSubLoad_keepsMemory tag sub identity channels s
  | subAttach tag sub => exact execSubAttach_keepsMemory tag sub s
  | subDetach tag sub => exact execSubDetach_keepsMemory tag sub s
  | subSet tag sub guard notices channels => exact execSubSet_keepsMemory tag sub guard notices channels s
  | subQuery tag sub => exact execSubQuery_keepsMemory tag sub s
  | measQuery | voiceQuery | outboxQuery | storeQuery => exact keepsMemory_dispatched fun t u => u.answer_flash ..
  | callDial tag sub number => exact execCallDial_keepsMemory tag sub number s
  | callAnswer tag id => exact execCallAnswer_keepsMemory tag id s
  | callEnd tag id => exact execCallEnd_keepsMemory tag id s
  | callQuery tag id => exact execCallQuery_keepsMemory tag id s
  | voiceSet tag a b c d e => exact execVoiceSet_keepsMemory tag a b c d e s
  | textSend tag sub destination reference index last body =>
    exact execTextSend_keepsMemory tag sub destination reference index last body s
  | textCancel tag sub reference => exact execTextCancel_keepsMemory tag sub reference s
  | storeList tag start => exact execStoreList_keepsMemory tag start s
  | storeRead tag number offset length => exact execStoreRead_keepsMemory tag number offset length s
  | storeDelete tag number => exact execStoreDelete_keepsMemory tag number s
  | storeKeep tag number => exact execStoreKeep_keepsMemory tag number s
  | storeProtect tag edge count invert => exact execStoreProtect_keepsMemory tag edge count invert s
  | clrdyAsserted => exact execClrdyAsserted_keepsMemory s
  | clrdyDeasserted => exact keepsMemory_settle rfl
  | frameTransmitStart => exact execFrameTransmitStart_keepsMemory s
  | frameTransmitEnd => exact execFrameTransmitEnd_keepsMemory s
  | dozeEntry | wakeTimeReached | dormantEntry | portFrameStart | uplinkBlockReceived => exact keepsMemory_when rfl
  | windowOrdered => exact execWindowOrdered_keepsMemory s
  | frontEndResult order result => exact execFrontEndResult_keepsMemory order result s
  | resultLimit window => exact execResultLimit_keepsMemory window s
  | noServiceRetryExpiry sub => exact keepsMemory_when (State.beginSearch_flash ..)
  | releaseTimerExpiry => exact execReleaseTimerExpiry_keepsMemory s
  | registrationGuardExpiry sub => exact keepsMemory_when (flash_of_still (s.regRefused_still sub .noReply))
  | callTimerExpiry id => exact keepsMemory_when (flash_of_still (s.callTimerExpired_still id))
  | assemblyTimerExpiry sub reference => exact execAssemblyTimerExpiry_keepsMemory sub reference s
  | partWaitExpiry sub => exact execPartWaitExpiry_keepsMemory sub s
  | ageTimerExpiry sub sender reference => exact execAgeTimerExpiry_keepsMemory sub sender reference s
  | idleWaitExpiry sub => exact keepsMemory_when (flash_of_still (s.idleWaitOver_still sub))
  | storeOperationStart => exact keepsMemory_when (flash_of_still s.startNext_still)

/-- Settles O5: each command's own lemma says that the memory stands. -/
theorem onlyStoreOperationsChangeTheMemory : Obligations.OnlyStoreOperationsChangeTheMemory :=
  fun c s t h ht => exec_keepsMemory c s h t ht

end Sys2Proof.Machine
end

section
/-! SUPPORT. The store's own requests (R158, R159, R160, R162, R165): what its operations say of a slot, the checks of each request,
and what a taken one leaves of the operation queue. -/

namespace Sys2Proof.Machine

open Sys2Proof

/-! ### STORE_LIST and STORE_READ (R165) -/

/-- R165: STORE_LIST. -/
theorem exec_storeList {s : State} {tag : Byte} {n : BitVec 16} (ha : s.accepts tag (.storeList n)) (hq : s.quiet) :
    (n = 0 → exec (.storeList tag n) s = .next (s.replied tag 0x38 .badValue .none)) ∧
    (n ≠ 0 → exec (.storeList tag n) s =
      let found := s.store.liveMessages.filter fun m => decide (n.toNat ≤ m.1.header.number)
      .next (s.replied tag 0x38 .done (.listing ((found.take 8).map s.store.listed) (decide (8 < found.length))))) := by
  unfold exec execStoreList
  constructor
  · exact fun zero => dispatched_replied ha hq _ .badValue .none (if_pos zero)
  · exact fun named => dispatched_replied ha hq _ .done (.listing _ _) (if_neg named)

/-- R165: STORE_READ of a number that no LIVE slot holds. -/
theorem exec_storeRead_unknown {s : State} {tag : Byte} {n offset : BitVec 16} {len : Byte}
    (ha : s.accepts tag (.storeRead n offset len)) (hq : s.quiet) (hf : s.store.find n.toNat = none) :
    exec (.storeRead tag n offset len) s = .next (s.replied tag 0x39 .unknownItem .none) := by
  have found : (s.reserveHead tag 0x39).store.find n.toNat = none := hf
  have code : requestCode (.storeRead n offset len) = 0x39 := rfl
  unfold exec execStoreRead
  refine dispatched_replied ha hq _ .unknownItem .none ?_
  simp only [code, found]
  rfl

/-- R165: STORE_READ of a message. -/
theorem exec_storeRead_found {s : State} {tag : Byte} {n offset : BitVec 16} {len : Byte} {p : SlotId} {m : Message}
    (ha : s.accepts tag (.storeRead n offset len)) (hq : s.quiet) (hf : s.store.find n.toNat = some p)
    (hm : s.store.messageAt p = some m) :
    exec (.storeRead tag n offset len) s = .next (if 1 ≤ len.toNat ∧ len.toNat ≤ 192 ∧ offset.toNat ≤ m.body.length then
        s.replied tag 0x39 .done (.octets ((m.body.drop offset.toNat).take len.toNat)) else s.replied tag 0x39 .badValue .none) := by
  have found : ((s.reserveHead tag 0x39).store.find n.toNat).bind (s.reserveHead tag 0x39).store.messageAt = some m :=
    (congrArg (Option.bind · s.store.messageAt) hf).trans hm
  have code : requestCode (.storeRead n offset len) = 0x39 := rfl
  unfold exec execStoreRead
  by_cases good : 1 ≤ len.toNat ∧ len.toNat ≤ 192 ∧ offset.toNat ≤ m.body.length
  · rw [if_pos good]
    refine dispatched_replied ha hq _ .done (.octets _) ?_
    simp only [code, found]
    exact if_pos good
  · rw [if_neg good]
    refine dispatched_replied ha hq _ .badValue .none ?_
    simp only [code, found]
    exact if_neg good

/-- Settles O38: the two requests, each check in its order. -/
theorem messagesAreListedAndRead : Obligations.MessagesAreListedAndRead := by
  intro tag n s hq
  refine ⟨fun ha => ?_, fun offset len ha => ⟨exec_storeRead_unknown ha hq, fun p m hf hm => ?_⟩⟩
  · obtain ⟨zero, listed⟩ := exec_storeList ha hq
    exact ⟨zero, fun h => ⟨_, rfl, listed h⟩⟩
  · rw [exec_storeRead_found ha hq hf hm]
    exact ⟨fun good => by rw [if_pos good], fun bad => by rw [if_neg (by omega)]⟩

/-! ### What the operations say of a slot (R158 to R162) -/

theorem Store.isTarget_iff {st : Store} {p : SlotId} : st.isTarget p = true ↔ ∃ o ∈ st.ops, o.target = some p := by
  simp [Store.isTarget]

theorem Store.markPending_iff {st : Store} {p : SlotId} : st.markPending p = true ↔ ∃ why, StoreOp.mark p why ∈ st.ops := by
  unfold Store.markPending
  rw [List.any_eq_true]
  constructor
  · rintro ⟨o, ho, h⟩
    cases o with
    | mark q why => obtain rfl := of_decide_eq_true h; exact ⟨why, ho⟩
    | _ => cases h
  · rintro ⟨why, h⟩
    exact ⟨_, h, decide_eq_true rfl⟩

theorem Store.keeping_iff {st : Store} {p : SlotId} : st.keeping p = true ↔ ∃ k q t, StoreOp.keepCopy k p q t ∈ st.ops := by
  unfold Store.keeping
  rw [List.any_eq_true]
  constructor
  · rintro ⟨o, ho, h⟩
    cases o with
    | keepCopy k src q t => obtain rfl := of_decide_eq_true h; exact ⟨k, q, t, ho⟩
    | _ => cases h
  · rintro ⟨k, q, t, h⟩
    exact ⟨_, h, decide_eq_true rfl⟩

theorem StoreOp.relocates_iff {p : SlotId} {o : StoreOp} : o.relocates p = true ↔ ∃ k q d, o = .relocCopy k p q d := by
  cases o with
  | relocCopy k src q d => simp [StoreOp.relocates, eq_comm]
  | _ => simp [StoreOp.relocates]

theorem Store.relocating_iff {st : Store} {p : SlotId} :
    st.relocating p = true ↔ ∃ k q d, StoreOp.relocCopy k p q d ∈ st.ops := by
  simp only [Store.relocating, List.any_eq_true, StoreOp.relocates_iff]
  constructor
  · rintro ⟨o, ho, k, q, d, rfl⟩; exact ⟨k, q, d, ho⟩
  · rintro ⟨k, q, d, h⟩; exact ⟨_, h, k, q, d, rfl⟩

theorem Store.relocRunning_iff {st : Store} {p : SlotId} :
    st.relocRunning p = true ↔ ∃ r, st.running = some r ∧ r.op.relocates p = true := by
  unfold Store.relocRunning
  cases st.running <;> simp

/-- The running operation is one of the store's operations. -/
theorem Store.mem_ops {st : Store} {o : StoreOp} : o ∈ st.ops ↔ (∃ r, st.running = some r ∧ r.op = o) ∨ o ∈ st.queue := by
  unfold Store.ops
  cases st.running with
  | none => simp
  | some r => simp [eq_comm]

/-- A step that waits or runs stands. -/
theorem Store.stepping_of_mem {st : Store} {o : StoreOp} (h : o ∈ st.ops) (hs : o.isStep = true) : st.stepping = true :=
  List.any_eq_true.2 ⟨o, h, by simp [hs]⟩

theorem Store.relocating_of_running {st : Store} {p : SlotId} (h : st.relocRunning p = true) : st.relocating p = true := by
  obtain ⟨r, hr, h⟩ := Store.relocRunning_iff.1 h
  exact List.any_eq_true.2 ⟨r.op, Store.mem_ops.2 (.inl ⟨r, hr, rfl⟩), h⟩

/-- R158: a STORE_PROTECT is in progress. -/
theorem Store.newDescriptor_isSome {st : Store} :
    st.newDescriptor.isSome = true ↔ ∃ d t, StoreOp.settings d t ∈ st.ops := by
  unfold Store.newDescriptor
  rw [List.isSome_findSome?, List.any_eq_true]
  constructor
  · rintro ⟨o, ho, h⟩
    cases o with
    | settings d t => exact ⟨d, t, ho⟩
    | _ => cases h
  · rintro ⟨d, t, h⟩
    exact ⟨_, h, rfl⟩

/-- R158: a STORE_PROTECT in progress that leaves an unprotected block unprotected does not stand in the way of a request. -/
theorem Store.protectionChanges_false {st : Store} {b : Nat} (hb : st.isProtected b = false)
    (hd : ∀ d, st.newDescriptor = some d → d.protects b = false) : st.protectionChanges b = false := by
  unfold Store.protectionChanges
  split
  next d h => rw [hd d h, hb]; rfl
  next => rfl

theorem Store.protectionChanges_true {st : Store} {b : Nat} (hb : st.isProtected b = false) {d : Descriptor}
    (hd : st.newDescriptor = some d) (h : d.protects b = true) : st.protectionChanges b = true := by
  simp [Store.protectionChanges, hd, h, hb]

/-! ### The store examines what a command leaves (R161, R162, R166) -/

section
variable {o : Host.Outcome State Fault Refusal} {v : State} {rs : List Report} (ho : o = settle { v with reports := rs })
  (hv : v.reports = []) (hn : rs.length ≤ 16) (hs : ¬v.store.stuck)
include ho hv hn hs

/-- The outcome of a command whose action leads to a state with reports that the store changed. -/
theorem settle_examined_state (hr : ∀ r ∈ rs, r = .storeChanged) : ∃ t : State, o = .next t ∧ v.examined t := by
  have quiet : ({ { v with reports := rs } with reports := [] } : State) = v := by rw [← hv]
  subst ho
  exact quiet ▸ settle_examined (s := { v with reports := rs }) hr hs (by change rs.length + 2 ≤ 4096; omega)

/-- The same with usable slots that rose in number, while nothing waits for them. -/
theorem settle_examined_state_rose (hr : ∀ r ∈ rs, r = .storeChanged ∨ r = .usableRose)
    (hm : ∀ x, (v.sub x).memoryFull = false) (ht : ∀ e ∈ v.text.table, e.unwritten = false) :
    ∃ t : State, o = .next t ∧ v.examined t := by
  have quiet : ({ { v with reports := rs } with reports := [] } : State) = v := by rw [← hv]
  subst ho
  exact quiet ▸ settle_examined_rose (s := { v with reports := rs }) hr hs (by change rs.length + 2 ≤ 4096; omega) hm ht

end

/-! ### STORE_DELETE (R160, R162) -/

/-- A mark of another slot, and any operation that is no mark, is joined by no DELETE of a slot. -/
theorem StoreOp.joined_other {p : SlotId} {o : StoreOp} (h : ∀ why, o ≠ .mark p why) (t : Nat) : o.joined p t = o := by
  cases o with
  | mark q why =>
    cases why with
    | delete ts => exact if_neg fun hq => h _ (by rw [hq])
    | _ => rfl
  | _ => rfl

/-- Only a relocation copy can be dropped. -/
theorem StoreOp.dropCopy_other {o : StoreOp} (h : o.isStep = false) : o.dropCopy = o := by
  cases o with
  | relocCopy => cases h
  | _ => rfl

/-- R160: the delete of a message that no operation touches. -/
theorem State.deleteMessage_untouched {s : State} {p : SlotId} (hr : s.store.relocating p = false)
    (hm : s.store.markPending p = false) (t : Nat) : s.deleteMessage p t = s.queueOp (.mark p (.delete [t])) := by
  have stopped : s.store.relocRunning p = false := by
    rw [← Bool.not_eq_true]
    exact fun h => Bool.false_ne_true (hr.symm.trans (Store.relocating_of_running h))
  simp [State.deleteMessage, stopped, hm, hr]

/-- R160: the delete of a message whose mark waits joins that mark. -/
theorem State.deleteMessage_joins {s : State} {p : SlotId} {ts : List Nat} {pre post : List StoreOp}
    (hq : s.store.queue = pre ++ .mark p (.delete ts) :: post) (hr : s.store.running = none)
    (hm : ∀ why, StoreOp.mark p why ∉ pre ++ post) (t : Nat) :
    s.deleteMessage p t = { s with store := { s.store with queue := pre ++ .mark p (.delete (ts ++ [t])) :: post } } := by
  have stopped : ¬s.store.relocRunning p = true := by simp [Store.relocRunning, hr]
  have pending : s.store.markPending p = true :=
    Store.markPending_iff.2 ⟨.delete ts, Store.mem_ops.2 (.inr (by rw [hq]; simp))⟩
  have others {os : List StoreOp} (h : ∀ o ∈ os, o ∈ pre ++ post) : os.map (StoreOp.joined p t) = os :=
    (List.map_congr_left fun o ho => StoreOp.joined_other (fun why hw => hm why (hw ▸ h o ho)) t).trans (List.map_id os)
  have joined : s.store.mapOps (StoreOp.joined p t) =
      { s.store with queue := pre ++ .mark p (.delete (ts ++ [t])) :: post } := by
    have here : (StoreOp.mark p (.delete ts)).joined p t = .mark p (.delete (ts ++ [t])) := if_pos rfl
    simp only [Store.mapOps, hq, hr, List.map_append, List.map_cons, here, Option.map_none]
    rw [others fun o ho => List.mem_append_left _ ho, others fun o ho => List.mem_append_right _ ho]
  unfold State.deleteMessage
  rw [if_neg stopped, if_pos pending, ← joined]
  rfl

/-- R160: the delete of a message whose relocation copy runs. -/
theorem State.deleteMessage_running {s : State} {p : SlotId} {k : Nat} {q : SlotId} {d : Bool} {r : Running}
    (hr : s.store.running = some r) (ho : r.op = .relocCopy k p q d) (hq : ∀ o ∈ s.store.queue, o.isStep = false) (t : Nat) :
    s.deleteMessage p t = State.refuse { s with
      reports := s.reports ++ [.storeChanged]
      store := { (s.store.setState p .deleted) with
        running := some { r with op := .relocCopy k p q true }, queue := .mark p .relocation :: s.store.queue } } t .done := by
  have runs : s.store.relocRunning p = true :=
    Store.relocRunning_iff.2 ⟨r, hr, StoreOp.relocates_iff.2 ⟨k, q, d, ho⟩⟩
  have dropped : (s.store.setState p .deleted).mapOps StoreOp.dropCopy =
      { (s.store.setState p .deleted) with running := some { r with op := .relocCopy k p q true } } := by
    have kept : s.store.queue.map StoreOp.dropCopy = s.store.queue :=
      (List.map_congr_left fun o h => StoreOp.dropCopy_other (hq o h)).trans (List.map_id _)
    have copy : r.op.dropCopy = .relocCopy k p q true := by rw [ho]; rfl
    simp only [Store.mapOps, Store.setState, kept, hr, Option.map_some, copy]
  unfold State.deleteMessage
  rw [if_pos runs]
  dsimp only [State.storeNow, State.modStore]
  rw [dropped]
  rfl

/-- R156: a queue changed tells of a change, and of usable slots when it left more of them. -/
theorem State.requeue_eq (s : State) (f : List StoreOp → List StoreOp) : ∃ rs : List Report,
    (∀ r ∈ rs, r = .storeChanged ∨ r = .usableRose) ∧ rs.length ≤ 2 ∧
      s.requeue f = { s with store := { s.store with queue := f s.store.queue }, reports := s.reports ++ rs } := by
  unfold State.requeue
  dsimp only
  split
  · refine ⟨[.storeChanged, .usableRose], by simp, by simp, ?_⟩
    simp [State.storeNow, State.modStore, State.report]
  · exact ⟨[.storeChanged], by simp, by simp, rfl⟩

/-- R160, R162: the delete of a message whose relocation copy waits takes that copy out of the queue. -/
theorem State.deleteMessage_waiting {s : State} {p : SlotId} {k : Nat} {q : SlotId} {d : Bool} {pre post : List StoreOp}
    (hq : s.store.queue = pre ++ .relocCopy k p q d :: post) (ho : ∀ o ∈ pre ++ post, o.relocates p = false)
    (hr : s.store.relocRunning p = false) (hm : s.store.markPending p = false) (t : Nat) : ∃ rs : List Report,
    (∀ r ∈ rs, r = .storeChanged ∨ r = .usableRose) ∧ rs.length ≤ 2 ∧ s.deleteMessage p t = { s with
      store := { s.store with queue := pre ++ post ++ [.mark p (.delete [t])] }, reports := s.reports ++ rs } := by
  have waits : s.store.relocating p = true := Store.relocating_iff.2 ⟨k, q, d, Store.mem_ops.2 (.inr (by rw [hq]; simp))⟩
  have others {os : List StoreOp} (h : ∀ o ∈ os, o ∈ pre ++ post) : (os.filter fun o => !o.relocates p) = os :=
    List.filter_eq_self.2 fun o ho' => by rw [ho o (h o ho')]; rfl
  have left : (s.store.queue.filter fun o => !o.relocates p) = pre ++ post := by
    have copy : (StoreOp.relocCopy k p q d).relocates p = true := StoreOp.relocates_iff.2 ⟨k, q, d, rfl⟩
    rw [hq, List.filter_append, others fun o h => List.mem_append_left _ h, List.filter_cons_of_neg (by simp [copy]),
      others fun o h => List.mem_append_right _ h]
  obtain ⟨rs, told, few, queued⟩ := s.requeue_eq fun os => os.filter fun o => !o.relocates p
  refine ⟨rs, told, few, ?_⟩
  unfold State.deleteMessage
  simp only [hr, hm, waits, if_true, Bool.false_eq_true, if_false, queued, left]
  rfl

section
variable {s : State} {tag : Byte} {n : BitVec 16} (ha : s.accepts tag (.storeDelete n))
include ha

/-- R160: a delete that one of the checks refuses. -/
theorem exec_storeDelete_refused (hq : s.quiet) {st : Status}
    (h : n = 0 ∧ st = .badValue ∨ n ≠ 0 ∧ (s.store.find n.toNat = none ∧ st = .unknownItem ∨
      ∃ p, s.store.find n.toNat = some p ∧ (s.store.isProtected p.block = true ∧ st = .protected_ ∨
        s.store.isProtected p.block = false ∧ (s.store.keeping p = true ∨ s.store.protectionChanges p.block = true) ∧
          st = .busy))) :
    exec (.storeDelete tag n) s = .next (s.replied tag 0x3A st .none) := by
  have store : (s.reserveHead tag 0x3A).store = s.store := rfl
  have code : requestCode (.storeDelete n) = 0x3A := rfl
  unfold exec execStoreDelete
  refine dispatched_replied ha hq _ st _ ?_
  rw [code]
  rcases h with ⟨hn, rfl⟩ | ⟨hn, ⟨hf, rfl⟩ | ⟨p, hf, ⟨hp, rfl⟩ | ⟨hp, hb, rfl⟩⟩⟩
  · exact if_pos hn
  · simp only [if_neg hn, store, hf]; rfl
  · simp only [if_neg hn, store, hf, hp]; rfl
  · simp only [if_neg hn, store, hf, hp, if_pos hb]; rfl

/-- R160: a delete that passes them. -/
theorem exec_storeDelete_taken {p : SlotId} (hn : n ≠ 0) (hf : s.store.find n.toNat = some p)
    (hp : s.store.isProtected p.block = false) (hk : s.store.keeping p = false)
    (hc : s.store.protectionChanges p.block = false) :
    exec (.storeDelete tag n) s = settle ((s.reserveHead tag 0x3A).deleteMessage p s.link.ticket) := by
  have store : (s.reserveHead tag 0x3A).store = s.store := rfl
  have code : requestCode (.storeDelete n) = 0x3A := rfl
  unfold exec execStoreDelete
  refine (dispatched_accepts ha _).trans ?_
  simp only [code, if_neg hn, store, hf, hp, hk, hc, Bool.false_eq_true, or_self, if_false]

end

/-! ### STORE_KEEP (R159) -/

/-- R159: the copy target of a KEEP, by what the operations name. -/
theorem Store.keepTarget_eq (st : Store) : st.keepTarget = allSlots.find? fun q => decide (st.stateAt q = .free ∧
    (∀ o ∈ st.ops, o.target ≠ some q) ∧ st.isProtected q.block = true ∧ st.isRetired q.block = false) := by
  unfold Store.keepTarget
  congr 1
  funext q
  have target : st.isTarget q = false ↔ ∀ o ∈ st.ops, o.target ≠ some q := by
    rw [← Bool.not_eq_true, Store.isTarget_iff]
    push Not
    rfl
  simp only [← target, Bool.decide_and, Bool.and_assoc]
  cases st.isTarget q <;> cases st.isProtected q.block <;> cases st.isRetired q.block <;> simp

section
variable {s : State} {tag : Byte} {n : BitVec 16} (ha : s.accepts tag (.storeKeep n))
include ha

/-- R159: a KEEP that one of the checks answers at once. -/
theorem exec_storeKeep_answered (hq : s.quiet) {st : Status}
    (h : n = 0 ∧ st = .badValue ∨ n ≠ 0 ∧ (s.store.find n.toNat = none ∧ st = .unknownItem ∨
      ∃ p, s.store.find n.toNat = some p ∧ (s.store.isProtected p.block = true ∧ st = .done ∨
        s.store.isProtected p.block = false ∧
          ((s.store.markPending p = true ∨ s.store.keeping p = true ∨ s.store.relocating p = true) ∧ st = .busy ∨
            ¬(s.store.markPending p = true ∨ s.store.keeping p = true ∨ s.store.relocating p = true) ∧
              s.store.keepTarget = none ∧ st = .noRoom)))) :
    exec (.storeKeep tag n) s = .next (s.replied tag 0x3B st .none) := by
  have store : (s.reserveHead tag 0x3B).store = s.store := rfl
  have code : requestCode (.storeKeep n) = 0x3B := rfl
  unfold exec execStoreKeep
  refine dispatched_replied ha hq _ st _ ?_
  rw [code]
  rcases h with ⟨hn, rfl⟩ | ⟨hn, ⟨hf, rfl⟩ | ⟨p, hf, ⟨hp, rfl⟩ | ⟨hp, ⟨hb, rfl⟩ | ⟨hb, ht, rfl⟩⟩⟩⟩
  · exact if_pos hn
  · simp only [if_neg hn, store, hf]; rfl
  · simp only [if_neg hn, store, hf, hp]; rfl
  · simp only [if_neg hn, store, hf, hp, if_pos hb]; rfl
  · simp only [if_neg hn, store, hf, hp, if_neg hb, ht]; rfl

/-- R159: a KEEP that passes them makes a copy target. -/
theorem exec_storeKeep_taken {p q : SlotId} (hn : n ≠ 0) (hf : s.store.find n.toNat = some p)
    (hp : s.store.isProtected p.block = false)
    (hb : ¬(s.store.markPending p = true ∨ s.store.keeping p = true ∨ s.store.relocating p = true))
    (ht : s.store.keepTarget = some q) : exec (.storeKeep tag n) s = settle { s.reservedFor tag 0x3B with
      store := { s.store with queue := s.store.queue ++ [.keepCopy n.toNat p q s.link.ticket] }
      reports := s.reports ++ [.storeChanged] } := by
  have store : (s.reserveHead tag 0x3B).store = s.store := rfl
  have code : requestCode (.storeKeep n) = 0x3B := rfl
  unfold exec execStoreKeep
  refine (dispatched_accepts ha _).trans ?_
  simp only [code, if_neg hn, store, hf, hp, if_neg hb, ht]
  rfl

end

/-! ### STORE_PROTECT (R158) -/

/-- R158: the descriptor of a request is in range when its three octets are. -/
theorem descriptorOf_good {edge count invert : Byte} (h : edge.toNat ≤ 1 ∧ count.toNat ≤ 16 ∧ invert.toNat ≤ 1) :
    descriptorOf edge count invert =
      some { high := decide (edge = 1), count := count.toNat, invert := decide (invert = 1) } := by
  obtain ⟨he, hc, hi⟩ := h
  have flag {o : Byte} (ho : o.toNat ≤ 1) : flagOf o = some (decide (o = 1)) := by
    rcases byte_toNat_le_one.1 ho with rfl | rfl <;> rfl
  simp only [descriptorOf, flag he, flag hi, if_pos hc]

theorem descriptorOf_bad {edge count invert : Byte} (h : ¬(edge.toNat ≤ 1 ∧ count.toNat ≤ 16 ∧ invert.toNat ≤ 1)) :
    descriptorOf edge count invert = none := by
  have flag {o : Byte} (ho : ¬o.toNat ≤ 1) : flagOf o = none := by
    rw [byte_toNat_le_one, not_or] at ho
    rw [flagOf, if_neg ho.1, if_neg ho.2]
  unfold descriptorOf
  by_cases he : edge.toNat ≤ 1
  · by_cases hi : invert.toNat ≤ 1
    · have hc : ¬count.toNat ≤ 16 := fun hc => h ⟨he, hc, hi⟩
      split
      · exact if_neg hc
      · rfl
    · rw [flag hi]
      cases flagOf edge <;> rfl
  · rw [flag he]

/-- R158: a block with a reservation, a copy target, or a message whose mark waits. -/
theorem Store.blockHeld_iff {st : Store} {b : Nat} : st.blockHeld b = true ↔
    ∃ i < 8, st.stateAt { block := b, slot := i } = .reserved ∨ (∃ o ∈ st.ops, o.target = some { block := b, slot := i }) ∨
      (st.stateAt { block := b, slot := i } = .live ∧ ∃ why, StoreOp.mark { block := b, slot := i } why ∈ st.ops) := by
  simp only [Store.blockHeld, List.any_eq_true, List.mem_range, Bool.or_eq_true, Bool.and_eq_true, decide_eq_true_eq,
    Store.isTarget_iff, Store.markPending_iff, or_assoc]

/-- R158: what makes a STORE_PROTECT answered BUSY. -/
theorem Store.protectBusy_iff {st : Store} {d : Descriptor} : st.protectBusy d = true ↔
    (∃ e t, StoreOp.settings e t ∈ st.ops) ∨ st.reclaim ≠ none ∨ (∃ k p q t, StoreOp.keepCopy k p q t ∈ st.ops) ∨
      ∃ b < 16, d.protects b ≠ st.isProtected b ∧ st.blockHeld b = true := by
  have keeps : st.ops.any StoreOp.isKeep = true ↔ ∃ k p q t, StoreOp.keepCopy k p q t ∈ st.ops := by
    rw [List.any_eq_true]
    constructor
    · rintro ⟨o, ho, h⟩
      cases o with
      | keepCopy k p q t => exact ⟨k, p, q, t, ho⟩
      | _ => cases h
    · rintro ⟨k, p, q, t, h⟩; exact ⟨_, h, rfl⟩
  have reclaims : st.reclaim.isSome = true ↔ st.reclaim ≠ none := Option.isSome_iff_ne_none
  simp only [Store.protectBusy, Bool.or_eq_true, Store.newDescriptor_isSome, reclaims, keeps, List.any_eq_true,
    List.mem_range, Bool.and_eq_true, bne_iff_ne, or_assoc]

section
variable {s : State} {tag edge count invert : Byte} (ha : s.accepts tag (.storeProtect edge count invert)) (hq : s.quiet)
include ha hq

/-- R158: a STORE_PROTECT that a check refuses. -/
theorem exec_storeProtect_refused {st : Status} (h : descriptorOf edge count invert = none ∧ st = .badValue ∨
      ∃ d, descriptorOf edge count invert = some d ∧ s.store.protectBusy d = true ∧ st = .busy) :
    exec (.storeProtect tag edge count invert) s = .next (s.replied tag 0x3C st .none) := by
  have store : (s.reserveHead tag 0x3C).store = s.store := rfl
  have code : requestCode (.storeProtect edge count invert) = 0x3C := rfl
  unfold exec execStoreProtect
  refine dispatched_replied ha hq _ st _ ?_
  rw [code]
  rcases h with ⟨hd, rfl⟩ | ⟨d, hd, hb, rfl⟩
  · simp only [hd]; rfl
  · simp only [hd, store, hb]; rfl

/-- R158: a STORE_PROTECT that passes them. -/
theorem exec_storeProtect_taken {d : Descriptor} (hd : descriptorOf edge count invert = some d)
    (hb : s.store.protectBusy d = false) : exec (.storeProtect tag edge count invert) s =
      .next { s.reservedFor tag 0x3C with store := { s.store with queue := s.store.queue ++ [.settings d s.link.ticket] } } := by
  have store : (s.reserveHead tag 0x3C).store = s.store := rfl
  have code : requestCode (.storeProtect edge count invert) = 0x3C := rfl
  unfold exec execStoreProtect
  refine (dispatched_accepts ha _).trans ?_
  simp only [code, hd, store, hb]
  exact settle_quiet hq

end

/-! ### The three requests -/

/-- The negations of what the checks ask of the operations. -/
theorem Store.markPending_false {st : Store} {p : SlotId} (h : ∀ why, StoreOp.mark p why ∉ st.ops) : st.markPending p = false :=
  Bool.eq_false_iff.2 fun hm => (Store.markPending_iff.1 hm).elim h

theorem Store.keeping_false {st : Store} {p : SlotId} (h : ∀ k q t, StoreOp.keepCopy k p q t ∉ st.ops) : st.keeping p = false :=
  Bool.eq_false_iff.2 fun hk => have ⟨k, q, t, hk⟩ := Store.keeping_iff.1 hk; h k q t hk

theorem Store.relocating_false {st : Store} {p : SlotId} (h : ∀ k q d, StoreOp.relocCopy k p q d ∉ st.ops) :
    st.relocating p = false :=
  Bool.eq_false_iff.2 fun hr => have ⟨k, q, d, hr⟩ := Store.relocating_iff.1 hr; h k q d hr

/-- Settles O54: each request's checks, and what `State.deleteMessage` does by the operations that name the slot. -/
theorem storeRequestsAreCheckedAndQueued : Obligations.StoreRequestsAreCheckedAndQueued := by
  refine ⟨fun tag n s ha hq => ?delete, fun tag n s ha hq => ?keep, fun tag edge count invert s ha hq => ?protect⟩
  case delete =>
    refine ⟨fun hn => exec_storeDelete_refused ha hq (.inl ⟨hn, rfl⟩),
      fun hn hf => exec_storeDelete_refused ha hq (.inr ⟨hn, .inl ⟨hf, rfl⟩⟩), fun p hn hf => ⟨fun hp =>
        exec_storeDelete_refused ha hq (.inr ⟨hn, .inr ⟨p, hf, .inl ⟨hp, rfl⟩⟩⟩), fun hp => ⟨fun hb => ?busy, ?quiet, ?moving⟩⟩⟩
    case busy =>
      refine exec_storeDelete_refused ha hq (.inr ⟨hn, .inr ⟨p, hf, .inr ⟨hp, ?_, rfl⟩⟩⟩)
      rcases hb with ⟨k, q, t, hk⟩ | ⟨d, hd, hc⟩
      · exact .inl (Store.keeping_iff.2 ⟨k, q, t, hk⟩)
      · exact .inr (Store.protectionChanges_true hp hd hc)
    case quiet =>
      intro hk hd hr
      have taken := exec_storeDelete_taken ha hn hf hp (Store.keeping_false hk) (Store.protectionChanges_false hp hd)
      have still : (s.reserveHead tag 0x3A).store.relocating p = false := Store.relocating_false hr
      refine ⟨fun hm => ?_, fun ts pre post hops hrun hm => ?_⟩
      · rw [taken, State.deleteMessage_untouched still (Store.markPending_false hm)]
        exact settle_quiet hq
      · rw [taken, State.deleteMessage_joins (s := s.reserveHead tag 0x3A) hops hrun hm]
        exact settle_quiet hq
    case moving =>
      intro hk hd
      have empty : s.reports = [] := hq
      have taken := exec_storeDelete_taken ha hn hf hp (Store.keeping_false hk) (Store.protectionChanges_false hp hd)
      constructor
      · intro k q d r hrun hop hsteps
        have deleted : exec (.storeDelete tag n) s = settle { s.replied tag 0x3A .done .none with
            reports := s.reports ++ [.storeChanged]
            store := { (s.store.setState p .deleted) with
              running := some { r with op := .relocCopy k p q true }, queue := .mark p .relocation :: s.store.queue } } := by
          rw [taken, State.deleteMessage_running (s := s.reserveHead tag 0x3A) hrun hop hsteps]
          exact congrArg settle (State.refuse_reserved (s := s) (out := s.link.outbox) .done (by rfl) (by rfl))
        refine settle_examined_state deleted hq (by simp [empty]) (Store.not_stuck_of_stepping ?_) (by simp [empty])
        exact Store.stepping_of_mem (o := .relocCopy k p q true) (Store.mem_ops.2 (.inl ⟨_, rfl, rfl⟩)) rfl
      · intro k q d pre post hops hothers hrun hm hfull hwritten left hs
        have stopped : (s.reserveHead tag 0x3A).store.relocRunning p = false :=
          Bool.eq_false_iff.2 fun h => by
            obtain ⟨r, hr, h⟩ := Store.relocRunning_iff.1 h
            exact Bool.false_ne_true ((hrun r hr).symm.trans h)
        obtain ⟨rs, told, few, deleted⟩ := State.deleteMessage_waiting (s := s.reserveHead tag 0x3A) hops hothers stopped
          (Store.markPending_false hm) s.link.ticket
        rw [show (s.reserveHead tag 0x3A).reports ++ rs = rs by exact congrArg (· ++ rs) empty] at deleted
        exact settle_examined_state_rose (v := left) (taken.trans (congrArg settle deleted)) hq (by omega) hs told hfull hwritten
  case keep =>
    refine ⟨fun hn => exec_storeKeep_answered ha hq (.inl ⟨hn, rfl⟩),
      fun hn hf => exec_storeKeep_answered ha hq (.inr ⟨hn, .inl ⟨hf, rfl⟩⟩), fun p hn hf => ⟨fun hp =>
        exec_storeKeep_answered ha hq (.inr ⟨hn, .inr ⟨p, hf, .inl ⟨hp, rfl⟩⟩⟩), fun hp => ⟨fun hb => ?_, fun hm hk hr => ?_⟩⟩⟩
    · refine exec_storeKeep_answered ha hq (.inr ⟨hn, .inr ⟨p, hf, .inr ⟨hp, .inl ⟨?_, rfl⟩⟩⟩⟩)
      rwa [Store.markPending_iff, Store.keeping_iff, Store.relocating_iff]
    · have free : ¬(s.store.markPending p = true ∨ s.store.keeping p = true ∨ s.store.relocating p = true) := by
        simp [Store.markPending_false hm, Store.keeping_false hk, Store.relocating_false hr]
      rw [← Store.keepTarget_eq]
      refine ⟨fun ht => exec_storeKeep_answered ha hq (.inr ⟨hn, .inr ⟨p, hf, .inr ⟨hp, .inr ⟨free, ht, rfl⟩⟩⟩⟩), ?_⟩
      intro q ht left hs
      have empty : s.reports = [] := hq
      exact settle_examined_state (v := left) (exec_storeKeep_taken ha hn hf hp free ht) hq (by simp [empty]) hs
        (by simp [empty])
  case protect =>
    intro answered good d held busy
    have busy_iff : s.store.protectBusy d = true ↔ busy := by simp only [Store.protectBusy_iff, Store.blockHeld_iff]; rfl
    exact ⟨fun bad => exec_storeProtect_refused ha hq (.inl ⟨descriptorOf_bad bad, rfl⟩),
      fun hg hb => exec_storeProtect_refused ha hq (.inr ⟨d, descriptorOf_good hg, busy_iff.2 hb, rfl⟩),
      fun hg hb => exec_storeProtect_taken ha hq (descriptorOf_good hg) (Bool.eq_false_iff.2 fun h => hb (busy_iff.1 h))⟩

end Sys2Proof.Machine
end

section
/-! SUPPORT. The store's operations start (R153, R154, R156): which of the queue starts, and the number a write takes. -/

namespace Sys2Proof.Machine

open Sys2Proof

/-! ### The operation that starts (R154) -/

/-- R154: the oldest operation that is no step of a reclaim starts; a step starts when nothing else waits. -/
theorem Store.nextOp_eq {st : Store} {o : StoreOp} {pre post : List StoreOp} (hq : st.queue = pre ++ o :: post)
    (h : ((∀ q ∈ pre, q.isStep = true) ∧ o.isStep = false) ∨ (pre = [] ∧ ∀ q ∈ o :: post, q.isStep = true)) :
    st.nextOp = some o ∧ st.queue.erase o = pre ++ post := by
  unfold Store.nextOp
  rw [hq]
  rcases h with ⟨steps, ho⟩ | ⟨rfl, steps⟩
  · have before : (pre.find? fun o => !o.isStep) = none := List.find?_eq_none.2 fun q hq => by simp [steps q hq]
    have absent : o ∉ pre := fun hm => by rw [steps o hm] at ho; cases ho
    exact ⟨by simp [before, ho], by simp [List.erase_append_right _ absent]⟩
  · have none_else : ((o :: post).find? fun o => !o.isStep) = none := List.find?_eq_none.2 fun q hq => by simp [steps q hq]
    exact ⟨by simp [none_else], by simp⟩

/-- R154, R155: nothing starts while a transmit window is ORDERED. -/
theorem State.transmitting_false {s : State}
    (h : ∀ w ∈ s.cal.windows, w.state = .ordered → w.purpose ≠ .accessTx ∧ w.purpose ≠ .dedTx) : s.transmitting = false := by
  unfold State.transmitting
  rw [List.any_eq_false]
  intro w hw
  have := h w hw
  simp only [Window.isOrdered, Window.transmits, Bool.and_eq_true, decide_eq_true_eq]
  rintro ⟨ho, hp⟩
  exact hp.elim (this ho).1 (this ho).2

section
variable {s : State} (hp : s.power.state = .run) (hh : s.power.held = false) (hr : s.store.running = none)
  (ht : s.transmitting = false)
include hp hh hr ht

theorem exec_storeOperationStart {o : StoreOp} {pre post : List StoreOp} (hq : s.store.queue = pre ++ o :: post)
    (h : ((∀ q ∈ pre, q.isStep = true) ∧ o.isStep = false) ∨ (pre = [] ∧ ∀ q ∈ o :: post, q.isStep = true)) :
    exec .storeOperationStart s = settle (({ s with store := { s.store with queue := pre ++ post } } : State).beginOp o) := by
  have starts : s.mayStart = true ∧ s.store.startable = true := by
    simp [State.mayStart, Store.startable, hp, hh, hr, ht, hq]
  obtain ⟨next, left⟩ := Store.nextOp_eq hq h
  unfold exec execStoreOperationStart
  simp only [if_pos starts, State.startNext, next, State.modStore, left]

end

/-- An operation that is no write starts as it is. -/
theorem State.beginOp_other {s : State} {o : StoreOp} (h : ∀ p m, o ≠ .write p m) :
    s.beginOp o = { s with store := { s.store with running := some { op := o, accumulated := 0, since := some s.now } } } := by
  cases o with
  | write p m => exact absurd rfl (h p m)
  | _ => rfl

/-! ### The number a write takes (R153) -/

/-- Two LIVE numbers of one slot are the same. -/
theorem Store.holds_inj {st : Store} {m n : Nat} {p : SlotId} (hm : st.holds m p = true) (hn : st.holds n p = true) : m = n := by
  simp only [Store.holds, Bool.and_eq_true, decide_eq_true_eq] at hm hn
  exact Option.some.inj (hm.2.symm.trans hn.2)

theorem allSlots_length : allSlots.length = 128 := by simp [allSlots]

/-- The number tried after j others, as R153 counts them. -/
def triedNumber (first j : Nat) : Nat := (first - 1 + j) % 65535 + 1

theorem wrapNumber_eq {first j : Nat} (h1 : 1 ≤ first) (h2 : first ≤ 65535) (hj : j ≤ 128) :
    wrapNumber (first + j) = triedNumber first j := by
  unfold wrapNumber triedNumber; split <;> omega

theorem triedNumber_inj {first i j : Nat} (hi : i < 129) (hj : j < 129) (h : triedNumber first i = triedNumber first j) :
    i = j := by
  unfold triedNumber at h; omega

/-- No LIVE slot holds the number tried after k others. -/
def Store.open (st : Store) (k : Nat) : Bool := !allSlots.any (st.holds (triedNumber st.nextNumber k))

theorem Store.open_iff {st : Store} {k : Nat} :
    st.open k = true ↔ ∀ q ∈ allSlots, st.holds (triedNumber st.nextNumber k) q = false := by
  simp [Store.open]

/-- R153: of 129 numbers the 128 slots leave one free. -/
theorem Store.number_open (st : Store) : ∃ j < 129, st.open j = true := by
  by_contra taken
  simp only [Store.open_iff] at taken
  push Not at taken
  choose slot mem holds using fun j : Fin 129 => taken j j.2
  have fewer : allSlots.toFinset.card < (Finset.univ : Finset (Fin 129)).card := by
    have := allSlots.toFinset_card_le
    rw [allSlots_length] at this
    simpa using Nat.lt_succ_of_le this
  obtain ⟨i, -, j, -, hne, heq⟩ := Finset.exists_ne_map_eq_of_card_lt_of_maps_to fewer fun j _ => List.mem_toFinset.2 (mem j)
  have same : triedNumber st.nextNumber i = triedNumber st.nextNumber j :=
    Store.holds_inj (p := slot j) (heq ▸ Bool.of_not_eq_false (holds i)) (Bool.of_not_eq_false (holds j))
  exact hne (Fin.ext (triedNumber_inj i.2 j.2 same))

/-- R153: a write takes the first number tried that no LIVE slot holds. -/
theorem Store.takeNumber_eq {st : Store} (h1 : 1 ≤ st.nextNumber) (h2 : st.nextNumber ≤ 65535) : ∃ k ≤ 128,
    (∀ j < k, ∃ q ∈ allSlots, st.holds (triedNumber st.nextNumber j) q = true) ∧
    (∀ q ∈ allSlots, st.holds (triedNumber st.nextNumber k) q = false) ∧ st.takeNumber = triedNumber st.nextNumber k := by
  obtain ⟨k, hk⟩ : ∃ k, (List.range 129).find? st.open = some k := by
    obtain ⟨j, hj, free⟩ := st.number_open
    exact Option.isSome_iff_exists.1 (List.find?_isSome.2 ⟨j, List.mem_range.2 hj, free⟩)
  obtain ⟨free, small, others⟩ := List.find?_range_eq_some.1 hk
  rw [List.mem_range] at small
  refine ⟨k, by omega, fun j hj => by simpa [Store.open] using others j hj, Store.open_iff.1 free, ?_⟩
  have tries : (List.range 129).map (fun k => wrapNumber (st.nextNumber + k)) =
      (List.range 129).map (triedNumber st.nextNumber) :=
    List.map_congr_left fun j hj => wrapNumber_eq h1 h2 (by rw [List.mem_range] at hj; omega)
  unfold Store.takeNumber
  simp only [tries, List.find?_map]
  rw [show (fun n => !allSlots.any (st.holds n)) ∘ triedNumber st.nextNumber = st.open from rfl, hk]
  rfl

/-- R153: the number after the one taken, back at 1 behind 65535. -/
theorem wrapNumber_next (first k : Nat) : wrapNumber (triedNumber first k + 1) = triedNumber first k % 65535 + 1 := by
  unfold wrapNumber triedNumber; split <;> omega

/-- R156: the time held for a subscription. -/
theorem State.networkTime_eq (s : State) (x : Sub) : s.networkTime x =
    match (s.sub x).camped, (s.sub x).search with
    | some c, _ => c.params.time
    | none, .candidate c _ _ _ => c.params.time
    | none, _ => 0 := by
  unfold State.networkTime
  cases (s.sub x).camped with
  | some c => rfl
  | none => cases (s.sub x).search <;> rfl

/-- R156: a write starts with the number and the time that it takes. -/
theorem State.beginOp_write (s : State) (p : SlotId) (m : Message) : s.beginOp (.write p m) =
    let written : Message :=
      { m with header := { m.header with number := s.store.takeNumber, time := s.networkTime m.header.sub } }
    { s with store := { s.store with
      running := some { op := .write p written, accumulated := 0, since := some s.now }
      nextNumber := wrapNumber (s.store.takeNumber + 1) } } := rfl

/-- The queue has no part in the number. -/
theorem Store.takeNumber_queue (st : Store) (queue : List StoreOp) : ({ st with queue := queue } : Store).takeNumber = st.takeNumber :=
  rfl

/-- Settles O55: the operation that starts is `Store.nextOp`'s, and a write takes `Store.takeNumber`'s number. -/
theorem theOldestOperationStarts : Obligations.TheOldestOperationStarts := by
  intro s hp hh hr hw hq running
  have ht := State.transmitting_false hw
  refine ⟨fun o pre post hops first hwrite => ?_, fun p m pre post hops steps h1 h2 => ?_, fun hempty => ?_⟩
  · rw [exec_storeOperationStart hp hh hr ht hops first, State.beginOp_other hwrite]
    exact settle_quiet hq
  · obtain ⟨k, hk, held, free, taken⟩ := Store.takeNumber_eq h1 h2
    refine ⟨k, hk, held, free, ?_⟩
    rw [exec_storeOperationStart hp hh hr ht hops (.inl ⟨steps, rfl⟩), State.beginOp_write, Store.takeNumber_queue, taken,
      wrapNumber_next, State.networkTime_eq]
    exact settle_quiet hq
  · have idle : ¬(s.mayStart = true ∧ s.store.startable = true) := by simp [Store.startable, hempty]
    exact if_neg idle

end Sys2Proof.Machine
end

section
/-! SUPPORT. The store's operations end (R147 to R149, R156 to R163): the command that ends one, and what a program or mark that
failed leaves. -/

namespace Sys2Proof.Machine

open Sys2Proof

/-! ### An operation that has run for its duration (R154) -/

/-- An operation runs, has run for its duration, and no reset is on its way. -/
structure State.ends (s : State) (o : StoreOp) : Prop where
  run : s.power.state = .run
  released : s.power.held = false
  going : s.power.wait ≠ .stopping
  due : ∃ a u, s.store.running = some { op := o, accumulated := a, since := some u } ∧ o.duration ≤ a + (s.now - u).toNat

theorem State.ends.endingOp {s : State} {o : StoreOp} (h : s.ends o) : s.endingOp = some o := by
  obtain ⟨hrun, hheld, -, a, u, hop, hdue⟩ := h
  have due : s.opDue = true := by
    simp only [State.opDue, hop, Option.isSome_some, Bool.true_and, decide_eq_true_eq]
    exact hdue
  simp [State.endingOp, hrun, hheld, due, hop]

theorem State.ends.whileStopping {s : State} {o : StoreOp} (h : s.ends o) (t : State) : s.whileStopping t o = t :=
  if_neg h.going

section
variable {s : State} (verified : Bool)

theorem exec_slotProgramEnd_write {p : SlotId} {m : Message} (h : s.ends (.write p m)) :
    exec (.slotProgramEnd verified) s = settle (s.opOver.writeEnded p m verified) := by
  unfold exec execSlotProgramEnd
  simp only [h.endingOp, h.whileStopping]

theorem exec_slotProgramEnd_keep {n : Nat} {src p : SlotId} {t : Nat} (h : s.ends (.keepCopy n src p t)) :
    exec (.slotProgramEnd verified) s = settle (s.opOver.keepEnded n src p t verified) := by
  unfold exec execSlotProgramEnd
  simp only [h.endingOp, h.whileStopping]

theorem exec_slotProgramEnd_reloc {n : Nat} {src p : SlotId} {drop : Bool} (h : s.ends (.relocCopy n src p drop)) :
    exec (.slotProgramEnd verified) s = settle (s.opOver.relocationEnded n src p drop verified) := by
  unfold exec execSlotProgramEnd
  simp only [h.endingOp, h.whileStopping]

theorem exec_markProgramEnd_mark {p : SlotId} {why : MarkReason} (h : s.ends (.mark p why)) :
    exec (.markProgramEnd verified) s = settle (s.opOver.markEnded p why verified) := by
  unfold exec execMarkProgramEnd
  simp only [h.endingOp, h.whileStopping]

theorem exec_markProgramEnd_retire {b : Nat} (h : s.ends (.retireMark b)) :
    exec (.markProgramEnd verified) s = settle (s.opOver.retireMarkEnded b verified) := by
  unfold exec execMarkProgramEnd
  simp only [h.endingOp, h.whileStopping]

theorem exec_blockEraseEnd {b : Nat} {repair : Bool} (h : s.ends (.erase b repair)) :
    exec (.blockEraseEnd verified) s = settle (s.opOver.eraseEnded b repair verified) := by
  unfold exec execBlockEraseEnd
  simp only [h.endingOp, h.whileStopping]

theorem exec_settingsRewriteEnd {d : Descriptor} {t : Nat} (h : s.ends (.settings d t)) :
    exec (.settingsRewriteEnd verified) s = settle (s.opOver.settingsEnded d t verified) := by
  unfold exec execSettingsRewriteEnd
  simp only [h.endingOp, h.whileStopping]

end

/-! ### What a failure leaves (R157) -/

/-- R157: what an operation leaves lies in the memory, whichever operation runs. -/
theorem Store.leave_frame (st : Store) (o : StoreOp) (left : Nat) (cut : Bool) (r : Option Running) :
    ({ st with running := r } : Store).leave o left cut = { st with flash := (st.leave o left cut).flash, running := r } := by
  have read (src : SlotId) : ({ st with running := r } : Store).messageAt src = st.messageAt src := rfl
  cases o with
  | keepCopy n src p t => simp only [Store.leave, read]; cases st.messageAt src <;> rfl
  | relocCopy n src p drop => simp only [Store.leave, read]; cases st.messageAt src <;> rfl
  | erase b repair =>
    unfold Store.leave
    dsimp only
    split
    · rfl
    · split <;> rfl
  | _ => rfl

theorem Store.leave_eq (st : Store) (o : StoreOp) (left : Nat) (cut : Bool) :
    st.leave o left cut = { st with flash := (st.leave o left cut).flash } :=
  st.leave_frame o left cut st.running

/-- R157: an operation that failed changes the memory alone, by a free value (log 3). -/
theorem State.leaveFailed_eq (s : State) (o : StoreOp) : s.opOver.leaveFailed o = { s with
    reports := s.reports ++ [.storeChanged]
    draws := s.draws + 1
    store := { s.store with flash := (s.store.leave o (Config.leftover s.draws).val false).flash, running := none } } :=
  congrArg (fun st => { s with reports := s.reports ++ [Report.storeChanged], draws := s.draws + 1, store := st })
    (s.store.leave_frame o (Config.leftover s.draws).val false none)

/-- R157: a program or mark that failed. -/
theorem State.programFailed_eq (s : State) (o : StoreOp) (p : SlotId) :
    s.opOver.programFailed o p = { s.failedAt o p with reports := s.reports ++ [.storeChanged] ++ [.storeChanged] } := by
  unfold State.programFailed State.failedAt
  rw [State.leaveFailed_eq, s.store.leave_eq]
  rfl

/-! ### A command that ends an operation (R154) -/

/-- The command leaves the state v, but for what the store's examinations then change. -/
def State.leaves (s : State) (c : Instr) (v : State) : Prop :=
  ¬v.store.stuck → ∃ t : State, exec c s = .next t ∧ v.examined t

/-- A command whose action raised only reports that the store changed. -/
theorem State.leaves_of {s v : State} {c : Instr} {rs : List Report} (ho : exec c s = settle { v with reports := s.reports ++ rs })
    (hq : s.quiet) (hv : v.reports = s.reports) (hr : ∀ r ∈ rs, r = .storeChanged) (hn : rs.length ≤ 16) : s.leaves c v := by
  have empty : s.reports = [] := hq
  rw [empty, List.nil_append] at ho
  exact fun hs => settle_examined_state ho (hv.trans empty) hn hs hr

/-- The same with usable slots that rose in number, while nothing waits for them. -/
theorem State.leaves_of_rose {s v : State} {c : Instr} {rs : List Report}
    (ho : exec c s = settle { v with reports := s.reports ++ rs }) (hq : s.quiet) (hv : v.reports = s.reports)
    (hr : ∀ r ∈ rs, r = .storeChanged ∨ r = .usableRose) (hn : rs.length ≤ 16)
    (hm : ∀ x, (v.sub x).memoryFull = false) (ht : ∀ e ∈ v.text.table, e.unwritten = false) : s.leaves c v := by
  have empty : s.reports = [] := hq
  rw [empty, List.nil_append] at ho
  exact fun hs => settle_examined_state_rose ho (hv.trans empty) hn hs hr hm ht

/-- R180: the answer to the oldest reserved position. -/
theorem State.refuse_first {s : State} {r : Reserved} {rest : List Reserved} {t : Nat} (h : s.link.reserved = r :: rest)
    (ht : r.ticket = t) (st : Status) : s.refuse t st = s.filledBy [] r rest st := by
  unfold State.refuse State.answer
  simp only [h, List.find?_cons, ht, decide_true, State.modLink, List.eraseP_cons_of_pos]
  rfl

/-! ### A write (R147, R148, R156) -/

/-- R147, R144: the state in which the entry of a message written has left the reassembly table and the recent record has come. -/
def State.entryWritten (s : State) (p : SlotId) (e : Reassembly) (number : Nat) : State := { s with
  text := { s.text with
    table := s.text.table.filter fun f => decide (f.slot ≠ some p)
    recent :=
      let now : Recent :=
        { sub := e.sub, sender := e.sender, reference := e.reference, parts := e.parts.map Prod.fst, number := number }
      (s.text.recent ++ [now]).drop (s.text.recent.length + 1 - 4)
    subs := s.text.subs.set e.sub { s.textOf e.sub with
      received := min ((s.textOf e.sub).received + 1) 255, latest := some number
      incomplete := if e.closing = some .incomplete then min ((s.textOf e.sub).incomplete + 1) 255
        else (s.textOf e.sub).incomplete } } }

/-- R148: the state in which the entries of a slot have another one, or are UNWRITTEN. -/
def State.entryMoved (s : State) (p : SlotId) (fresh : Option SlotId) : State := { s with
  text := { s.text with
    table := s.text.table.map fun f => if f.slot = some p then { f with slot := fresh, unwritten := fresh.isNone } else f } }

section
variable {s : State} {p : SlotId} {e : Reassembly} (he : (s.text.table.find? fun f => decide (f.slot = some p)) = some e)
include he

theorem State.writeDone_found (number : Nat) : s.writeDone p number = (s.entryWritten p e number).postText e.sub 2 := by
  unfold State.writeDone
  simp only [he, newest, List.length_append, List.length_singleton]
  rfl

theorem State.writeFailed_found (fresh : Option SlotId) : s.writeFailed p fresh = match fresh with
    | some q => (s.entryMoved p (some q)).queueOp (.write q e.message)
    | none => (s.entryMoved p none).postText e.sub 8 := by
  unfold State.writeFailed
  simp only [he, State.modTable, decide_eq_true_eq]
  cases fresh <;> rfl

end

theorem State.reserve_some {s : State} {q : SlotId} (h : allSlots.find? s.store.usable = some q) :
    s.reserve = (some q, s.storeNow fun st => st.setState q .reserved) := by
  unfold State.reserve; rw [h]

theorem State.reserve_none {s : State} (h : allSlots.find? s.store.usable = none) : s.reserve = (none, s) := by
  unfold State.reserve; rw [h]

section
variable {s : State} {p : SlotId} {m : Message} {e : Reassembly} (h : s.ends (.write p m)) (hq : s.quiet)
  (he : (s.text.table.find? fun f => decide (f.slot = some p)) = some e)
include h hq he

/-- R147, R156: a write that verified. -/
theorem leaves_write_verified : s.leaves (.slotProgramEnd true)
    ((State.entryWritten { s with store :=
      { ((s.store.setCell p (.written m)).setState p .live) with running := none } } p e m.header.number).postText e.sub 2) :=
  State.leaves_of (rs := [.storeChanged, .storeChanged])
    ((exec_slotProgramEnd_write true h).trans
      (congrArg settle ((State.writeDone_found (s := s.opOver.programmed p m .live) he m.header.number).trans (by
        simp only [State.entryWritten, State.postText, State.post, State.modLink, State.programmed, State.opOver, State.storeNow,
          State.modStore, State.report, List.append_assoc]
        rfl))))
    hq rfl (by simp) (by simp)

/-- R148: a write that failed, while another slot is usable. -/
theorem leaves_write_failed {q : SlotId} (hf : allSlots.find? (s.failedAt (.write p m) p).store.usable = some q) :
    s.leaves (.slotProgramEnd false) (State.queueOp { (s.failedAt (.write p m) p).entryMoved p (some q) with
      store := (s.failedAt (.write p m) p).store.setState q .reserved } (.write q e.message)) := by
  have ended : s.opOver.writeEnded p m false = ((s.opOver.programFailed (.write p m) p).storeNow fun st =>
      st.setState q .reserved).writeFailed p (some q) := by
    have fresh : allSlots.find? (s.opOver.programFailed (.write p m) p).store.usable = some q := by
      rw [State.programFailed_eq]; exact hf
    unfold State.writeEnded
    simp only [Bool.false_eq_true, if_false, State.reserve_some fresh]
  rw [State.programFailed_eq] at ended
  refine State.leaves_of (rs := [.storeChanged, .storeChanged, .storeChanged]) ((exec_slotProgramEnd_write false h).trans
    (congrArg settle (ended.trans ((State.writeFailed_found (e := e) (by exact he) _).trans ?_)))) hq rfl (by simp) (by simp)
  simp only [State.entryMoved, State.queueOp, State.modStore, State.storeNow, State.report, List.append_assoc]
  rfl

/-- R148: a write that failed, without a usable slot. -/
theorem leaves_write_unwritten (hf : allSlots.find? (s.failedAt (.write p m) p).store.usable = none) :
    s.leaves (.slotProgramEnd false) (((s.failedAt (.write p m) p).entryMoved p none).postText e.sub 8) := by
  have ended : s.opOver.writeEnded p m false = (s.opOver.programFailed (.write p m) p).writeFailed p none := by
    have fresh : allSlots.find? (s.opOver.programFailed (.write p m) p).store.usable = none := by
      rw [State.programFailed_eq]; exact hf
    unfold State.writeEnded
    simp only [Bool.false_eq_true, if_false, State.reserve_none fresh]
  rw [State.programFailed_eq] at ended
  refine State.leaves_of (rs := [.storeChanged, .storeChanged]) ((exec_slotProgramEnd_write false h).trans
    (congrArg settle (ended.trans ((State.writeFailed_found (e := e) (by exact he) _).trans ?_)))) hq rfl (by simp) (by simp)
  simp only [State.entryMoved, State.postText, State.post, State.modLink, List.append_assoc]
  rfl

end

/-! ### KEEP and relocation copies (R159, R162) -/

/-- R157: a program that failed leaves the operation queue. -/
theorem State.failedAt_queue (s : State) (o : StoreOp) (p : SlotId) : (s.failedAt o p).store.queue = s.store.queue :=
  (congrArg Store.queue (s.store.leave_eq o (Config.leftover s.draws).val false) :)

section
variable {s : State} {n : Nat} {src p : SlotId} {m : Message} (hm : s.store.messageAt src = some m)
include hm

theorem State.keepEnded_verified (t : Nat) : s.opOver.keepEnded n src p t true =
    ((s.opOver.programmed p m .live).storeNow fun st => st.setState src .deleted).queueFirst (.mark src (.keep t)) := by
  unfold State.keepEnded
  rw [show s.opOver.store.messageAt src = some m from hm]
  rfl

theorem State.keepEnded_failed (t : Nat) : s.opOver.keepEnded n src p t false =
    let o : StoreOp := .keepCopy n src p t
    let v : State := { s.failedAt o p with reports := s.reports ++ [.storeChanged] ++ [.storeChanged] }
    match (s.failedAt o p).store.keepTarget with
    | some q => (v.queueOp (.keepCopy n src q t)).report .storeChanged
    | none => v.refuse t .noRoom := by
  unfold State.keepEnded
  rw [show s.opOver.store.messageAt src = some m from hm]
  simp only [State.programFailed_eq]
  rfl

theorem State.relocationEnded_verified (drop : Bool) : s.opOver.relocationEnded n src p drop true =
    if drop then (s.opOver.programmed p m .deleted).queueOp (.mark p .relocation)
    else ((s.opOver.programmed p m .live).storeNow fun st => st.setState src .deleted).queueFirst (.mark src .relocation) := by
  unfold State.relocationEnded
  rw [show s.opOver.store.messageAt src = some m from hm]
  rfl

theorem State.relocationEnded_failed (drop : Bool) : s.opOver.relocationEnded n src p drop false =
    s.opOver.programFailed (.relocCopy n src p drop) p := by
  unfold State.relocationEnded
  rw [show s.opOver.store.messageAt src = some m from hm]
  rfl

variable (hq : s.quiet)
include hq

/-- R159: a KEEP copy that verified. -/
theorem leaves_keep_verified {t : Nat} (h : s.ends (.keepCopy n src p t)) : s.leaves (.slotProgramEnd true) { s with
    store := { ((s.store.setCell p (.written m)).setState p .live).setState src .deleted with
      queue := .mark src (.keep t) :: s.store.queue, running := none } } := by
  refine State.leaves_of (rs := [.storeChanged, .storeChanged, .storeChanged])
    ((exec_slotProgramEnd_keep true h).trans (congrArg settle ((State.keepEnded_verified hm t).trans ?_))) hq rfl (by simp) (by simp)
  simp only [State.programmed, State.opOver, State.queueFirst, State.storeNow, State.modStore, State.report, List.append_assoc]
  rfl

/-- R159: a KEEP copy that failed takes the next target. -/
theorem leaves_keep_failed {t : Nat} (h : s.ends (.keepCopy n src p t)) {q : SlotId}
    (hf : (s.failedAt (.keepCopy n src p t) p).store.keepTarget = some q) : s.leaves (.slotProgramEnd false)
      { s.failedAt (.keepCopy n src p t) p with
        store := { (s.failedAt (.keepCopy n src p t) p).store with queue := s.store.queue ++ [.keepCopy n src q t] } } := by
  refine State.leaves_of (rs := [.storeChanged, .storeChanged, .storeChanged])
    ((exec_slotProgramEnd_keep false h).trans (congrArg settle ((State.keepEnded_failed hm t).trans ?_))) hq rfl (by simp) (by simp)
  simp only [hf, State.queueOp, State.modStore, State.report, State.failedAt_queue, List.append_assoc]
  rfl

/-- R159: a KEEP copy that failed without a further target is answered NO_ROOM. -/
theorem leaves_keep_refused {t : Nat} (h : s.ends (.keepCopy n src p t))
    (hf : (s.failedAt (.keepCopy n src p t) p).store.keepTarget = none) {r : Reserved} {rest : List Reserved}
    (hr : s.link.reserved = r :: rest) (ht : r.ticket = t) :
    s.leaves (.slotProgramEnd false) ((s.failedAt (.keepCopy n src p t) p).filledBy [] r rest .noRoom) := by
  refine State.leaves_of (rs := [.storeChanged, .storeChanged])
    ((exec_slotProgramEnd_keep false h).trans (congrArg settle ((State.keepEnded_failed hm t).trans ?_))) hq rfl (by simp) (by simp)
  simp only [hf]
  refine (State.refuse_first (by exact hr) ht _).trans ?_
  simp only [State.filledBy, List.append_assoc]
  rfl

/-- R162: a relocation copy that verified. -/
theorem leaves_reloc_verified (h : s.ends (.relocCopy n src p false)) : s.leaves (.slotProgramEnd true) { s with
    store := { ((s.store.setCell p (.written m)).setState p .live).setState src .deleted with
      queue := .mark src .relocation :: s.store.queue, running := none } } := by
  refine State.leaves_of (rs := [.storeChanged, .storeChanged, .storeChanged]) ((exec_slotProgramEnd_reloc true h).trans
    (congrArg settle ((State.relocationEnded_verified hm false).trans ?_))) hq rfl (by simp) (by simp)
  simp only [State.programmed, State.opOver, State.queueFirst, State.storeNow, State.modStore, State.report, List.append_assoc]
  rfl

/-- R160: a relocation copy of a message deleted meanwhile. -/
theorem leaves_reloc_dropped (h : s.ends (.relocCopy n src p true)) : s.leaves (.slotProgramEnd true) { s with
    store := { (s.store.setCell p (.written m)).setState p .deleted with
      queue := s.store.queue ++ [.mark p .relocation], running := none } } := by
  refine State.leaves_of (rs := [.storeChanged, .storeChanged]) ((exec_slotProgramEnd_reloc true h).trans
    (congrArg settle ((State.relocationEnded_verified hm true).trans ?_))) hq rfl (by simp) (by simp)
  simp only [if_true, State.programmed, State.opOver, State.queueOp, State.storeNow, State.modStore, State.report, List.append_assoc]
  rfl

/-- R157: a relocation copy that failed. -/
theorem leaves_reloc_failed {drop : Bool} (h : s.ends (.relocCopy n src p drop)) :
    s.leaves (.slotProgramEnd false) (s.failedAt (.relocCopy n src p drop) p) := by
  refine State.leaves_of (rs := [.storeChanged, .storeChanged]) ((exec_slotProgramEnd_reloc false h).trans
    (congrArg settle ((State.relocationEnded_failed hm drop).trans ?_))) hq rfl (by simp) (by simp)
  simp only [State.programFailed_eq, List.append_assoc]
  rfl

end

/-! ### Marks (R157, R160, R163) -/

/-- R160: the state in which a verified mark has made its slot DELETED. -/
def State.marked (s : State) (p : SlotId) : State := { s with
  store := { ((s.store.setCell p { s.store.cellAt p with deleted := true }).setState p .deleted) with running := none } }

section
variable {s : State} {p : SlotId} {why : MarkReason}

theorem State.markEnded_verified : s.opOver.markEnded p why true =
    State.markAnswered { s.marked p with reports := s.reports ++ [.storeChanged] ++ [.storeChanged] } why := rfl

theorem State.markEnded_failed : s.opOver.markEnded p why false =
    State.markAnswered { s.failedAt (.mark p why) p with reports := s.reports ++ [.storeChanged] ++ [.storeChanged] } why :=
  congrArg (State.markAnswered · why) (s.programFailed_eq (.mark p why) p)

/-- A mark that no request waits for answers nothing. -/
theorem State.markAnswered_none (t : State) (hw : why = .relocation ∨ why = .repair) : t.markAnswered why = t := by
  rcases hw with rfl | rfl <;> rfl

/-- The request that waits for a mark is answered. -/
theorem State.markAnswered_first {t : State} {r : Reserved} {rest : List Reserved} (hr : t.link.reserved = r :: rest)
    (hw : why = .delete [r.ticket] ∨ why = .keep r.ticket) : t.markAnswered why = t.filledBy [] r rest .done := by
  rcases hw with rfl | rfl <;> exact State.refuse_first hr rfl .done

variable (h : s.ends (.mark p why)) (hq : s.quiet)
include h

theorem exec_mark_verified : exec (.markProgramEnd true) s = settle
    (State.markAnswered { s.marked p with reports := s.reports ++ [.storeChanged, .storeChanged] } why) := by
  rw [exec_markProgramEnd_mark true h, State.markEnded_verified, List.append_assoc]
  rfl

theorem exec_mark_failed : exec (.markProgramEnd false) s = settle
    (State.markAnswered { s.failedAt (.mark p why) p with reports := s.reports ++ [.storeChanged, .storeChanged] } why) := by
  rw [exec_markProgramEnd_mark false h, State.markEnded_failed, List.append_assoc]
  rfl

include hq

/-- R160, R162: a mark that no request waits for. -/
theorem leaves_mark (hw : why = .relocation ∨ why = .repair) :
    s.leaves (.markProgramEnd true) (s.marked p) ∧ s.leaves (.markProgramEnd false) (s.failedAt (.mark p why) p) :=
  ⟨State.leaves_of ((exec_mark_verified h).trans (congrArg settle (State.markAnswered_none _ hw))) hq rfl (by simp) (by simp),
    State.leaves_of ((exec_mark_failed h).trans (congrArg settle (State.markAnswered_none _ hw))) hq rfl (by simp) (by simp)⟩

/-- R159, R160: a mark that a request waits for. -/
theorem leaves_mark_answered {r : Reserved} {rest : List Reserved} (hr : s.link.reserved = r :: rest)
    (hw : why = .delete [r.ticket] ∨ why = .keep r.ticket) :
    s.leaves (.markProgramEnd true) ((s.marked p).filledBy [] r rest .done) ∧
      s.leaves (.markProgramEnd false) ((s.failedAt (.mark p why) p).filledBy [] r rest .done) :=
  ⟨State.leaves_of (rs := [.storeChanged, .storeChanged])
      ((exec_mark_verified h).trans (congrArg settle (State.markAnswered_first (by exact hr) hw))) hq rfl (by simp) (by simp),
    State.leaves_of (rs := [.storeChanged, .storeChanged])
      ((exec_mark_failed h).trans (congrArg settle (State.markAnswered_first (by exact hr) hw))) hq rfl (by simp) (by simp)⟩

end

/-! ### The next step of a reclaim (R162) -/

/-- A slot's memory changed with its message kept leaves every message. -/
theorem Store.messageAt_setCell {st : Store} {p : SlotId} {c : Cell} (hc : c.message = st.messageAt p) (q : SlotId) :
    (st.setCell p c).messageAt q = st.messageAt q := by
  unfold Store.messageAt Store.setCell Store.cellAt at *
  simp only [List.getElem?_modify]
  cases hb : st.flash.blocks[q.block]? with
  | none => rfl
  | some k =>
    by_cases hblock : p.block = q.block
    · rw [hblock, hb] at hc
      simp only [hblock, if_true, Option.map_eq_map, Option.map_some]
      by_cases hslot : p.slot = q.slot
      · rw [hslot] at hc ⊢
        by_cases hlt : q.slot < k.cells.length
        · simpa [List.getElem?_set, hlt] using hc
        · simp [hlt]
      · simp [hslot]
    · simp [hblock]

/-- R162: the step that follows when no operation stands. -/
def Store.stepAfter (st : Store) (b : Nat) : List StoreOp :=
  match st.toMove b with
  | [] => if st.countIn b .live = 0 then [.erase b false] else []
  | q :: _ => ((allSlots.find? st.usable).map fun f =>
      .relocCopy (((st.messageAt q).map fun m => m.header.number).getD 0) q f false).toList

theorem Store.markPending_of_none {st : Store} (h : st.ops = []) (p : SlotId) : st.markPending p = false := by
  simp [Store.markPending, h]

/-- R162: a reclaim in progress is not examined anew. -/
theorem State.takeReport_reclaiming {s : State} {b : Nat} (hb : s.store.reclaim = some b) :
    s.takeReport .storeChanged = s.examineSpace.planReclaim := by
  obtain ⟨roomy, hr⟩ := s.examineSpace_store
  have stands : s.examineSpace.store.reclaim ≠ none := by rw [hr]; simp [hb]
  have same : s.examineSpace.examineReclaim = s.examineSpace := if_neg fun h => stands h.2.2.1
  exact congrArg State.planReclaim same

/-- R162: nothing is planned while a step stands, or while none can be taken. -/
theorem State.planReclaim_rests {s : State} {b : Nat} (hb : s.store.reclaim = some b)
    (h : s.store.stepping = true ∨ s.store.reclaimStep b = none) : s.planReclaim = s := by
  unfold State.planReclaim
  simp only [hb]
  split
  · rfl
  next hs => rw [h.resolve_left hs]

/-- Reports that the store changed leave the queue when nothing is to be planned. -/
theorem drain_rests (n : Nat) {s : State} {b : Nat} (hr : ∀ r ∈ s.reports, r = .storeChanged) (hb : s.store.reclaim = some b)
    (h : s.store.stepping = true ∨ s.store.reclaimStep b = none) : (s.drain n).store.queue = s.store.queue := by
  induction n generalizing s with
  | zero => rfl
  | succ n ih =>
    unfold State.drain
    split
    · rfl
    next r rest heq =>
      obtain rfl := hr r (by simp [heq])
      obtain ⟨roomy, hs⟩ := State.examineSpace_store { s with reports := rest }
      have told : (State.examineSpace { s with reports := rest }).reports = rest := by
        rw [(State.examineSpace_examined _).1]
      rw [State.takeReport_reclaiming (s := { s with reports := rest }) hb, State.planReclaim_rests (by rw [hs]; exact hb) (by rw [hs]; exact h),
        ih (by rw [told]; exact fun r h => hr r (by simp [heq, h])) (by rw [hs]; exact hb) (by rw [hs]; exact h), hs]

/-- R162: the step planned when no operation stands, and nothing is to be planned behind it. -/
theorem State.planReclaim_steps {s : State} {b : Nat} (hb : s.store.reclaim = some b) (ho : s.store.ops = [])
    (hs : ¬s.store.stuck) (hr : ∀ r ∈ s.reports, r = .storeChanged) :
    s.planReclaim.store.queue = s.store.stepAfter b ∧ s.planReclaim.store.reclaim = some b ∧
      (∀ r ∈ s.planReclaim.reports, r = .storeChanged) ∧
      (s.planReclaim.store.stepping = true ∨ s.planReclaim.store.reclaimStep b = none) := by
  have none_stands : s.store.stepping = false := by simp [Store.stepping, ho]
  have none_waits : s.store.queue = [] := by
    unfold Store.ops at ho
    split at ho
    · cases ho
    · exact ho
  have unmarked (p : SlotId) : s.store.markPending p = false := Store.markPending_of_none ho p
  unfold Store.stepAfter
  cases hm : s.store.toMove b with
  | nil =>
    by_cases hl : s.store.countIn b .live = 0
    · have step : s.store.reclaimStep b = some .erase := by simp [Store.reclaimStep, hm, hl, unmarked]
      have plan : s.planReclaim = s.queueOp (.erase b false) := by
        unfold State.planReclaim; simp only [hb, none_stands, step]; rfl
      rw [plan]
      exact ⟨by simp [State.queueOp, State.modStore, none_waits, hl], hb, hr,
        .inl (Store.stepping_snoc (b := s.store) (o := .erase b false) rfl rfl)⟩
    · have step : s.store.reclaimStep b = none := by simp [Store.reclaimStep, hm, hl]
      rw [State.planReclaim_rests hb (.inr step)]
      exact ⟨by simp [hl, none_waits], hb, hr, .inr step⟩
  | cons q qs =>
    have step : s.store.reclaimStep b = some .relocate := by simp [Store.reclaimStep, hm]
    obtain ⟨f, hf⟩ : ∃ f, allSlots.find? s.store.usable = some f := by
      refine Option.ne_none_iff_exists'.1 fun full => hs ⟨b, hb, none_stands, by simp [hm], ?_⟩
      exact List.countP_eq_zero.2 (List.find?_eq_none.1 full)
    have plan : s.planReclaim =
        (s.queueOp (.relocCopy (((s.store.messageAt q).map fun m => m.header.number).getD 0) q f false)).report .storeChanged := by
      unfold State.planReclaim; simp only [hb, none_stands, step, hm, hf]; rfl
    rw [plan, hf]
    refine ⟨by simp [State.queueOp, State.modStore, State.report, none_waits], hb, ?_,
      .inl (Store.stepping_snoc (b := s.store) (o := .relocCopy _ q f false) rfl rfl)⟩
    simpa [State.queueOp, State.modStore, State.report, or_imp, forall_and] using hr

/-- R162, log 81: the step queued once the store has examined what a command left. -/
theorem settle_steps {s : State} {b : Nat} {rest : List Report} (hq : s.reports = .storeChanged :: rest)
    (hb : s.store.reclaim = some b) (ho : s.store.ops = []) (hs : ¬s.store.stuck) (hr : ∀ r ∈ rest, r = .storeChanged) :
    ∃ t : State, settle s = .next t ∧ t.store.queue = s.store.stepAfter b := by
  refine ⟨_, rfl, ?_⟩
  obtain ⟨roomy, hroomy⟩ := State.examineSpace_store { s with reports := rest }
  have told : (State.examineSpace { s with reports := rest }).reports = rest := by rw [(State.examineSpace_examined _).1]
  obtain ⟨queue, stands, raised, rests⟩ := State.planReclaim_steps (s := State.examineSpace { s with reports := rest }) (b := b)
    (by rw [hroomy]; exact hb) (by rw [hroomy]; exact ho) (by rw [hroomy]; exact hs) (by rw [told]; exact hr)
  have first : s.drain settleBound =
      State.drain 4095 (State.takeReport { s with reports := rest } .storeChanged) := by
    change State.drain (4095 + 1) s = _
    rw [State.drain, hq]
  rw [first, State.takeReport_reclaiming (s := { s with reports := rest }) hb, drain_rests _ raised stands rests, queue, hroomy]
  rfl

/-- R162: behind a relocation's mark the next step of the reclaim is queued. -/
theorem exec_mark_steps {s : State} {p : SlotId} {b : Nat} (h : s.ends (.mark p .relocation)) (hq : s.quiet)
    (hb : s.store.reclaim = some b) (ho : s.store.queue = []) (hs : ¬(s.marked p).store.stuck) :
    ∃ t : State, exec (.markProgramEnd true) s = .next t ∧ t.store.queue = (s.marked p).store.stepAfter b := by
  have empty : s.reports = [] := hq
  rw [exec_mark_verified h]
  exact settle_steps (s := { s.marked p with reports := s.reports ++ [.storeChanged, .storeChanged] })
    (rest := [.storeChanged]) (by simp [empty]) hb ho hs (by simp)

theorem Store.messageAt_marked (s : State) (p q : SlotId) : (s.marked p).store.messageAt q = s.store.messageAt q :=
  Store.messageAt_setCell (st := s.store) (c := { s.store.cellAt p with deleted := true }) rfl q

/-- R157: what a failed operation leaves in the memory, once it is over. -/
theorem State.leaveFailed_leave (s : State) (o : StoreOp) : s.opOver.leaveFailed o = { s with
    reports := s.reports ++ [.storeChanged]
    draws := s.draws + 1
    store := { (s.store.leave o (Config.leftover s.draws).val false) with running := none } } := by
  rw [State.leaveFailed_eq, s.store.leave_eq]

/-! ### RETIRED marks (R157, R163) -/

section
variable {s : State} {b : Nat} (h : s.ends (.retireMark b)) (hq : s.quiet)
include h hq

theorem leaves_retireMark_verified : s.leaves (.markProgramEnd true) { s with
    store := { s.store.modBlock b fun k => { k with retired := true, readable := true } with running := none } } :=
  State.leaves_of (rs := [.storeChanged]) (exec_markProgramEnd_retire true h) hq rfl (by simp) (by simp)

theorem leaves_retireMark_failed : s.leaves (.markProgramEnd false) (State.postStore { s with
    draws := s.draws + 1
    store := { s.store.leave (.retireMark b) (Config.leftover s.draws).val false with running := none } } 4) :=
  State.leaves_of (rs := [.storeChanged]) ((exec_markProgramEnd_retire false h).trans
    (congrArg settle ((congrArg State.storeFault (State.leaveFailed_leave ..)).trans (by rfl)))) hq rfl (by simp) (by simp)

end

/-! ### Erases (R157, R162, R163) -/

/-- R162: the store in which a block has been erased. -/
def Store.afterErase (st : Store) (b : Nat) : Store :=
  { (st.modBlock b FlashBlock.erased).setBlock b .free with running := none }

/-- R157: the store in which the erase of a block has failed. -/
def Store.afterFailedErase (st : Store) (b : Nat) (repair : Bool) (left : Nat) : Store :=
  { (st.leave (.erase b repair) left false) with
    index := st.index.set b (List.replicate 8 .retired)
    retired := if b ∈ st.retired then st.retired else st.retired ++ [b]
    queue := .retireMark b :: st.queue
    running := none }

/-- R162: the state in which a reclaim has ended. -/
def State.reclaimOver (s : State) : State :=
  State.postStore { s with store := { s.store with reclaim := none, queue := s.store.queue.filter fun o => !o.isStep } } 2

theorem State.endReclaim_eq (s : State) :
    s.endReclaim = { s.reclaimOver with reports := s.reports ++ [.storeChanged] ++ [.usableRose] } := rfl

section
variable {s : State} {b : Nat} {repair : Bool}

theorem State.eraseEnded_verified : s.opOver.eraseEnded b repair true =
    let v : State := { s with
      store := s.store.afterErase b, reports := s.reports ++ [.storeChanged] ++ [.storeChanged] ++ [.usableRose] }
    if s.store.reclaim = some b then v.endReclaim else v := rfl

theorem State.eraseEnded_failed : s.opOver.eraseEnded b repair false =
    let v : State := State.postStore { s with
      draws := s.draws + 1, store := s.store.afterFailedErase b repair (Config.leftover s.draws).val
      reports := s.reports ++ [.storeChanged] ++ [.storeChanged] } 4
    if s.store.reclaim = some b then v.endReclaim else v := by
  unfold State.eraseEnded
  rw [State.leaveFailed_leave]
  unfold Store.afterFailedErase
  rw [s.store.leave_eq]
  simp only [Bool.false_eq_true, if_false, ← List.contains_iff_mem]
  rfl

variable (h : s.ends (.erase b repair)) (hq : s.quiet) (hm : ∀ x, (s.sub x).memoryFull = false)
  (ht : ∀ e ∈ s.text.table, e.unwritten = false)
include h hq hm ht

theorem leaves_erase (hb : s.store.reclaim ≠ some b) :
    s.leaves (.blockEraseEnd true) { s with store := s.store.afterErase b } ∧
    s.leaves (.blockEraseEnd false) (State.postStore { s with
      draws := s.draws + 1, store := s.store.afterFailedErase b repair (Config.leftover s.draws).val } 4) := by
  constructor
  · refine State.leaves_of_rose (rs := [.storeChanged, .storeChanged, .usableRose]) ?_ hq rfl (by simp) (by simp) hm ht
    rw [exec_blockEraseEnd true h, State.eraseEnded_verified]
    simp only [hb, if_false, List.append_assoc]
    rfl
  · refine State.leaves_of_rose (rs := [.storeChanged, .storeChanged]) ?_ hq rfl (by simp) (by simp) hm ht
    rw [exec_blockEraseEnd false h, State.eraseEnded_failed]
    simp only [hb, if_false, List.append_assoc]
    rfl

theorem leaves_erase_reclaim (hb : s.store.reclaim = some b) :
    s.leaves (.blockEraseEnd true) (State.reclaimOver { s with store := s.store.afterErase b }) ∧
    s.leaves (.blockEraseEnd false) (State.reclaimOver (State.postStore { s with
      draws := s.draws + 1, store := s.store.afterFailedErase b repair (Config.leftover s.draws).val } 4)) := by
  constructor
  · refine State.leaves_of_rose (rs := [.storeChanged, .storeChanged, .usableRose, .storeChanged, .usableRose]) ?_ hq rfl
      (by simp) (by simp) hm ht
    rw [exec_blockEraseEnd true h, State.eraseEnded_verified]
    simp only [hb, if_true, State.endReclaim_eq, List.append_assoc]
    rfl
  · refine State.leaves_of_rose (rs := [.storeChanged, .storeChanged, .storeChanged, .usableRose]) ?_ hq rfl
      (by simp) (by simp) hm ht
    rw [exec_blockEraseEnd false h, State.eraseEnded_failed]
    simp only [hb, if_true, State.endReclaim_eq]
    simp only [State.postStore, State.post, State.modLink, List.append_assoc]
    rfl

end

/-- R162: the memory of a block erased. -/
theorem Store.afterErase_eq {st : Store} {b : Nat} {k : FlashBlock} (hk : st.flash.blocks[b]? = some k) :
    st.afterErase b = { st with
      flash := { st.flash with blocks := st.flash.blocks.set b { k with
        erases := if k.readable then min (k.erases + 1) 65535 else 1
        readable := true
        cells := List.replicate 8 .erased } }
      index := st.index.set b (List.replicate 8 .free), running := none } := by
  have block : st.flash.blocks.modify b FlashBlock.erased = st.flash.blocks.set b k.erased := by
    rw [List.modify_eq_set_getElem?, hk]; rfl
  unfold Store.afterErase Store.modBlock
  rw [block]
  rfl

/-! ### Rewrites of the settings area (R157, R158) -/

/-- R158: the state in which a rewrite of the settings area is over. -/
def State.settingsOver (s : State) (d : Descriptor) (t : Nat) (verified : Bool) : State :=
  State.postStore { s with
    store := { s.store with
      flash := if verified then { s.store.flash with settings := some d }
        else (s.store.leave (.settings d t) (Config.leftover s.draws).val false).flash
      descriptor := d, fault := !verified, running := none }
    draws := if verified then s.draws else s.draws + 1 } (if verified then 16 else 24)

/-- R158: without a KEEP copy in the queue nothing is judged anew. -/
theorem State.rejudgeKeep_none (s : State) {l : List StoreOp} (h : ∀ n p q t, StoreOp.keepCopy n p q t ∉ l) :
    l.foldl State.rejudgeKeep s = s := by
  induction l with
  | nil => rfl
  | cons o l ih =>
    have this_one : s.rejudgeKeep o = s := by
      cases o with
      | keepCopy n p q t => exact absurd List.mem_cons_self (h n p q t)
      | _ => rfl
    rw [List.foldl_cons, this_one]
    exact ih fun n p q t hm => h n p q t (List.mem_cons_of_mem _ hm)

/-- R158: a rewrite that unprotects no block makes none usable. -/
theorem Store.unprotected_false {st : Store} {d : Descriptor} (h : ∀ b < 16, st.isProtected b = true → d.protects b = true) :
    st.unprotected d = false := by
  unfold Store.unprotected
  rw [List.any_eq_false]
  intro b hb
  by_cases hp : st.isProtected b = true
  · simp [h b (List.mem_range.1 hb) hp]
  · simp [hp]

theorem leaves_settings {s : State} {d : Descriptor} {t : Nat} {r : Reserved} {rest : List Reserved} (verified : Bool)
    (h : s.ends (.settings d t)) (hq : s.quiet) (hr : s.link.reserved = r :: rest) (ht : r.ticket = t)
    (hb : s.store.reclaim = none) (hk : ∀ n p q t, StoreOp.keepCopy n p q t ∉ s.store.queue)
    (hd : ∀ b < 16, s.store.isProtected b = true → d.protects b = true) :
    s.leaves (.settingsRewriteEnd verified) ((s.settingsOver d t verified).filledBy [] r rest .done) := by
  have still : s.opOver.store.unprotected d = false := Store.unprotected_false hd
  have ended : s.opOver.settingsEnded d t verified = { (s.settingsOver d t verified).filledBy [] r rest .done with
      reports := s.reports ++ [.storeChanged] ++ [.storeChanged] } := by
    unfold State.settingsEnded
    cases verified
    all_goals
      simp only [still, State.leaveFailed_eq, if_true, Bool.false_eq_true, if_false]
      rw [State.refuse_first (by exact hr) ht, State.rejudgeKeep_none _ (by exact hk)]
      split
      next b reclaims => exact nomatch hb.symm.trans reclaims
      next => rfl
  refine State.leaves_of (rs := [.storeChanged, .storeChanged])
    ((exec_settingsRewriteEnd verified h).trans (congrArg settle (ended.trans ?_))) hq rfl (by simp) (by simp)
  rw [List.append_assoc]
  rfl

/-! ### The ends of the store's operations -/

/-- Settles O56: the command ends the running operation (`State.ends`), and each kind of operation leaves what its own lemma says. -/
theorem storeOperationsEnd : Obligations.StoreOperationsEnd := by
  intro o a u s hp hh hw hrun hdue hq leaves programmed left
  have h : s.ends o := ⟨hp, hh, hw, a, u, hrun, hdue⟩
  refine ⟨?_, ?_, ?_, ?_, ?_, ?_, ?_⟩
  · rintro p m e rfl he
    exact ⟨⟨_, leaves_write_verified h hq he, rfl⟩, fun q hf => leaves_write_failed h hq he hf,
      fun hf => ⟨_, leaves_write_unwritten h hq he hf, rfl⟩⟩
  · rintro n src p ticket m rfl hm
    exact ⟨leaves_keep_verified hm hq h, fun q hf => leaves_keep_failed hm hq h hf,
      fun r rest hf hr ht => leaves_keep_refused hm hq h hf hr ht⟩
  · intro n src p m hm
    refine ⟨?_, ?_, ?_⟩
    · rintro rfl; exact leaves_reloc_verified hm hq h
    · rintro rfl; exact leaves_reloc_dropped hm hq h
    · rintro drop rfl; exact leaves_reloc_failed hm hq h
  · rintro p why rfl marked
    refine ⟨fun none_waits => ?_, fun r rest hr waits => leaves_mark_answered h hq hr waits⟩
    obtain ⟨verified, failed⟩ := leaves_mark h hq none_waits
    refine ⟨verified, failed, ?_⟩
    rintro b rfl - hb ho hs
    obtain ⟨t, ht, hqueue⟩ := exec_mark_steps h hq hb ho hs
    refine ⟨t, ht, hqueue.trans ?_⟩
    unfold Store.stepAfter
    simp only [Store.messageAt_marked]
    rfl
  · rintro b rfl
    exact ⟨leaves_retireMark_verified h hq, _, leaves_retireMark_failed h hq, rfl⟩
  · rintro b repair k rfl hk hm ht erased failed
    have same : s.store.afterErase b = erased := Store.afterErase_eq hk
    refine ⟨fun hb => ?_, fun hb => ?_, fun hb => ?_, fun hb => ?_⟩
    · exact same ▸ (leaves_erase h hq hm ht hb).1
    · exact ⟨_, (leaves_erase_reclaim h hq hm ht hb).1, by rw [same]; rfl⟩
    · exact ⟨_, (leaves_erase h hq hm ht hb).2, rfl⟩
    · exact ⟨_, (leaves_erase_reclaim h hq hm ht hb).2, rfl⟩
  · rintro d ticket r rest verified rfl hr ht hb hk hd
    exact ⟨_, leaves_settings verified h hq hr ht hb hk hd, rfl⟩

end Sys2Proof.Machine
end

section
/-! SUPPORT. The power controller (R167 to R175): the commands that are not its own leave its state as it is. -/

namespace Sys2Proof.Machine

open Sys2Proof

/-! ### Actions of the blocks -/

/-- States with the same still parts have the same power record. -/
theorem power_of_still {s t : State} (h : t.still = s.still) : t.power = s.power := congrArg Still.power h

@[simp] theorem State.answer_power (s : State) (t : Nat) (st : Status) (r : Result) : (s.answer t st r).power = s.power :=
  power_of_still (s.answer_still t st r)

@[simp] theorem State.refuse_power (s : State) (t : Nat) (st : Status) : (s.refuse t st).power = s.power :=
  power_of_still (s.refuse_still t st)

@[simp] theorem State.postSub_power (s : State) (x : Sub) (flags : BitVec 16) : (s.postSub x flags).power = s.power := rfl

@[simp] theorem State.load_power (s : State) (x : Sub) (identity : BitVec 32) (cs : List (BitVec 16)) :
    (s.load x identity cs).power = s.power := power_of_still (s.load_still x identity cs)

@[simp] theorem State.beginSearch_power (s : State) (x : Sub) : (s.beginSearch x).power = s.power :=
  power_of_still (s.beginSearch_still x)

@[simp] theorem State.applySettings_power (s : State) (x : Sub) (guard notices : Option Byte) (cs : Option (List (BitVec 16))) :
    (s.applySettings x guard notices cs).power = s.power := power_of_still (s.applySettings_still x guard notices cs)

@[simp] theorem State.detach_power (s : State) (x : Sub) (t : Nat) : (s.detach x t).power = s.power :=
  power_of_still (s.detach_still x t)

@[simp] theorem State.dial_power (s : State) (i : CallId) (x : Sub) (number : Digits) : (s.dial i x number).power = s.power :=
  power_of_still (s.dial_still i x number)

@[simp] theorem State.answerCall_power (s : State) (i : CallId) (t : Nat) : (s.answerCall i t).power = s.power :=
  power_of_still (s.answerCall_still i t)

@[simp] theorem State.endCall_power (s : State) (i : CallId) : (s.endCall i).power = s.power :=
  power_of_still (s.endCall_still i)

@[simp] theorem State.storePiece_power (s : State) (x : Sub) (destination : Digits) (reference index : Byte) (body : List Byte) :
    (s.storePiece x destination reference index body).power = s.power :=
  power_of_still (s.storePiece_still x destination reference index body)

@[simp] theorem State.pieceReady_power (s : State) (x : Sub) (reference : Byte) : (s.pieceReady x reference).power = s.power :=
  power_of_still (s.pieceReady_still x reference)

@[simp] theorem State.cancel_power (s : State) (x : Sub) (e : OutEntry) : (s.cancel x e).power = s.power :=
  power_of_still (s.cancel_still x e)

/-! ### The command link -/

@[simp] theorem State.receiver_power (s : State) (r : Receiver) : (s.receiver r).power = s.power := rfl

@[simp] theorem State.linkLoss_power (s : State) (r : LinkReason) : (s.linkLoss r).power = s.power := rfl

@[simp] theorem State.immediate_power (s : State) (tag code : Byte) (st : Status) :
    (s.immediate tag code st).power = s.power := by
  unfold State.immediate; split <;> rfl

/-- R179: a complete frame asks nothing of the power controller before its request is dispatched. -/
@[simp] theorem State.frameArrived_power (s : State) (octets : List Byte) : (s.frameArrived octets).power = s.power := by
  unfold State.frameArrived State.arrival
  split
  · split
    · simp
    · split <;> simp
  · rfl

@[simp] theorem State.octet_power (s : State) (o : Byte) : (s.octet o).power = s.power := by
  unfold State.octet
  split
  case h_1 => split <;> simp
  case h_2 => split <;> simp
  case h_3 => split <;> simp

@[simp] theorem State.lose_power (s : State) (why : LinkReason) (after : Receiver) : (s.lose why after).power = s.power := by
  unfold State.lose; split <;> rfl

theorem State.noticeSent_power (s : State) (n : Snapshot) : (s.noticeSent n).power = s.power := by
  cases n with
  | text x => exact power_of_still (State.flushOutcomes_still _ x)
  | _ => rfl

/-! ### The message store -/

@[simp] theorem State.storeNow_power (s : State) (f : Store → Store) : (s.storeNow f).power = s.power := rfl

@[simp] theorem State.postStore_power (s : State) (flags : BitVec 16) : (s.postStore flags).power = s.power := rfl

@[simp] theorem State.queueOp_power (s : State) (o : StoreOp) : (s.queueOp o).power = s.power := rfl

@[simp] theorem State.queueFirst_power (s : State) (o : StoreOp) : (s.queueFirst o).power = s.power := rfl

@[simp] theorem State.requeue_power (s : State) (f : List StoreOp → List StoreOp) : (s.requeue f).power = s.power :=
  power_of_still (s.requeue_still f)

@[simp] theorem State.endReclaim_power (s : State) : s.endReclaim.power = s.power := rfl

@[simp] theorem State.storeFault_power (s : State) : s.storeFault.power = s.power := rfl

@[simp] theorem State.leaveFailed_power (s : State) (o : StoreOp) : (s.leaveFailed o).power = s.power := rfl

@[simp] theorem State.programFailed_power (s : State) (o : StoreOp) (p : SlotId) : (s.programFailed o p).power = s.power := rfl

@[simp] theorem State.programmed_power (s : State) (p : SlotId) (m : Message) (v : SlotState) :
    (s.programmed p m v).power = s.power := rfl

@[simp] theorem State.deleteMessage_power (s : State) (p : SlotId) (t : Nat) : (s.deleteMessage p t).power = s.power := by
  unfold State.deleteMessage
  split
  · simp
  · split
    · rfl
    · dsimp only; split <;> simp

theorem State.writeEnded_power (s : State) (p : SlotId) (m : Message) (verified : Bool) :
    (s.writeEnded p m verified).power = s.power := by
  cases verified with
  | true => exact (power_of_still (State.writeDone_still _ p m.header.number)).trans rfl
  | false =>
    have failed := State.programFailed_power s (.write p m) p
    exact (power_of_still ((State.writeFailed_still _ p _).trans (s.programFailed (.write p m) p).reserve_still)).trans failed

theorem State.keepEnded_power (s : State) (n : Nat) (src p : SlotId) (t : Nat) (verified : Bool) :
    (s.keepEnded n src p t verified).power = s.power := by
  unfold State.keepEnded
  split
  · simp
  · split
    · simp
    · dsimp only; split <;> simp

theorem State.relocationEnded_power (s : State) (n : Nat) (src p : SlotId) (drop verified : Bool) :
    (s.relocationEnded n src p drop verified).power = s.power := by
  unfold State.relocationEnded
  split
  · rfl
  · cases verified <;> cases drop <;> rfl

theorem State.markEnded_power (s : State) (p : SlotId) (why : MarkReason) (verified : Bool) :
    (s.markEnded p why verified).power = s.power := by
  have answered (u : State) : (u.markAnswered why).power = u.power := by
    cases why with
    | delete ts => exact foldl_keeps State.power _ ts u fun v t => v.refuse_power t .done
    | keep t => exact u.refuse_power t .done
    | relocation | repair => rfl
  cases verified <;> exact answered _

theorem State.retireMarkEnded_power (s : State) (b : Nat) (verified : Bool) :
    (s.retireMarkEnded b verified).power = s.power := by
  cases verified <;> rfl

theorem State.eraseEnded_power (s : State) (b : Nat) (repair verified : Bool) :
    (s.eraseEnded b repair verified).power = s.power := by
  cases verified <;> simp [State.eraseEnded, apply_ite State.power]

@[simp] theorem State.rejudgeKeep_power (s : State) (o : StoreOp) : (s.rejudgeKeep o).power = s.power := by
  cases o with
  | keepCopy n src p t =>
    unfold State.rejudgeKeep
    dsimp only
    split
    · simp
    · split
      · rfl
      · split <;> simp
  | _ => rfl

@[simp] theorem State.rejudgeReclaim_power (s : State) (b : Nat) : (s.rejudgeReclaim b).power = s.power := by
  unfold State.rejudgeReclaim; split <;> simp

theorem State.settingsEnded_power (s : State) (d : Descriptor) (t : Nat) (verified : Bool) :
    (s.settingsEnded d t verified).power = s.power := by
  have rejudged (l : List StoreOp) (u : State) : (l.foldl State.rejudgeKeep u).power = u.power :=
    foldl_keeps State.power _ l u State.rejudgeKeep_power
  unfold State.settingsEnded
  simp only [apply_ite State.power, State.report_power, ite_self]
  split <;> simp [rejudged, apply_ite State.power]

/-- R174: the end of an operation tells the power controller nothing, whether or not a requested reset waits for it. -/
theorem State.whileStopping_power {s t : State} (o : StoreOp) (h : t.power = s.power) :
    (s.whileStopping t o).power = s.power := by
  unfold State.whileStopping
  split
  · rfl
  · exact h

/-! ### The radio calendar -/

theorem State.order_power (s : State) (w : Window) : (s.order w).power = s.power := by
  have ordered : (s.blockFor w).2.power = s.power := by
    unfold State.blockFor
    split
    · exact power_of_still (s.setTxBlock_still w.id)
    · rfl
  unfold State.order
  refine (power_of_still (State.syncErase_still _)).trans ?_
  split
  · exact (power_of_still (State.watchBurst_still _ _ _)).trans ordered
  · exact ordered

theorem State.endWindow_power (s : State) (w : Window) (st : WinState) (e : Ended) : (s.endWindow w st e).power = s.power := by
  have removed : (s.removeWindow w.id).power = s.power := power_of_still (s.removeWindow_still w.id)
  unfold State.endWindow
  dsimp only
  split
  · exact removed
  · exact (power_of_still (State.handOver_still _ _ e)).trans removed

/-! ### Commands -/

/-- Whatever state an outcome leads to, the power record stands. -/
def keepsPower (s : State) (o : Host.Outcome State Fault Refusal) : Prop := ∀ t, o = .next t → t.power = s.power

theorem keepsPower_next (s : State) : keepsPower s (.next s) := by
  rintro t ⟨⟩; rfl

/-- The taking of reports leaves the power record. -/
theorem keepsPower_settle {s u : State} (h : u.power = s.power) : keepsPower s (settle u) := fun _ ht =>
  (power_of_still (settle_still ht)).trans h

/-- A command with a condition does nothing without it. -/
theorem keepsPower_when {s u : State} {p : Prop} [Decidable p] (h : u.power = s.power) :
    keepsPower s (if p then settle u else .next s) := by
  split
  · exact keepsPower_settle h
  · exact keepsPower_next s

/-- A request leaves the power record when its owner leaves it. -/
theorem keepsPower_dispatched {s : State} {tag : Byte} {r : Request} {owner : Nat → State → State}
    (h : ∀ t u, (owner t u).power = u.power) : keepsPower s (dispatched s tag r owner) :=
  keepsPower_when (h _ _)

/-- The end of a store operation leaves the power record when its effect on the store does. -/
theorem keepsPower_stopping {s u : State} {o : StoreOp} (h : u.power = s.opOver.power) :
    keepsPower s (settle (s.whileStopping u o)) :=
  keepsPower_settle (s.whileStopping_power o h)

/-! ### The requests -/

/-- R167: of POWER_SET's targets these name none, so that the power record stands. -/
theorem execPowerSetQuery_keepsPower (tag : Byte) (target : Option Byte) (s : State) :
    keepsPower s (execPowerSetQuery tag target s) := by
  unfold execPowerSetQuery
  split
  · exact keepsPower_dispatched fun t u => u.answer_power ..
  · split
    · exact keepsPower_next s
    · exact keepsPower_dispatched fun t u => u.refuse_power t _

/-! ### The link, the radio, the timers and the store -/

theorem execStartingReply_keepsPower (s : State) : keepsPower s (execStartingReply s) := by
  unfold execStartingReply
  split
  · exact keepsPower_when (State.refuse_power ..)
  · exact keepsPower_next s

/-- R182: what a frame's being sent brings about lies outside the power controller; only its end may begin a reset. -/
theorem execFrameTransmitStart_keepsPower (s : State) : keepsPower s (execFrameTransmitStart s) := by
  unfold execFrameTransmitStart
  split
  · split
    · exact keepsPower_settle rfl
    · exact keepsPower_settle (State.noticeSent_power _ _)
    · exact keepsPower_next s
  · exact keepsPower_next s

theorem execWindowOrdered_keepsPower (s : State) : keepsPower s (execWindowOrdered s) := by
  unfold execWindowOrdered
  split
  · split
    · exact keepsPower_settle (s.order_power _)
    · exact keepsPower_next s
  · exact keepsPower_next s

theorem execFrontEndResult_keepsPower (order : Byte) (result : FrontEndResult) (s : State) :
    keepsPower s (execFrontEndResult order result s) := by
  unfold execFrontEndResult
  split
  · split
    · exact keepsPower_settle ((State.endWindow_power _ _ _ _).trans (power_of_still s.radioDone_still))
    · exact keepsPower_next s
  · exact keepsPower_next s

theorem execResultLimit_keepsPower (window : WinId) (s : State) : keepsPower s (execResultLimit window s) := by
  unfold execResultLimit
  split
  · exact keepsPower_when ((State.endWindow_power _ _ _ _).trans (power_of_still s.radioFailed_still))
  · exact keepsPower_next s

theorem execReleaseTimerExpiry_keepsPower (s : State) : keepsPower s (execReleaseTimerExpiry s) := by
  unfold execReleaseTimerExpiry
  split
  · exact keepsPower_when (power_of_still (s.releaseConnection_still _ false))
  · exact keepsPower_next s

theorem execAssemblyTimerExpiry_keepsPower (x : Sub) (reference : Byte) (s : State) :
    keepsPower s (execAssemblyTimerExpiry x reference s) := by
  unfold execAssemblyTimerExpiry
  split
  · exact keepsPower_when (power_of_still (s.endEntry_still x reference .abandoned))
  · exact keepsPower_next s

theorem execPartWaitExpiry_keepsPower (x : Sub) (s : State) : keepsPower s (execPartWaitExpiry x s) := by
  unfold execPartWaitExpiry
  split
  · exact keepsPower_when (power_of_still (s.partWaitExpired_still x))
  · exact keepsPower_next s

theorem execAgeTimerExpiry_keepsPower (x : Sub) (sender : Digits) (reference : Nat) (s : State) :
    keepsPower s (execAgeTimerExpiry x sender reference s) := by
  unfold execAgeTimerExpiry
  split
  · exact keepsPower_when (power_of_still (s.closeEntry_still _ .incomplete))
  · exact keepsPower_next s

theorem execSlotProgramEnd_keepsPower (verified : Bool) (s : State) : keepsPower s (execSlotProgramEnd verified s) := by
  unfold execSlotProgramEnd
  split
  · exact keepsPower_stopping (State.writeEnded_power ..)
  · exact keepsPower_stopping (State.keepEnded_power ..)
  · exact keepsPower_stopping (State.relocationEnded_power ..)
  · exact keepsPower_next s

theorem execMarkProgramEnd_keepsPower (verified : Bool) (s : State) : keepsPower s (execMarkProgramEnd verified s) := by
  unfold execMarkProgramEnd
  split
  · exact keepsPower_stopping (State.markEnded_power ..)
  · exact keepsPower_stopping (State.retireMarkEnded_power ..)
  · exact keepsPower_next s

theorem execBlockEraseEnd_keepsPower (verified : Bool) (s : State) : keepsPower s (execBlockEraseEnd verified s) := by
  unfold execBlockEraseEnd
  split
  · exact keepsPower_stopping (State.eraseEnded_power ..)
  · exact keepsPower_next s

theorem execSettingsRewriteEnd_keepsPower (verified : Bool) (s : State) :
    keepsPower s (execSettingsRewriteEnd verified s) := by
  unfold execSettingsRewriteEnd
  split
  · exact keepsPower_stopping (State.settingsEnded_power ..)
  · exact keepsPower_next s

/-- R167 to R175: every command but the power controller's own leaves its state as it is. -/
theorem exec_keepsPower (c : Instr) (s : State) (h : Instr.movesPower c = false) : keepsPower s (exec c s) := by
  cases c with
  | powerOn | resetnAsserted | resetnReleased | startupEnd | requestedReset | lineBreak | reset | powerSetDozeOn
  | powerSetDozeOff | powerSetDormant | clrdyAsserted | frameTransmitEnd | dozeEntry | wakeTimeReached | dormantEntry => cases h
  | characterError | receiveGapTimeout => exact keepsPower_when (s.lose_power ..)
  | lengthDiscard octet | requestArrival octet | goodOctet octet => exact keepsPower_when (s.octet_power octet)
  | startingReply => exact execStartingReply_keepsPower s
  | identify tag => exact keepsPower_when (State.answer_power ..)
  | powerSetQuery tag target => exact execPowerSetQuery_keepsPower tag target s
  | measQuery | voiceQuery | outboxQuery | storeQuery => exact keepsPower_dispatched fun t u => u.answer_power ..
  | subLoad | subAttach | subDetach | subSet | subQuery | callDial | callAnswer | callEnd | callQuery | voiceSet | textSend
  | textCancel | storeList | storeRead | storeDelete | storeKeep | storeProtect =>
    -- each check of the owner ends in an answer, or in an action that leaves the power record
    unfold exec
    refine keepsPower_dispatched fun t u => ?_
    repeat' split
    all_goals simp
  | clrdyDeasserted => exact keepsPower_settle rfl
  | frameTransmitStart => exact execFrameTransmitStart_keepsPower s
  | portFrameStart | uplinkBlockReceived => exact keepsPower_when rfl
  | windowOrdered => exact execWindowOrdered_keepsPower s
  | frontEndResult order result => exact execFrontEndResult_keepsPower order result s
  | resultLimit window => exact execResultLimit_keepsPower window s
  | noServiceRetryExpiry sub => exact keepsPower_when (State.beginSearch_power ..)
  | releaseTimerExpiry => exact execReleaseTimerExpiry_keepsPower s
  | registrationGuardExpiry sub => exact keepsPower_when (power_of_still (s.regRefused_still sub .noReply))
  | callTimerExpiry id => exact keepsPower_when (power_of_still (s.callTimerExpired_still id))
  | assemblyTimerExpiry sub reference => exact execAssemblyTimerExpiry_keepsPower sub reference s
  | partWaitExpiry sub => exact execPartWaitExpiry_keepsPower sub s
  | ageTimerExpiry sub sender reference => exact execAgeTimerExpiry_keepsPower sub sender reference s
  | idleWaitExpiry sub => exact keepsPower_when (power_of_still (s.idleWaitOver_still sub))
  | storeOperationStart => exact keepsPower_when (power_of_still s.startNext_still)
  | slotProgramEnd verified => exact execSlotProgramEnd_keepsPower verified s
  | markProgramEnd verified => exact execMarkProgramEnd_keepsPower verified s
  | blockEraseEnd verified => exact execBlockEraseEnd_keepsPower verified s
  | settingsRewriteEnd verified => exact execSettingsRewriteEnd_keepsPower verified s

/-- Settles O4: each command's own lemma says that the power record stands. -/
theorem onlyItsOwnCommandsMoveThePowerController : Obligations.OnlyItsOwnCommandsMoveThePowerController :=
  fun c s t h ht => exec_keepsPower c s h t ht

end Sys2Proof.Machine
end

section
/-! SUPPORT. The requests that the power controller and the command link answer themselves (R167, R171, R174, R175, R184). -/

namespace Sys2Proof.Machine

open Sys2Proof

/-- R171: the part is idle: both records are EMPTY or DETACHED, and the store has nothing to do. -/
theorem State.mayRest_iff {s : State} : s.mayRest = true ↔
    (∀ x, (s.sub x).state = .empty ∨ (s.sub x).state = .detached) ∧
      s.store.running = none ∧ s.store.queue = [] ∧ s.store.reclaim = none := by
  have records : (∀ x, (s.sub x).state = .empty ∨ (s.sub x).state = .detached) ↔
      s.subs.a.unused = true ∧ s.subs.b.unused = true := by
    simp only [SubRec.unused, decide_eq_true_eq]
    exact ⟨fun h => ⟨h .A, h .B⟩, fun h x => by cases x; exacts [h.1, h.2]⟩
  simp only [State.mayRest, Store.idle, Bool.and_eq_true, Option.isNone_iff_eq_none, List.isEmpty_iff, records, and_assoc]

/-- R171: a part that is not idle has a record in use, or something for the store to do. -/
theorem State.mayRest_eq_false {s : State} (h : (∃ x, (s.sub x).state ≠ .empty ∧ (s.sub x).state ≠ .detached) ∨
    s.store.running ≠ none ∨ s.store.queue ≠ [] ∨ s.store.reclaim ≠ none) : s.mayRest = false := by
  rw [Bool.eq_false_iff, ne_eq, State.mayRest_iff]
  rintro ⟨records, running, queue, reclaim⟩
  rcases h with ⟨x, empty, detached⟩ | h | h | h
  · exact (records x).elim empty detached
  · exact h running
  · exact h queue
  · exact h reclaim

/-- A request whose owner changes the power record alone and answers at once. -/
theorem dispatched_power {s : State} {tag : Byte} {r : Request} {owner : Nat → State → State} (h : s.accepts tag r)
    (hq : s.quiet) (f : Power → Power) (st : Status) (res : Result)
    (ho : owner s.link.ticket (s.reserveHead tag (requestCode r)) =
      ((s.reserveHead tag (requestCode r)).modPower f).answer s.link.ticket st res) :
    dispatched s tag r owner = .next { s.replied tag (requestCode r) st res with power := f s.power } :=
  dispatched_eq h (ho.trans (State.answer_ticket _ s.link tag (requestCode r) st res rfl)) hq

/-! ### STARTING_REPLY and IDENTIFY (R175, R184) -/

/-- R175: while the phase is STARTING, a request other than IDENTIFY is answered STARTING. -/
theorem exec_startingReply {s : State} {q : Tagged} (hm : s.mayDispatch = true) (ho : s.power.operating = false)
    (hi : s.link.inbox.head? = some q) (hr : q.request ≠ .identify) (hq : s.quiet) :
    exec .startingReply s = .next (s.replied q.tag (requestCode q.request) .starting .none) := by
  obtain ⟨rest, inbox⟩ := List.head?_eq_some_iff.1 hi
  have other : Request.isIdentify q.request = false := by
    unfold Request.isIdentify
    split
    next h => exact absurd h hr
    next => rfl
  have answers : exec .startingReply s =
      settle ((s.reserveHead q.tag (requestCode q.request)).refuse s.link.ticket .starting) := by
    change execStartingReply s = _
    unfold execStartingReply
    rw [inbox]
    exact if_pos ⟨hm, ho, other⟩
  rw [answers, State.refuse, State.reserveHead_answer]
  exact settle_quiet hq

/-- R184: IDENTIFY is answered in either phase. -/
theorem exec_identify {s : State} {tag : Byte} (hm : s.mayDispatch = true)
    (hi : s.link.inbox.head? = some { tag := tag, request := .identify }) (hq : s.quiet) :
    exec (.identify tag) s = .next (s.replied tag 0x01 .done
      (.identity (BitVec.ofNat 8 (Config.revision.val + 1)) s.power.operating s.power.kind)) := by
  have answers : exec (.identify tag) s = settle ((s.reserveHead tag 0x01).answer s.link.ticket .done
      (.identity (BitVec.ofNat 8 (Config.revision.val + 1)) s.power.operating s.power.kind)) := if_pos ⟨hm, hi⟩
  rw [answers, State.reserveHead_answer]
  exact settle_quiet hq

/-- Settles O17, from the two commands' outcomes. -/
theorem requestsWhileStartingAndIdentify : Obligations.RequestsWhileStartingAndIdentify :=
  ⟨fun _ _ hm ho hi hr hq => exec_startingReply hm ho hi hr hq, fun _ _ hm hi hq => exec_identify hm hi hq⟩

/-! ### RESET (R174) -/

/-- R174: once a RESET is answered no request can be dispatched. -/
theorem State.mayDispatch_of_replying {s : State} (h : s.power.wait = .replying) : s.mayDispatch = false := by
  simp [State.mayDispatch, h]

/-- Settles O18: the owner clears DORMANT pending and answers at once, and the wait it leaves stops the dispatch. -/
theorem aResetRequestStopsTheDispatch : Obligations.AResetRequestStopsTheDispatch := by
  intro tag s ha hq
  refine ⟨_, ?_, rfl, State.mayDispatch_of_replying rfl⟩
  unfold exec execReset
  exact dispatched_power ha hq (fun p => { p with pending := false, wait := .replying }) .done .none rfl

/-! ### POWER_SET (R167, R171) -/

/-- R167: a target octet above 2 names no target. -/
theorem namesTarget_eq_false {b : Byte} (h : 3 ≤ b.toNat) : namesTarget b = false := by
  simp only [namesTarget, decide_eq_false_iff_not]; omega

/-- Settles O19: each target's owner changes the permission at most, and answers at once. -/
theorem powerSetSetsTheDozePermission : Obligations.PowerSetSetsTheDozePermission := by
  intro tag s hq
  unfold exec execPowerSetDozeOn execPowerSetDozeOff execPowerSetQuery
  refine ⟨fun ha => ?_, fun ha => ?_, fun ha => ?_, fun b hb ha => ?_⟩
  · exact dispatched_power ha hq (fun p => { p with doze := true }) .done _ rfl
  · exact dispatched_power ha hq (fun p => { p with doze := false }) .done _ rfl
  · exact dispatched_replied ha hq _ .done _ rfl
  · simp only [namesTarget_eq_false hb, Bool.false_eq_true, if_false]
    exact dispatched_replied ha hq _ .badValue .none rfl

/-- Settles O20: DORMANT is set pending when it is pending already or the part is idle. -/
theorem powerSetDormantNeedsAnIdlePart : Obligations.PowerSetDormantNeedsAnIdlePart := by
  intro tag s ha hq
  unfold exec execPowerSetDormant
  refine ⟨fun h => ?_, fun hp h => ?_⟩
  · have may : s.power.pending = true ∨ s.mayRest = true := h.imp id State.mayRest_iff.2
    exact dispatched_power ha hq (fun p => { p with pending := true }) .done _ (if_pos may)
  · have mayNot : ¬(s.power.pending = true ∨ s.mayRest = true) := by simp [hp, State.mayRest_eq_false h]
    exact dispatched_replied ha hq _ .wrongState .none (if_neg mayNot)

end Sys2Proof.Machine
end

section
/-! SUPPORT. Resets (R164, R173 to R175): the state each leaves, and that the state after power-on is legal. -/

namespace Sys2Proof.Machine

open Sys2Proof

/-! ### The reset values (R20, R60, R81, R103, R119, R134, R167, R187) -/

/-- Before its scan the store's index and a blank memory hold the 8 slots of each of the 16 blocks (R151, R152). -/
theorem Store.beforeScan_blank_legal : (Store.beforeScan .blank).legal := by
  refine ⟨List.length_replicate .., fun row hr => ?_, List.length_replicate .., fun b hb => ?_⟩
  · rw [List.eq_of_mem_replicate hr, List.length_replicate]
  · rw [List.eq_of_mem_replicate hb, List.length_replicate]

theorem Power.reset_legal (k : ResetKind) : (Power.reset k).legal :=
  ⟨fun h => absurd rfl h, fun h => absurd rfl h, fun _ => ⟨rfl, rfl⟩⟩

theorem Link.reset_legal (clrdy : Bool) : (Link.reset clrdy).legal :=
  ⟨Nat.zero_le _, Nat.zero_le _, trivial, List.nodup_nil⟩

theorem Calendar.reset_legal : Calendar.reset.legal := ⟨List.Pairwise.nil, Nat.zero_le _⟩

theorem CtxUnit.reset_legal : CtxUnit.reset.legal :=
  ⟨Nat.zero_le _, fun _ h => (by cases h), fun _ => rfl⟩

theorem Voice.reset_legal : Voice.reset.legal := ⟨Nat.zero_le _, Nat.zero_le _⟩

theorem Text.reset_legal : Text.reset.legal :=
  ⟨Nat.zero_le _, List.nodup_nil, Nat.zero_le _, List.nodup_nil, Nat.zero_le _, fun _ h => by cases h⟩

theorem State.reset_meas_legal : State.reset.meas.legal :=
  ⟨Nat.zero_le _, List.nodup_nil, List.nodup_nil, fun _ h => (by cases h), fun _ _ h => by cases h⟩

/-- R20: after a reset both records are EMPTY. -/
theorem State.reset_sub (x : Sub) : State.reset.sub x = .reset := Two.get_both _ x

/-- Settles O8, block by block: nothing is engaged, connected or measured. -/
theorem theResetStateIsLegal : Obligations.TheResetStateIsLegal := by
  refine ⟨Power.reset_legal .powerOn, Link.reset_legal false, Calendar.reset_legal, State.reset_meas_legal,
    Voice.reset_legal, Text.reset_legal, Store.beforeScan_blank_legal, CtxUnit.reset_legal,
    ⟨fun x => ?_, List.nodup_nil, fun _ h => (by cases h)⟩, fun i h => ?_, fun x => ?_⟩
  · rw [State.reset_sub]
    exact ⟨fun h => (by cases h), fun ⟨_, h, _⟩ => by cases h⟩
  · cases i <;> cases h
  · cases x <;> decide

/-! ### POWER_ON, RESETN_ASSERTED and RESETN_RELEASED (R173, R175) -/

/-- R164: a reset cuts no operation when none runs. -/
theorem Store.cutFlash_idle {st : Store} (h : st.running = none) (left : Nat) : st.cutFlash left = st.flash := by
  unfold Store.cutFlash; rw [h]

theorem Store.cutFlash_running {st : Store} {r : Running} (h : st.running = some r) (left : Nat) :
    st.cutFlash left = (st.leave r.op left true).flash := by
  unfold Store.cutFlash; rw [h]

/-- Settles O28, from what a reset cuts and from what the release of RESETN begins. -/
theorem aResetTakesEveryBlockToItsResetValues : Obligations.AResetTakesEveryBlockToItsResetValues := by
  intro s left
  refine ⟨rfl, rfl, fun h => Store.cutFlash_idle h _, fun r h => Store.cutFlash_running h _, fun hh hq => ?_, fun hh => ?_⟩
  · exact (if_pos hh : exec .resetnReleased s = settle s.startUp).trans (settle_quiet hq)
  · exact if_neg (by simp [hh])

/-! ### REQUESTED_RESET (R174) -/

/-- Settles O29: a store that has ended its operation leaves the reset nothing to cut. -/
theorem aRequestedResetCutsNothing : Obligations.ARequestedResetCutsNothing := by
  intro s hw hh hr hq
  have ready : s.resetReady = true := by simp [State.resetReady, hw, hh, hr, hq]
  exact (if_pos ready : exec .requestedReset s = settle (s.resetTo s.store.flash .request false).startUp).trans
    (settle_quiet rfl)

end Sys2Proof.Machine
end

section
/-! SUPPORT. The end of start-up (R161, R162, R166, R175, R176): the reclaim that begins then, its first step, and whether the store
has room once both are settled. -/

namespace Sys2Proof.Machine

open Sys2Proof

/-- R166: the store's room is judged as its usable slots now stand. -/
def Store.judged (st : Store) : Store := { st with roomy := decide (2 ≤ st.usableCount) }

/-- R161: the block of the reclaim that an examination begins. -/
def State.reclaimDue (s : State) : Option Nat := if s.reclaimActive = true then s.store.reclaimChoice else none

theorem drain_empty (n : Nat) {s : State} (h : s.reports = []) : s.drain n = s := by
  cases n with
  | zero => rfl
  | succ n => unfold State.drain; rw [h]

/-! ### SPACE (R166) -/

/-- R166: nothing is told of a room that is as it was judged before. -/
theorem State.examineSpace_of_judged {s : State} (h : s.store.judged = s.store) : s.examineSpace = s :=
  if_neg fun told => told.2.2 (congrArg Store.roomy h)

/-- R166: an examination judges the room anew. -/
theorem State.examineSpace_judges {s : State} (ho : s.power.operating = true) (hw : s.power.wait ≠ .stopping) :
    s.examineSpace.store = s.store.judged := by
  by_cases h : decide (2 ≤ s.store.usableCount) = s.store.roomy
  · have same : s.store.judged = s.store := by rw [Store.judged, h]
    rw [State.examineSpace_of_judged same, same]
  · exact congrArg State.store (if_pos ⟨ho, hw, h⟩ : s.examineSpace = (s.modStore fun st =>
      { st with roomy := decide (2 ≤ s.store.usableCount) }).postStore StoreFlag.space)

/-! ### Reclaim (R161, R162) -/

/-- R161: an examination that finds no block to reclaim. -/
theorem State.examineReclaim_none {s : State} (hd : s.reclaimDue = none) : s.examineReclaim = s := by
  unfold State.reclaimDue at hd
  unfold State.examineReclaim
  split
  next h =>
    obtain ⟨-, -, -, active⟩ := h
    rw [if_pos active] at hd
    rw [hd]
  next => rfl

/-- R161: an examination that begins a reclaim. -/
theorem State.examineReclaim_begins {s : State} {b : Nat} (ho : s.power.operating = true) (hw : s.power.wait ≠ .stopping)
    (hr : s.store.reclaim = none) (hd : s.reclaimDue = some b) :
    s.examineReclaim = (s.storeNow fun st => { st with reclaim := some b }).postStore StoreFlag.reclaim := by
  unfold State.reclaimDue at hd
  split at hd
  next active =>
    unfold State.examineReclaim
    rw [if_pos ⟨ho, hw, hr, active⟩, hd]
  next => cases hd

/-- R162, R166: once no step is to be planned, the reports that wait have the room judged as it then stands, and change no more of
the store. -/
theorem drain_judges (n : Nat) {s : State} {b : Nat} (ho : s.power.operating = true) (hw : s.power.wait ≠ .stopping)
    (hr : ∀ r ∈ s.reports, r = .storeChanged) (hne : s.reports ≠ []) (hn : s.reports.length ≤ n)
    (hb : s.store.reclaim = some b) (h : s.store.stepping = true ∨ s.store.reclaimStep b = none) :
    (s.drain n).store = s.store.judged := by
  induction n generalizing s with
  | zero => exact absurd (List.length_eq_zero_iff.1 (Nat.le_zero.1 hn)) hne
  | succ n ih =>
    cases hs : s.reports with
    | nil => exact absurd hs hne
    | cons r rest =>
      obtain rfl := hr r (by simp [hs])
      let u : State := { s with reports := rest }
      have store : u.examineSpace.store = s.store.judged := State.examineSpace_judges (s := u) ho hw
      have power : u.examineSpace.power = s.power := power_of_still (u.examineSpace_still)
      have reports : u.examineSpace.reports = rest := by rw [u.examineSpace_examined.1]
      have planned : u.takeReport .storeChanged = u.examineSpace := by
        rw [State.takeReport_reclaiming (s := u) hb]
        exact State.planReclaim_rests (by rw [store]; exact hb) (by rw [store]; exact h)
      have first : s.drain (n + 1) = State.drain n u.examineSpace := by
        rw [State.drain, hs]
        exact congrArg (State.drain n) planned
      rw [first]
      by_cases last : rest = []
      · rw [drain_empty n (reports.trans last), store]
      · rw [ih (by rw [power]; exact ho) (by rw [power]; exact hw) (by rw [reports]; exact fun r h => hr r (by simp [hs, h]))
          (by rw [reports]; exact last) (by rw [reports]; simpa [hs] using hn) (by rw [store]; exact hb)
          (by rw [store]; exact h), store]
        rfl

/-- R162: a plan takes no report away, and raises one at most. -/
theorem State.planReclaim_reports {s : State} (hs : ¬s.store.stuck) :
    s.planReclaim.reports = s.reports ∨ s.planReclaim.reports = s.reports ++ [.storeChanged] := by
  rcases s.planReclaim_cases hs with h | ⟨_, _, h | h⟩
  · rw [h]; exact .inl rfl
  · rw [h.1]; exact .inl rfl
  · rw [h.1]; exact .inr rfl

/-- R162: a plan changes of the store no more than the queue and the reclaim. -/
theorem State.planReclaim_judged {s : State} (hs : ¬s.store.stuck) :
    s.planReclaim.store.judged =
      ({ s.store with reclaim := s.planReclaim.store.reclaim, queue := s.planReclaim.store.queue } : Store).judged := by
  rcases s.planReclaim_cases hs with h | ⟨_, _, h | h⟩
  · rw [h]
  · rw [h.1]; rfl
  · rw [h.1]; rfl

/-- R161: a reclaim just begun is not stuck. -/
theorem Store.not_stuck_of_chosen {st : Store} {b : Nat} (h : st.reclaimChoice = some b) :
    ¬({ st with reclaim := some b } : Store).stuck := by
  rintro ⟨_, ⟨⟩, _, move, full⟩
  exact Store.reclaimChoice_room h move full

section
variable {s : State} (hj : s.store.judged = s.store) (hq : s.reports = [.storeChanged])
include hj hq

/-- R161: the report of a change is settled by the examination of reclaim and the plan of its first step. -/
theorem drain_examines (n : Nat) :
    s.drain (n + 1) = State.drain n ({ s with reports := [] } : State).examineReclaim.planReclaim := by
  have same : ({ s with reports := [] } : State).examineSpace = { s with reports := [] } := State.examineSpace_of_judged hj
  rw [State.drain, hq]
  exact congrArg (fun u : State => State.drain n u.examineReclaim.planReclaim) same

/-- R161: when no reclaim is due nothing changes. -/
theorem settle_no_reclaim (hr : s.store.reclaim = none) (hd : s.reclaimDue = none) :
    s.drain settleBound = { s with reports := [] } := by
  have plan : ({ s with reports := [] } : State).planReclaim = { s with reports := [] } := by
    unfold State.planReclaim
    simp only [hr]
  rw [show settleBound = 4095 + 1 from rfl, drain_examines hj hq,
    State.examineReclaim_none (s := { s with reports := [] }) hd, plan, drain_empty _ rfl]

/-- R161, R162: a reclaim that is due begins, its first step is queued, and the room is judged behind that. -/
theorem settle_reclaim {b : Nat} (ho : s.power.operating = true) (hw : s.power.wait ≠ .stopping) (hr : s.store.reclaim = none)
    (hops : s.store.ops = []) (hd : s.reclaimDue = some b) :
    (s.drain settleBound).store = ({ s.store with
      reclaim := some b, queue := ({ s.store with reclaim := some b } : Store).stepAfter b } : Store).judged := by
  let u : State := { s with reports := [] }
  let w : State := (u.storeNow fun st => { st with reclaim := some b }).postStore StoreFlag.reclaim
  have chosen : s.store.reclaimChoice = some b := by
    unfold State.reclaimDue at hd
    split at hd
    · exact hd
    · cases hd
  have free : ¬w.store.stuck := Store.not_stuck_of_chosen chosen
  obtain ⟨queue, reclaim, raised, rests⟩ := State.planReclaim_steps (s := w) rfl hops free
    (by intro r h; exact List.mem_singleton.1 h)
  have power : w.planReclaim.power = s.power := power_of_still w.planReclaim_still
  have few : w.planReclaim.reports ≠ [] ∧ w.planReclaim.reports.length ≤ 4095 := by
    have one : w.reports = [.storeChanged] := rfl
    rcases State.planReclaim_reports free with h | h <;> simp [h, one]
  rw [show settleBound = 4095 + 1 from rfl, drain_examines hj hq,
    State.examineReclaim_begins (s := u) ho hw hr hd,
    drain_judges 4095 (s := w.planReclaim) (by rw [power]; exact ho) (by rw [power]; exact hw) raised few.1 few.2 reclaim rests,
    State.planReclaim_judged free, reclaim, queue]
  rfl

end

/-! ### STARTUP_END (R175, R176) -/

/-- R175, R176: the state that STARTUP_END leaves before the store has examined reclaim. -/
def State.started (s : State) : State :=
  { s with
    power := { s.power with operating := true }
    store := s.store.judged
    link := { s.link with outbox := postIn s.readySnapshot 0 s.link.outbox } }

theorem Store.mostDeleted_judged (st : Store) (l : List Nat) : st.judged.mostDeleted l = st.mostDeleted l := by
  induction l with
  | nil => rfl
  | cons b l ih => unfold Store.mostDeleted; rw [ih]; rfl

/-- R161: whether a reclaim begins, and of which block, is no matter of the room last judged. -/
theorem State.started_reclaimDue (s : State) :
    s.started.reclaimDue = if s.reclaimActive = true then s.store.reclaimChoice else none := by
  have choice : s.store.judged.reclaimChoice = s.store.reclaimChoice := by
    unfold Store.reclaimChoice
    simp only [Store.mostDeleted_judged]
    rfl
  rw [← choice]
  rfl

/-- R183: a notice posted of a kind and key that no entry has is an entry with the flags posted. -/
theorem mem_postIn_new (snap : Snapshot) (flags : BitVec 16) (out : List Notice) (h : ∀ n ∈ out, n.snapshot.key ≠ snap.key) :
    ({ snapshot := snap, flags := flags } : Notice) ∈ postIn snap flags out := by
  induction out with
  | nil => simp [postIn]
  | cons n out ih =>
    obtain ⟨other, rest⟩ := List.forall_mem_cons.1 h
    unfold postIn
    rw [if_neg other]
    exact List.mem_cons_of_mem _ (ih rest)

/-- R175: STARTUP_END once the last repair has ended. -/
theorem exec_startupEnd {s : State} (ha : s.awake = true) (ho : s.power.operating = false) (hr : s.store.running = none)
    (hqueue : s.store.queue = []) (hq : s.quiet) :
    exec .startupEnd s = settle { s.started with reports := [.storeChanged] } := by
  have ended : s.startUpOver = true := by simp [State.startUpOver, ha, ho, hr, hqueue]
  have told : s.reports ++ [.storeChanged] = [.storeChanged] := by rw [show s.reports = [] from hq]; rfl
  refine (if_pos ended).trans (congrArg settle ?_)
  rw [← told]
  rfl

theorem Store.ops_idle {st : Store} (hr : st.running = none) (hq : st.queue = []) : st.ops = [] := by
  unfold Store.ops; rw [hr]; exact hq

/-- R162: the step that follows when no operation stands: with no message to move the block has none that is LIVE. -/
theorem Store.stepAfter_idle {st : Store} (h : st.ops = []) (b : Nat) : st.stepAfter b = match st.toMove b with
    | [] => [.erase b false]
    | p :: _ => ((allSlots.find? st.usable).map fun q =>
        .relocCopy (((st.messageAt p).map fun m => m.header.number).getD 0) p q false).toList := by
  unfold Store.stepAfter
  cases hm : st.toMove b with
  | cons p ps => rfl
  | nil =>
    have none_live : st.countIn b .live = 0 := by
      unfold Store.countIn
      rw [List.countP_eq_zero]
      intro i hi live
      have unmoved := List.filter_eq_nil_iff.1 hm _ (List.mem_map_of_mem hi)
      simp [Store.markPending, Store.keeping, h, of_decide_eq_true live] at unmoved
    simp only [none_live, if_true]

/-- R161, R162: what the examinations leave of the store of a part that has started with nothing queued or running. -/
theorem State.started_settles {s t : State} (hw : s.power.wait ≠ .stopping) (hr : s.store.running = none)
    (hq : s.store.queue = []) (hc : s.store.reclaim = none)
    (ht : ({ s.started with reports := [.storeChanged] } : State).drain settleBound = t) :
    t.store.reclaim = (if s.reclaimActive = true then s.store.reclaimChoice else none) ∧
      t.store.roomy = decide (2 ≤ t.store.usableCount) ∧ (t.store.reclaim = none → t.store.queue = []) ∧
      ∀ b, t.store.reclaim = some b → t.store.queue = ({ s.store with reclaim := some b } : Store).stepAfter b := by
  rw [← ht, ← s.started_reclaimDue]
  cases hd : s.started.reclaimDue with
  | none =>
    rw [settle_no_reclaim (s := { s.started with reports := [.storeChanged] }) rfl rfl hc hd]
    exact ⟨hc, rfl, fun _ => hq, fun b h => by cases hc.symm.trans h⟩
  | some b =>
    rw [settle_reclaim (s := { s.started with reports := [.storeChanged] }) rfl rfl rfl hw hc (Store.ops_idle hr hq) hd]
    exact ⟨rfl, rfl, fun h => (by cases h), fun c h => by cases h; rfl⟩

/-- Settles O30: the examinations change no more than they may, and what they leave of the store follows from whether a reclaim is
due. -/
theorem startUpEndsWithReady : Obligations.StartUpEndsWithReady := by
  intro s ha ho hr hqueue hreclaim hq hready
  obtain ⟨-, -, hw⟩ := of_decide_eq_true ha
  have ended := exec_startupEnd ha ho hr hqueue hq
  obtain ⟨t, ht, same, -, -, kept⟩ := settle_examined_state (v := s.started) (rs := [.storeChanged]) ended hq (by decide)
    (Store.not_stuck_of_none hreclaim) (by simp)
  obtain ⟨reclaim, roomy, unqueued, queue⟩ := State.started_settles hw hr hqueue hreclaim
    (Host.Outcome.next.inj (ended.symm.trans ht))
  have ready := (kept { snapshot := s.readySnapshot, flags := 0 } fun h => by cases h).2
    (mem_postIn_new s.readySnapshot 0 s.link.outbox hready)
  refine ⟨t, ht, ?_, ready, reclaim, ?_⟩
  · rw [← roomy]
    exact same
  · cases hb : t.store.reclaim with
    | none => exact unqueued hb
    | some b =>
      exact (queue b hb).trans
        (Store.stepAfter_idle (st := { s.store with reclaim := some b }) (Store.ops_idle hr hqueue) b)

end Sys2Proof.Machine
end

section
/-! SUPPORT. DOZE and DORMANT (R168 to R172): the wake time, and the part's entry into each state. -/

namespace Sys2Proof.Machine

open Sys2Proof

/-! ### The wake time (R168) -/

/-- Of some slot values, the earliest is one of them, no other is reached sooner, and there is none only of none. -/
theorem earliest_spec (now : Slot) (ts : List Slot) :
    (∀ w, earliest now ts = some w → w ∈ ts ∧ ∀ u ∈ ts, slotsLeft now w ≤ slotsLeft now u) ∧
      (earliest now ts = none → ts = []) := by
  induction ts with
  | nil => exact ⟨fun w h => (by cases h), fun _ => rfl⟩
  | cons t rest ih =>
    obtain ⟨least, empty⟩ := ih
    unfold earliest
    cases hr : earliest now rest with
    | none =>
      rw [empty hr]
      exact ⟨fun w h => by cases h; simp, fun h => (by cases h)⟩
    | some v =>
      obtain ⟨mem, le⟩ := least v hr
      dsimp only
      split
      next sooner =>
        refine ⟨fun w h => ?_, fun h => by cases h⟩
        cases h
        exact ⟨List.mem_cons_of_mem _ mem, List.forall_mem_cons.2 ⟨sooner.le, le⟩⟩
      next later =>
        refine ⟨fun w h => ?_, fun h => by cases h⟩
        cases h
        exact ⟨List.mem_cons_self, List.forall_mem_cons.2 ⟨le_rfl, fun u hu => (not_lt.1 later).trans (le u hu)⟩⟩

theorem earliest_of_mem {now u : Slot} {ts : List Slot} (h : u ∈ ts) :
    ∃ w, earliest now ts = some w ∧ slotsLeft now w ≤ slotsLeft now u := by
  obtain ⟨least, empty⟩ := earliest_spec now ts
  cases hw : earliest now ts with
  | none => rw [empty hw] at h; cases h
  | some w => exact ⟨w, rfl, (least w hw).2 u h⟩

/-- R168: the slot values of which the wake time is the earliest. -/
def State.wakeCauses (s : State) : List Slot := (s.earliestPlanned.map fun t => t - 4#32).toList ++ s.expiries

theorem State.mem_wakeCauses {s : State} {w : Slot} :
    w ∈ s.wakeCauses ↔ w ∈ s.expiries ∨ ∃ u, s.earliestPlanned = some u ∧ w = u - 4 := by
  simp [State.wakeCauses, or_comm, eq_comm]

/-- Settles O32: the wake time is the earliest of its causes. -/
theorem theWakeTimeIsTheEarliestOfItsCauses : Obligations.TheWakeTimeIsTheEarliestOfItsCauses := by
  intro s
  refine ⟨fun u hu => ?_, fun u hu => ?_, fun w hw => ?_, fun he hp => ?_⟩
  · exact earliest_of_mem (State.mem_wakeCauses.2 (.inl hu))
  · exact earliest_of_mem (State.mem_wakeCauses.2 (.inr ⟨u, hu, rfl⟩))
  · exact State.mem_wakeCauses.1 ((earliest_spec s.now s.wakeCauses).1 w hw).1
  · have none_waits : s.wakeCauses = [] := by simp [State.wakeCauses, he, hp]
    exact congrArg (earliest s.now) none_waits

/-! ### DOZE (R168, R170) -/

theorem State.anyOrdered_eq_false {s : State} (h : ∀ w ∈ s.cal.windows, w.state ≠ .ordered) : s.anyOrdered = false := by
  unfold State.anyOrdered
  rw [List.any_eq_false]
  exact fun w hw => by simpa [Window.isOrdered] using h w hw

/-- Settles O31, from the conditions of the two events. -/
theorem dozeIsEnteredAndEndsAtTheWakeTime : Obligations.DozeIsEnteredAndEndsAtTheWakeTime := by
  intro s hq
  refine ⟨?_, fun u hs hh hw hu => ?_⟩
  · intro awake operating pending doze unordered planned running queue reclaim receiver inbox reserved filled sending told voice
    have far (u : Slot) (h : s.earliestPlanned = some u) : liesAhead s.now u 40 = true := decide_eq_true (planned u h)
    have untold : (s.link.outbox.isEmpty || !s.link.clrdy) = true := by
      rcases told with h | h <;> simp [h]
    have may : s.mayDoze = true := by
      unfold State.mayDoze Store.idle
      rw [untold, State.anyOrdered_eq_false unordered]
      cases he : s.earliestPlanned <;>
        simp [awake, operating, pending, doze, running, queue, reclaim, receiver, inbox, reserved, filled, sending, voice, far,
          he]
    exact (if_pos may).trans (settle_quiet hq)
  · have due : s.wakeDue = true := by
      unfold State.wakeDue
      rw [hw, hs, hh]
      exact decide_eq_true hu
    exact (if_pos due).trans (settle_quiet hq)

/-! ### DORMANT (R172) -/

/-- Settles O33: a part of which DORMANT is asked rests exactly when it is idle. -/
theorem dormantIsEnteredByAnIdlePart : Obligations.DormantIsEnteredByAnIdlePart := by
  intro s awake pending inbox reserved filled receiver sending unordered hq
  have due : s.restDue = true := by
    simp [State.restDue, awake, pending, inbox, reserved, filled, receiver, sending, State.anyOrdered_eq_false unordered]
  have enters : exec .dormantEntry s = .next
      { s with power := { s.power with state := if s.mayRest then .dormant else s.power.state, pending := false } } :=
    (if_pos due).trans (settle_quiet hq)
  refine ⟨fun h => ?_, fun h => ?_⟩
  · rw [enters, State.mayRest_iff.2 h]
    rfl
  · rw [enters, State.mayRest_eq_false h]
    rfl

end Sys2Proof.Machine
end

section
/-! SUPPORT. The queue of commands (R180, log 8): every command has a next state, and the blocks' actions leave the queue as it is. -/

namespace Sys2Proof.Machine

open Sys2Proof

/-! ### Actions of the blocks -/

/-- States with the same still parts have the same queue. -/
theorem pending_of_still {s t : State} (h : t.still = s.still) : t.pending = s.pending := congrArg Still.pending h

@[simp] theorem State.answer_pending (s : State) (t : Nat) (st : Status) (r : Result) : (s.answer t st r).pending = s.pending :=
  pending_of_still (s.answer_still t st r)

@[simp] theorem State.refuse_pending (s : State) (t : Nat) (st : Status) : (s.refuse t st).pending = s.pending :=
  pending_of_still (s.refuse_still t st)

@[simp] theorem State.postSub_pending (s : State) (x : Sub) (flags : BitVec 16) : (s.postSub x flags).pending = s.pending := rfl

@[simp] theorem State.load_pending (s : State) (x : Sub) (identity : BitVec 32) (cs : List (BitVec 16)) :
    (s.load x identity cs).pending = s.pending := pending_of_still (s.load_still x identity cs)

@[simp] theorem State.beginSearch_pending (s : State) (x : Sub) : (s.beginSearch x).pending = s.pending :=
  pending_of_still (s.beginSearch_still x)

@[simp] theorem State.applySettings_pending (s : State) (x : Sub) (guard notices : Option Byte)
    (cs : Option (List (BitVec 16))) : (s.applySettings x guard notices cs).pending = s.pending :=
  pending_of_still (s.applySettings_still x guard notices cs)

@[simp] theorem State.detach_pending (s : State) (x : Sub) (t : Nat) : (s.detach x t).pending = s.pending :=
  pending_of_still (s.detach_still x t)

@[simp] theorem State.dial_pending (s : State) (i : CallId) (x : Sub) (number : Digits) :
    (s.dial i x number).pending = s.pending := pending_of_still (s.dial_still i x number)

@[simp] theorem State.answerCall_pending (s : State) (i : CallId) (t : Nat) : (s.answerCall i t).pending = s.pending :=
  pending_of_still (s.answerCall_still i t)

@[simp] theorem State.endCall_pending (s : State) (i : CallId) : (s.endCall i).pending = s.pending :=
  pending_of_still (s.endCall_still i)

@[simp] theorem State.storePiece_pending (s : State) (x : Sub) (destination : Digits) (reference index : Byte)
    (body : List Byte) : (s.storePiece x destination reference index body).pending = s.pending :=
  pending_of_still (s.storePiece_still x destination reference index body)

@[simp] theorem State.pieceReady_pending (s : State) (x : Sub) (reference : Byte) :
    (s.pieceReady x reference).pending = s.pending := pending_of_still (s.pieceReady_still x reference)

@[simp] theorem State.cancel_pending (s : State) (x : Sub) (e : OutEntry) : (s.cancel x e).pending = s.pending :=
  pending_of_still (s.cancel_still x e)

/-! ### The command link -/

@[simp] theorem State.receiver_pending (s : State) (r : Receiver) : (s.receiver r).pending = s.pending := rfl

@[simp] theorem State.linkLoss_pending (s : State) (r : LinkReason) : (s.linkLoss r).pending = s.pending := rfl

@[simp] theorem State.immediate_pending (s : State) (tag code : Byte) (st : Status) :
    (s.immediate tag code st).pending = s.pending := by
  unfold State.immediate; split <;> rfl

@[simp] theorem State.frameArrived_pending (s : State) (octets : List Byte) : (s.frameArrived octets).pending = s.pending := by
  unfold State.frameArrived State.arrival
  split
  · split
    · simp
    · split <;> simp
  · rfl

theorem State.octet_pending (s : State) (o : Byte) : (s.octet o).pending = s.pending := by
  unfold State.octet
  split
  case h_1 => split <;> rfl
  case h_2 => split <;> rfl
  case h_3 => split <;> simp

theorem State.lose_pending (s : State) (why : LinkReason) (after : Receiver) : (s.lose why after).pending = s.pending := by
  unfold State.lose; split <;> rfl

theorem State.noticeSent_pending (s : State) (n : Snapshot) : (s.noticeSent n).pending = s.pending := by
  cases n with
  | text x => exact pending_of_still (State.flushOutcomes_still _ x)
  | _ => rfl

/-- R174: the commands that wait, which are no state of the part, outlast the reset that a RESET reply lets begin. -/
theorem State.beginReset_pending (s : State) : s.beginReset.pending = s.pending :=
  (pending_of_still (State.syncErase_still _)).trans rfl

theorem State.replySent_pending (s : State) : s.replySent.pending = s.pending := by
  unfold State.replySent
  split
  · rfl
  · split
    · rfl
    · dsimp only
      split
      · exact State.beginReset_pending _
      · rfl

/-! ### The message store -/

@[simp] theorem State.storeNow_pending (s : State) (f : Store → Store) : (s.storeNow f).pending = s.pending := rfl

@[simp] theorem State.postStore_pending (s : State) (flags : BitVec 16) : (s.postStore flags).pending = s.pending := rfl

@[simp] theorem State.queueOp_pending (s : State) (o : StoreOp) : (s.queueOp o).pending = s.pending := rfl

@[simp] theorem State.queueFirst_pending (s : State) (o : StoreOp) : (s.queueFirst o).pending = s.pending := rfl

@[simp] theorem State.requeue_pending (s : State) (f : List StoreOp → List StoreOp) : (s.requeue f).pending = s.pending :=
  pending_of_still (s.requeue_still f)

@[simp] theorem State.endReclaim_pending (s : State) : s.endReclaim.pending = s.pending := rfl

@[simp] theorem State.storeFault_pending (s : State) : s.storeFault.pending = s.pending := rfl

@[simp] theorem State.leaveFailed_pending (s : State) (o : StoreOp) : (s.leaveFailed o).pending = s.pending := rfl

@[simp] theorem State.programFailed_pending (s : State) (o : StoreOp) (p : SlotId) :
    (s.programFailed o p).pending = s.pending := rfl

@[simp] theorem State.programmed_pending (s : State) (p : SlotId) (m : Message) (v : SlotState) :
    (s.programmed p m v).pending = s.pending := rfl

@[simp] theorem State.deleteMessage_pending (s : State) (p : SlotId) (t : Nat) :
    (s.deleteMessage p t).pending = s.pending := by
  unfold State.deleteMessage
  split
  · simp
  · split
    · rfl
    · dsimp only; split <;> simp

theorem State.writeEnded_pending (s : State) (p : SlotId) (m : Message) (verified : Bool) :
    (s.writeEnded p m verified).pending = s.pending := by
  cases verified with
  | true => exact (pending_of_still (State.writeDone_still _ p m.header.number)).trans rfl
  | false =>
    exact (pending_of_still ((State.writeFailed_still _ p _).trans (s.programFailed (.write p m) p).reserve_still)).trans rfl

theorem State.keepEnded_pending (s : State) (n : Nat) (src p : SlotId) (t : Nat) (verified : Bool) :
    (s.keepEnded n src p t verified).pending = s.pending := by
  unfold State.keepEnded
  split
  · simp
  · split
    · simp
    · dsimp only; split <;> simp

theorem State.relocationEnded_pending (s : State) (n : Nat) (src p : SlotId) (drop verified : Bool) :
    (s.relocationEnded n src p drop verified).pending = s.pending := by
  unfold State.relocationEnded
  split
  · rfl
  · cases verified <;> cases drop <;> rfl

theorem State.markEnded_pending (s : State) (p : SlotId) (why : MarkReason) (verified : Bool) :
    (s.markEnded p why verified).pending = s.pending := by
  have answered (u : State) : (u.markAnswered why).pending = u.pending := by
    cases why with
    | delete ts => exact foldl_keeps State.pending _ ts u fun v t => v.refuse_pending t .done
    | keep t => exact u.refuse_pending t .done
    | relocation | repair => rfl
  cases verified <;> exact answered _

theorem State.retireMarkEnded_pending (s : State) (b : Nat) (verified : Bool) :
    (s.retireMarkEnded b verified).pending = s.pending := by
  cases verified <;> rfl

theorem State.eraseEnded_pending (s : State) (b : Nat) (repair verified : Bool) :
    (s.eraseEnded b repair verified).pending = s.pending := by
  cases verified <;> simp [State.eraseEnded, apply_ite State.pending]

@[simp] theorem State.rejudgeKeep_pending (s : State) (o : StoreOp) : (s.rejudgeKeep o).pending = s.pending := by
  cases o with
  | keepCopy n src p t =>
    unfold State.rejudgeKeep
    dsimp only
    split
    · simp
    · split
      · rfl
      · split <;> simp
  | _ => rfl

@[simp] theorem State.rejudgeReclaim_pending (s : State) (b : Nat) : (s.rejudgeReclaim b).pending = s.pending := by
  unfold State.rejudgeReclaim; split <;> simp

theorem State.settingsEnded_pending (s : State) (d : Descriptor) (t : Nat) (verified : Bool) :
    (s.settingsEnded d t verified).pending = s.pending := by
  have rejudged (l : List StoreOp) (u : State) : (l.foldl State.rejudgeKeep u).pending = u.pending :=
    foldl_keeps State.pending _ l u State.rejudgeKeep_pending
  unfold State.settingsEnded
  simp only [apply_ite State.pending, State.report_pending, ite_self]
  split <;> simp [rejudged, apply_ite State.pending]

/-! ### The radio calendar -/

theorem State.order_pending (s : State) (w : Window) : (s.order w).pending = s.pending := by
  have ordered : (s.blockFor w).2.pending = s.pending := by
    unfold State.blockFor
    split
    · exact pending_of_still (s.setTxBlock_still w.id)
    · rfl
  unfold State.order
  refine (pending_of_still (State.syncErase_still _)).trans ?_
  split
  · exact (pending_of_still (State.watchBurst_still _ _ _)).trans ordered
  · exact ordered

theorem State.endWindow_pending (s : State) (w : Window) (st : WinState) (e : Ended) :
    (s.endWindow w st e).pending = s.pending := by
  have removed : (s.removeWindow w.id).pending = s.pending := pending_of_still (s.removeWindow_still w.id)
  unfold State.endWindow
  dsimp only
  split
  · exact removed
  · exact (pending_of_still (State.handOver_still _ _ e)).trans removed

/-! ### Commands -/

/-- An outcome is a next state, and the queue stands in it. -/
def completes (s : State) (o : Host.Outcome State Fault Refusal) : Prop := ∃ t, o = .next t ∧ t.pending = s.pending

theorem completes_next {s u : State} (h : u.pending = s.pending) : completes s (.next u) := ⟨u, rfl, h⟩

/-- The taking of reports ends in a state (R51, log 7), and leaves the queue. -/
theorem completes_settle {s u : State} (h : u.pending = s.pending) : completes s (settle u) :=
  ⟨_, rfl, (pending_of_still (State.drain_still _ _)).trans h⟩

/-- A command with a condition does nothing without it. -/
theorem completes_when {s u : State} {p : Prop} [Decidable p] (h : u.pending = s.pending) :
    completes s (if p then settle u else .next s) := by
  split
  · exact completes_settle h
  · exact completes_next rfl

/-- A request completes when its owner leaves the queue. -/
theorem completes_dispatched {s : State} {tag : Byte} {r : Request} {owner : Nat → State → State}
    (h : ∀ t u, (owner t u).pending = u.pending) : completes s (dispatched s tag r owner) :=
  completes_when (h _ _)

/-- The end of a store operation completes when its effect on the store leaves the queue, whether or not a requested reset waits for it
(R174). -/
theorem completes_stopping {s u : State} {o : StoreOp} (h : u.pending = s.opOver.pending) :
    completes s (settle (s.whileStopping u o)) := by
  refine completes_settle ?_
  unfold State.whileStopping
  split
  · rfl
  · exact h

/-! ### The power controller and the command link -/

theorem execPowerSetQuery_completes (tag : Byte) (target : Option Byte) (s : State) :
    completes s (execPowerSetQuery tag target s) := by
  unfold execPowerSetQuery
  split
  · exact completes_dispatched fun t u => u.answer_pending ..
  · split
    · exact completes_next rfl
    · exact completes_dispatched fun t u => u.refuse_pending t _

theorem execBreak_completes (s : State) : completes s (execBreak s) := by
  unfold execBreak
  split
  · exact completes_next rfl
  · exact completes_settle (State.lose_pending ..)

theorem execStartingReply_completes (s : State) : completes s (execStartingReply s) := by
  unfold execStartingReply
  split
  · exact completes_when (State.refuse_pending ..)
  · exact completes_next rfl

theorem execClrdyAsserted_completes (s : State) : completes s (execClrdyAsserted s) := by
  unfold execClrdyAsserted
  split <;> exact completes_settle rfl

theorem execFrameTransmitStart_completes (s : State) : completes s (execFrameTransmitStart s) := by
  unfold execFrameTransmitStart
  split
  · split
    · exact completes_settle rfl
    · exact completes_settle (State.noticeSent_pending _ _)
    · exact completes_next rfl
  · exact completes_next rfl

theorem execFrameTransmitEnd_completes (s : State) : completes s (execFrameTransmitEnd s) := by
  unfold execFrameTransmitEnd
  split
  · refine completes_when ?_
    split
    · exact State.replySent_pending _
    · rfl
  · exact completes_next rfl

/-! ### The radio, the timers and the store -/

theorem execWindowOrdered_completes (s : State) : completes s (execWindowOrdered s) := by
  unfold execWindowOrdered
  split
  · split
    · exact completes_settle (s.order_pending _)
    · exact completes_next rfl
  · exact completes_next rfl

theorem execFrontEndResult_completes (order : Byte) (result : FrontEndResult) (s : State) :
    completes s (execFrontEndResult order result s) := by
  unfold execFrontEndResult
  split
  · split
    · exact completes_settle ((State.endWindow_pending _ _ _ _).trans (pending_of_still s.radioDone_still))
    · exact completes_next rfl
  · exact completes_next rfl

theorem execResultLimit_completes (window : WinId) (s : State) : completes s (execResultLimit window s) := by
  unfold execResultLimit
  split
  · exact completes_when ((State.endWindow_pending _ _ _ _).trans (pending_of_still s.radioFailed_still))
  · exact completes_next rfl

theorem execReleaseTimerExpiry_completes (s : State) : completes s (execReleaseTimerExpiry s) := by
  unfold execReleaseTimerExpiry
  split
  · exact completes_when (pending_of_still (s.releaseConnection_still _ false))
  · exact completes_next rfl

theorem execAssemblyTimerExpiry_completes (x : Sub) (reference : Byte) (s : State) :
    completes s (execAssemblyTimerExpiry x reference s) := by
  unfold execAssemblyTimerExpiry
  split
  · exact completes_when (pending_of_still (s.endEntry_still x reference .abandoned))
  · exact completes_next rfl

theorem execPartWaitExpiry_completes (x : Sub) (s : State) : completes s (execPartWaitExpiry x s) := by
  unfold execPartWaitExpiry
  split
  · exact completes_when (pending_of_still (s.partWaitExpired_still x))
  · exact completes_next rfl

theorem execAgeTimerExpiry_completes (x : Sub) (sender : Digits) (reference : Nat) (s : State) :
    completes s (execAgeTimerExpiry x sender reference s) := by
  unfold execAgeTimerExpiry
  split
  · exact completes_when (pending_of_still (s.closeEntry_still _ .incomplete))
  · exact completes_next rfl

theorem execSlotProgramEnd_completes (verified : Bool) (s : State) : completes s (execSlotProgramEnd verified s) := by
  unfold execSlotProgramEnd
  split
  · exact completes_stopping (State.writeEnded_pending ..)
  · exact completes_stopping (State.keepEnded_pending ..)
  · exact completes_stopping (State.relocationEnded_pending ..)
  · exact completes_next rfl

theorem execMarkProgramEnd_completes (verified : Bool) (s : State) : completes s (execMarkProgramEnd verified s) := by
  unfold execMarkProgramEnd
  split
  · exact completes_stopping (State.markEnded_pending ..)
  · exact completes_stopping (State.retireMarkEnded_pending ..)
  · exact completes_next rfl

theorem execBlockEraseEnd_completes (verified : Bool) (s : State) : completes s (execBlockEraseEnd verified s) := by
  unfold execBlockEraseEnd
  split
  · exact completes_stopping (State.eraseEnded_pending ..)
  · exact completes_next rfl

theorem execSettingsRewriteEnd_completes (verified : Bool) (s : State) : completes s (execSettingsRewriteEnd verified s) := by
  unfold execSettingsRewriteEnd
  split
  · exact completes_stopping (State.settingsEnded_pending ..)
  · exact completes_next rfl

/-- Every command completes: each meaning answers a next state in every branch, and no block touches the queue. -/
theorem exec_completes (c : Instr) (s : State) : completes s (exec c s) := by
  cases c with
  | powerOn | resetnAsserted => exact completes_next rfl
  | resetnReleased | requestedReset | startupEnd | dozeEntry | wakeTimeReached | dormantEntry => exact completes_when rfl
  | lineBreak => exact execBreak_completes s
  | characterError | receiveGapTimeout => exact completes_when (s.lose_pending ..)
  | lengthDiscard octet | requestArrival octet | goodOctet octet => exact completes_when (s.octet_pending octet)
  | startingReply => exact execStartingReply_completes s
  | identify tag => exact completes_when (State.answer_pending ..)
  | reset | powerSetDozeOn | powerSetDozeOff =>
    exact completes_dispatched fun t u => (State.answer_pending (u.modPower _) t ..).trans rfl
  | powerSetQuery tag target => exact execPowerSetQuery_completes tag target s
  | measQuery | voiceQuery | outboxQuery | storeQuery => exact completes_dispatched fun t u => u.answer_pending ..
  | powerSetDormant | subLoad | subAttach | subDetach | subSet | subQuery | callDial | callAnswer | callEnd | callQuery
  | voiceSet | textSend | textCancel | storeList | storeRead | storeDelete | storeKeep | storeProtect =>
    -- each check of the owner ends in an answer, or in an action that leaves the queue
    unfold exec
    refine completes_dispatched fun t u => ?_
    repeat' split
    all_goals simp [State.powerDone]
  | clrdyAsserted => exact execClrdyAsserted_completes s
  | clrdyDeasserted => exact completes_settle rfl
  | frameTransmitStart => exact execFrameTransmitStart_completes s
  | frameTransmitEnd => exact execFrameTransmitEnd_completes s
  | portFrameStart | uplinkBlockReceived => exact completes_when rfl
  | windowOrdered => exact execWindowOrdered_completes s
  | frontEndResult order result => exact execFrontEndResult_completes order result s
  | resultLimit window => exact execResultLimit_completes window s
  | noServiceRetryExpiry sub => exact completes_when (State.beginSearch_pending ..)
  | releaseTimerExpiry => exact execReleaseTimerExpiry_completes s
  | registrationGuardExpiry sub => exact completes_when (pending_of_still (s.regRefused_still sub .noReply))
  | callTimerExpiry id => exact completes_when (pending_of_still (s.callTimerExpired_still id))
  | assemblyTimerExpiry sub reference => exact execAssemblyTimerExpiry_completes sub reference s
  | partWaitExpiry sub => exact execPartWaitExpiry_completes sub s
  | ageTimerExpiry sub sender reference => exact execAgeTimerExpiry_completes sub sender reference s
  | idleWaitExpiry sub => exact completes_when (pending_of_still (s.idleWaitOver_still sub))
  | storeOperationStart => exact completes_when (pending_of_still s.startNext_still)
  | slotProgramEnd verified => exact execSlotProgramEnd_completes verified s
  | markProgramEnd verified => exact execMarkProgramEnd_completes verified s
  | blockEraseEnd verified => exact execBlockEraseEnd_completes verified s
  | settingsRewriteEnd verified => exact execSettingsRewriteEnd_completes verified s

/-- Settles O3: each command's own lemma says that it completes. -/
theorem everyCommandCompletesAndLeavesTheQueue : Obligations.EveryCommandCompletesAndLeavesTheQueue := exec_completes

/-! ### A step -/

/-- Settles O1, which is the first branch of `step`. -/
theorem stepRunsTheFrontCommand : Obligations.StepRunsTheFrontCommand := by
  intro c rest s hp
  unfold step
  rw [hp]

end Sys2Proof.Machine
end

section
/-! SUPPORT. The octets of a request: what each reads back to, and what each was read from (R179, R185); and the command that dispatches
it (R180). -/

namespace Sys2Proof

open Machine

/-! ### Readings of what was put -/

@[simp] theorem take1_cons (b : Byte) (l : List Byte) : take1 (b :: l) = some (b, l) := rfl

@[simp] theorem andThen_some {α β : Type} (a : α) (l : List Byte) (f : α → List Byte → Option β) :
    andThen (some (a, l)) f = f a l := rfl

@[simp] theorem whole_some {α : Type} (a : α) : whole (some (a, [])) = some a := rfl

/-- A last field whose reading leaves what follows it, here nothing. -/
theorem whole_put {α : Type} {p : List Byte → Option (α × List Byte)} {os : List Byte} {a : α}
    (h : ∀ l, p (os ++ l) = some (a, l)) : whole (p os) = some a := by
  have read := h []
  rw [List.append_nil] at read
  rw [read, whole_some]

/-! ### The octets of a request are read back (R185) -/

theorem parseRequest_powerSet (t : Option Byte) :
    parseRequest (requestCode (.powerSet t)) (encodeRequest (.powerSet t)) = some (.powerSet t) :=
  congrArg (Option.map Request.powerSet) (whole_put (takeOpt1_put t))

theorem parseRequest_callQuery (i : Option Byte) :
    parseRequest (requestCode (.callQuery i)) (encodeRequest (.callQuery i)) = some (.callQuery i) :=
  congrArg (Option.map Request.callQuery) (whole_put (takeOpt1_put i))

theorem parseRequest_subLoad (x : Byte) (i : BitVec 32) (cs : List (BitVec 16)) (h : cs.length ≤ 255) :
    parseRequest (requestCode (.subLoad x i cs)) (encodeRequest (.subLoad x i cs)) = some (.subLoad x i cs) := by
  have last := whole_put fun l => takeChannels_put cs l h
  simp [parseRequest, requestCode, encodeRequest, take4_put4, last]

theorem parseRequest_subSet (x : Byte) (g n : Option Byte) (c : Option (List (BitVec 16)))
    (h : ∀ cs, c = some cs → cs.length ≤ 255) :
    parseRequest (requestCode (.subSet x g n c)) (encodeRequest (.subSet x g n c)) = some (.subSet x g n c) := by
  have last := whole_put fun l => takeOptC_put c l h
  simp [parseRequest, requestCode, encodeRequest, parseSubSet, takeOpt1_put, last]

theorem parseRequest_callDial (x : Byte) (d : Digits) (h : d.length ≤ 255) :
    parseRequest (requestCode (.callDial x d)) (encodeRequest (.callDial x d)) = some (.callDial x d) := by
  have last := whole_put fun l => takeDigits_put d l h
  simp [parseRequest, requestCode, encodeRequest, last]

theorem parseRequest_voiceSet (a b c d e : Option Byte) :
    parseRequest (requestCode (.voiceSet a b c d e)) (encodeRequest (.voiceSet a b c d e)) = some (.voiceSet a b c d e) := by
  have last := whole_put (takeOpt1_put e)
  simp [parseRequest, requestCode, encodeRequest, parseVoiceSet, takeOpt1_put, last]

theorem parseRequest_textSend (x : Byte) (d : Digits) (r i e : Byte) (b : List Byte) (hd : d.length ≤ 255)
    (hb : b.length ≤ 65535) :
    parseRequest (requestCode (.textSend x d r i e b)) (encodeRequest (.textSend x d r i e b)) = some (.textSend x d r i e b) := by
  have last := whole_put fun l => takeBody_put b l hb
  simp [parseRequest, requestCode, encodeRequest, parseTextSend, takeDigits_put d _ hd, last]

theorem parseRequest_storeRead (n o : BitVec 16) (k : Byte) :
    parseRequest (requestCode (.storeRead n o k)) (encodeRequest (.storeRead n o k)) = some (.storeRead n o k) := by
  simp [parseRequest, requestCode, encodeRequest, take2_put2]

/-- Settles O9: a request's own lemma reads its octets back; one that fits a frame has counts that fit their octets. -/
theorem requestsAreReadBack : Obligations.RequestsAreReadBack := by
  intro r fits
  have room : r.fieldOctets ≤ fieldRoom := of_decide_eq_true fits
  cases r with
  | identify | reset | measQuery | voiceQuery | outboxQuery | storeQuery => rfl
  | subAttach | subDetach | subQuery | callAnswer | callEnd | textCancel | storeProtect => rfl
  | powerSet t => exact parseRequest_powerSet t
  | callQuery i => exact parseRequest_callQuery i
  | voiceSet a b c d e => exact parseRequest_voiceSet a b c d e
  | subLoad x i cs =>
    simp only [Request.fieldOctets, channelOctets, fieldRoom] at room
    exact parseRequest_subLoad x i cs (by omega)
  | subSet x g n c =>
    refine parseRequest_subSet x g n c fun cs hc => ?_
    subst hc
    simp only [Request.fieldOctets, optOctets, channelOctets, fieldRoom] at room
    omega
  | callDial x d =>
    simp only [Request.fieldOctets, fieldRoom] at room
    exact parseRequest_callDial x d (by omega)
  | textSend x d r i e b =>
    simp only [Request.fieldOctets, fieldRoom] at room
    exact parseRequest_textSend x d r i e b (by omega) (by omega)
  | storeRead n o k => exact parseRequest_storeRead n o k
  | storeList n => exact congrArg (Option.map Request.storeList) (whole_put (take2_put2 n))
  | storeDelete n => exact congrArg (Option.map Request.storeDelete) (whole_put (take2_put2 n))
  | storeKeep n => exact congrArg (Option.map Request.storeKeep) (whole_put (take2_put2 n))

/-! ### A request is read from nothing else (R179) -/

/-- A reading takes the octets that are put for its value, and no others. -/
def ReadsWhatIsPut {α : Type} (p : List Byte → Option (α × List Byte)) (f : α → List Byte) : Prop :=
  ∀ l a l', p l = some (a, l') → l = f a ++ l'

theorem take1_reads : ReadsWhatIsPut take1 fun b => [b] := fun _ _ _ => take1_inv

theorem take2_reads : ReadsWhatIsPut take2 fun n => put2 n.toNat := fun _ _ _ => take2_inv

theorem take4_reads : ReadsWhatIsPut take4 fun n => put4 n.toNat := fun _ _ _ => take4_inv

theorem takeDigits_reads : ReadsWhatIsPut takeDigits putDigits := fun _ _ _ => takeDigits_inv

theorem takeBody_reads : ReadsWhatIsPut takeBody putBody := fun _ _ _ => takeBody_inv

theorem takeChannels_reads : ReadsWhatIsPut takeChannels putChannels := fun _ _ _ => takeChannels_inv

theorem takeOpt_reads {α : Type} {p : List Byte → Option (α × List Byte)} {f : α → List Byte} (h : ReadsWhatIsPut p f) :
    ReadsWhatIsPut (takeOpt p) (putOpt f) := fun _ _ _ => takeOpt_inv h

/-- A field that others follow. -/
theorem ReadsWhatIsPut.field {α β : Type} {p : List Byte → Option (α × List Byte)} {f : α → List Byte} (hp : ReadsWhatIsPut p f)
    {l : List Byte} {k : α → List Byte → Option β} {b : β} (h : andThen (p l) k = some b) :
    ∃ a l', l = f a ++ l' ∧ k a l' = some b := by
  obtain ⟨a, l', ha, hk⟩ := andThen_inv h
  exact ⟨a, l', hp l a l' ha, hk⟩

/-- The last field. -/
theorem ReadsWhatIsPut.last {α : Type} {p : List Byte → Option (α × List Byte)} {f : α → List Byte} (hp : ReadsWhatIsPut p f)
    {l : List Byte} {g : α → Request} {r : Request} (h : (whole (p l)).map g = some r) : ∃ a, g a = r ∧ l = f a := by
  obtain ⟨a, ha, hg⟩ := map_whole_inv h
  exact ⟨a, hg, (hp l a [] ha).trans (List.append_nil _)⟩

theorem subSet_of_parse {x : Byte} {l : List Byte} {r : Request} (h : parseSubSet x l = some r) :
    ∃ g n c, r = .subSet x g n c ∧ x :: l = encodeRequest r := by
  obtain ⟨g, l₁, rfl, h₁⟩ := (takeOpt_reads take1_reads).field h
  obtain ⟨n, l₂, rfl, h₂⟩ := (takeOpt_reads take1_reads).field h₁
  obtain ⟨c, rfl, rfl⟩ := (takeOpt_reads takeChannels_reads).last h₂
  exact ⟨g, n, c, rfl, by simp [encodeRequest]⟩

theorem voiceSet_of_parse {l : List Byte} {r : Request} (h : parseVoiceSet l = some r) :
    ∃ a b c d e, r = .voiceSet a b c d e ∧ l = encodeRequest r := by
  obtain ⟨a, l₁, rfl, h₁⟩ := (takeOpt_reads take1_reads).field h
  obtain ⟨b, l₂, rfl, h₂⟩ := (takeOpt_reads take1_reads).field h₁
  obtain ⟨c, l₃, rfl, h₃⟩ := (takeOpt_reads take1_reads).field h₂
  obtain ⟨d, l₄, rfl, h₄⟩ := (takeOpt_reads take1_reads).field h₃
  obtain ⟨e, rfl, rfl⟩ := (takeOpt_reads take1_reads).last h₄
  exact ⟨a, b, c, d, e, rfl, by simp [encodeRequest]⟩

theorem textSend_of_parse {l : List Byte} {r : Request} (h : parseTextSend l = some r) :
    ∃ x d f i e b, r = .textSend x d f i e b ∧ l = encodeRequest r := by
  obtain ⟨x, l₁, rfl, h₁⟩ := take1_reads.field h
  obtain ⟨d, l₂, rfl, h₂⟩ := takeDigits_reads.field h₁
  obtain ⟨f, l₃, rfl, h₃⟩ := take1_reads.field h₂
  obtain ⟨i, l₄, rfl, h₄⟩ := take1_reads.field h₃
  obtain ⟨e, l₅, rfl, h₅⟩ := take1_reads.field h₄
  obtain ⟨b, rfl, rfl⟩ := takeBody_reads.last h₅
  exact ⟨x, d, f, i, e, b, rfl, by simp [encodeRequest]⟩

/-- Settles O10: the branch of the code's value says which request it is, and what each reading takes which octets it took. -/
theorem nothingElseSpellsARequest : Obligations.NothingElseSpellsARequest := by
  intro code fields r h
  unfold parseRequest at h
  split at h
  next hc => obtain ⟨rfl, rfl⟩ := noFields_inv h; exact ⟨code_eq hc, rfl⟩
  next hc => obtain ⟨rfl, rfl⟩ := noFields_inv h; exact ⟨code_eq hc, rfl⟩
  next hc => obtain ⟨t, rfl, rfl⟩ := (takeOpt_reads take1_reads).last h; exact ⟨code_eq hc, rfl⟩
  next hc =>
    obtain ⟨x, l₁, rfl, h₁⟩ := take1_reads.field h
    obtain ⟨i, l₂, rfl, h₂⟩ := take4_reads.field h₁
    obtain ⟨cs, rfl, rfl⟩ := takeChannels_reads.last h₂
    exact ⟨code_eq hc, rfl⟩
  next hc => obtain ⟨x, rfl, rfl⟩ := take1_reads.last h; exact ⟨code_eq hc, rfl⟩
  next hc => obtain ⟨x, rfl, rfl⟩ := take1_reads.last h; exact ⟨code_eq hc, rfl⟩
  next hc =>
    obtain ⟨x, l₁, rfl, h₁⟩ := take1_reads.field h
    obtain ⟨g, n, c, rfl, octets⟩ := subSet_of_parse h₁
    exact ⟨code_eq hc, octets⟩
  next hc => obtain ⟨x, rfl, rfl⟩ := take1_reads.last h; exact ⟨code_eq hc, rfl⟩
  next hc => obtain ⟨rfl, rfl⟩ := noFields_inv h; exact ⟨code_eq hc, rfl⟩
  next hc =>
    obtain ⟨x, l₁, rfl, h₁⟩ := take1_reads.field h
    obtain ⟨d, rfl, rfl⟩ := takeDigits_reads.last h₁
    exact ⟨code_eq hc, rfl⟩
  next hc => obtain ⟨i, rfl, rfl⟩ := take1_reads.last h; exact ⟨code_eq hc, rfl⟩
  next hc => obtain ⟨i, rfl, rfl⟩ := take1_reads.last h; exact ⟨code_eq hc, rfl⟩
  next hc => obtain ⟨i, rfl, rfl⟩ := (takeOpt_reads take1_reads).last h; exact ⟨code_eq hc, rfl⟩
  next hc =>
    obtain ⟨a, b, c, d, e, rfl, octets⟩ := voiceSet_of_parse h
    exact ⟨code_eq hc, octets⟩
  next hc => obtain ⟨rfl, rfl⟩ := noFields_inv h; exact ⟨code_eq hc, rfl⟩
  next hc =>
    obtain ⟨x, d, f, i, e, b, rfl, octets⟩ := textSend_of_parse h
    exact ⟨code_eq hc, octets⟩
  next hc =>
    obtain ⟨x, l₁, rfl, h₁⟩ := take1_reads.field h
    obtain ⟨f, rfl, rfl⟩ := take1_reads.last h₁
    exact ⟨code_eq hc, rfl⟩
  next hc => obtain ⟨rfl, rfl⟩ := noFields_inv h; exact ⟨code_eq hc, rfl⟩
  next hc => obtain ⟨n, rfl, rfl⟩ := take2_reads.last h; exact ⟨code_eq hc, rfl⟩
  next hc =>
    obtain ⟨n, l₁, rfl, h₁⟩ := take2_reads.field h
    obtain ⟨o, l₂, rfl, h₂⟩ := take2_reads.field h₁
    obtain ⟨k, rfl, rfl⟩ := take1_reads.last h₂
    exact ⟨code_eq hc, rfl⟩
  next hc => obtain ⟨n, rfl, rfl⟩ := take2_reads.last h; exact ⟨code_eq hc, rfl⟩
  next hc => obtain ⟨n, rfl, rfl⟩ := take2_reads.last h; exact ⟨code_eq hc, rfl⟩
  next hc =>
    obtain ⟨e, l₁, rfl, h₁⟩ := take1_reads.field h
    obtain ⟨c, l₂, rfl, h₂⟩ := take1_reads.field h₁
    obtain ⟨i, rfl, rfl⟩ := take1_reads.last h₂
    exact ⟨code_eq hc, rfl⟩
  next hc => obtain ⟨rfl, rfl⟩ := noFields_inv h; exact ⟨code_eq hc, rfl⟩
  next => cases h

/-! ### The command that dispatches a request (R180) -/

/-- R167: POWER_SET has a command for each target, and one for the query and for an octet that names none. -/
theorem powerSet_command (tag : Byte) (target : Option Byte) :
    let c := Tagged.command { tag := tag, request := .powerSet target }
    c.request = some (tag, .powerSet target) ∧ ((Request.powerSet target).wellFormed = true → c.wellFormed = true) := by
  cases target with
  | none => exact ⟨rfl, fun _ => rfl⟩
  | some b =>
    simp only [Tagged.command]
    split
    next h => subst h; exact ⟨rfl, fun _ => rfl⟩
    next on =>
      split
      next h => subst h; exact ⟨rfl, fun _ => rfl⟩
      next off =>
        split
        next h => subst h; exact ⟨rfl, fun _ => rfl⟩
        next dormant =>
          have unnamed : targetNamed b = false := decide_eq_false (not_or.2 ⟨on, not_or.2 ⟨off, dormant⟩⟩)
          exact ⟨rfl, fun _ => congrArg not unnamed⟩

/-- Settles O11: each request has a command of its own, but for the targets of POWER_SET. -/
theorem aRequestIsDispatchedByItsOwnCommand : Obligations.ARequestIsDispatchedByItsOwnCommand := by
  rintro ⟨tag, r⟩
  cases r with
  | powerSet target => exact powerSet_command tag target
  | _ => exact ⟨rfl, fun fits => (Bool.and_true _).trans fits⟩

end Sys2Proof
end

section
/-! SUPPORT. The receiver of the command link (R178, R179, R186): what an octet, a character error, a gap and a BREAK make of it. -/

namespace Sys2Proof.Machine

open Sys2Proof

/-! ### The judgement of a stored octet (R178) -/

theorem judge_length_octet (o : Byte) : judge [o] = if o.toNat < 3 then .tooShort else .more := rfl

/-- R178: after the length octet, an octet completes the frame, breaks its bounds, or leaves it open, by how many are stored. -/
theorem judge_append (n : Byte) (rest : List Byte) (o : Byte) : judge (n :: rest ++ [o]) =
    if n = 255 then if 254 ≤ rest.length + 1 then .tooLong else .more
    else if rest.length + 1 = n.toNat then .complete
    else .more := by
  have stored : (rest ++ [o]).length = rest.length + 1 := List.length_append
  rw [← stored]
  cases rest <;> rfl

theorem State.judged_inFrame {s : State} {octets : List Byte} (h : s.link.receiver = .inFrame octets) (o : Byte) :
    s.judged o = judge (octets ++ [o]) := by
  unfold State.judged; rw [h]

/-! ### GOOD_OCTET, LENGTH_DISCARD and REQUEST_ARRIVAL -/

/-- A receiver that stands in a state enters it unchanged. -/
theorem State.receiver_self {s : State} {r : Receiver} (h : s.link.receiver = r) : s.receiver r = s := by
  subst h; rfl

/-- R178: between frames and awaiting one, 0xC3 begins a frame, and any other octet leaves the receiver HUNTING. -/
theorem State.octet_outside {s : State} (h : s.link.receiver = .hunting ∨ s.link.receiver = .awaiting) (o : Byte) :
    s.octet o = s.receiver (if o = syncOctet then .inFrame [] else .hunting) := by
  unfold State.octet
  by_cases begins : o = syncOctet
  · rcases h with h | h <;> simp only [h, if_pos begins]
  · rcases h with h | h
    · simp only [h, if_neg begins, State.receiver_self h]
    · simp only [h, if_neg begins]

/-- R178: in a frame, an octet that leaves it open is stored. -/
theorem State.octet_more {s : State} {octets : List Byte} {o : Byte} (h : s.link.receiver = .inFrame octets)
    (more : judge (octets ++ [o]) = .more) : s.octet o = s.receiver (.inFrame (octets ++ [o])) := by
  simp only [State.octet, h, more]

/-- R178, R179: the octet that completes the frame hands it on. -/
theorem State.octet_complete {s : State} {octets : List Byte} {o : Byte} (h : s.link.receiver = .inFrame octets)
    (complete : judge (octets ++ [o]) = .complete) : s.octet o = (s.receiver .hunting).frameArrived (octets ++ [o]) := by
  simp only [State.octet, h, complete]

/-- R178, R186: an octet that makes the frame too short or too long loses it. -/
theorem State.octet_discarded {s : State} {octets : List Byte} {o : Byte} (h : s.link.receiver = .inFrame octets)
    (broken : judge (octets ++ [o]) = .tooShort ∨ judge (octets ++ [o]) = .tooLong) :
    s.octet o = (s.receiver .hunting).linkLoss .length := by
  rcases broken with broken | broken <;> simp only [State.octet, h, broken]

theorem exec_goodOctet {s : State} (ha : s.awake = true) (o : Byte) : exec (.goodOctet o) s = settle (s.octet o) := if_pos ha

/-- Settles O12, by the receiver's state; an octet stored in a frame is judged MORE. -/
theorem anOctetIsSkippedBeginsAFrameOrIsStored : Obligations.AnOctetIsSkippedBeginsAFrameOrIsStored := by
  intro o s ha hq
  refine ⟨fun outside => ?_, fun octets frame first later => ?_⟩
  · rw [exec_goodOctet ha, State.octet_outside outside]
    exact settle_quiet hq
  · have more : judge (octets ++ [o]) = .more := by
      cases octets with
      | nil => exact if_neg (Nat.not_lt.2 (first rfl))
      | cons n rest =>
        obtain ⟨incomplete, short⟩ := later n rest rfl
        rw [judge_append]
        by_cases longest : n = 255
        · rw [if_pos longest]; exact if_neg (Nat.not_le.2 (short longest))
        · rw [if_neg longest]; exact if_neg incomplete
    rw [exec_goodOctet ha, State.octet_more frame more]
    exact settle_quiet hq

/-- R178: an octet that makes the frame too short or too long. -/
theorem exec_lengthDiscard {s : State} {octets : List Byte} {o : Byte} (ha : s.awake = true)
    (frame : s.link.receiver = .inFrame octets) (h : judge (octets ++ [o]) = .tooShort ∨ judge (octets ++ [o]) = .tooLong) :
    exec (.lengthDiscard o) s = settle ((s.receiver .hunting).linkLoss .length) := by
  have discards : exec (.lengthDiscard o) s = settle (s.octet o) := if_pos ⟨ha, by rwa [State.judged_inFrame frame]⟩
  rw [discards, State.octet_discarded frame h]

/-- Settles O13, by the two lengths that break a frame's bounds. -/
theorem aFrameOfABadLengthIsDiscarded : Obligations.AFrameOfABadLengthIsDiscarded := by
  intro o octets s ha hq frame bad
  have broken : judge (octets ++ [o]) = .tooShort ∨ judge (octets ++ [o]) = .tooLong := by
    rcases bad with ⟨rfl, short⟩ | ⟨rest, rfl, long⟩
    · exact .inl (if_pos short)
    · refine .inr ?_
      rw [judge_append, if_pos rfl, if_pos (by omega)]
  rw [exec_lengthDiscard ha frame broken]
  exact settle_quiet hq

/-- R178: the octet that completes a frame hands it on. -/
theorem exec_requestArrival {s : State} {o n cls tag code : Byte} {octets fields : List Byte} (ha : s.awake = true)
    (frame : s.link.receiver = .inFrame octets) (whole : octets ++ [o] = n :: cls :: tag :: code :: fields)
    (length : n.toNat = fields.length + 3) (bounded : n ≠ 255) :
    exec (.requestArrival o) s = settle ((s.receiver .hunting).arrival tag cls code fields) := by
  have complete : judge (octets ++ [o]) = .complete := by
    rw [whole]
    exact (if_neg bounded).trans (if_pos length.symm)
  have arrives : exec (.requestArrival o) s = settle (s.octet o) := if_pos ⟨ha, by rwa [State.judged_inFrame frame]⟩
  rw [arrives, State.octet_complete frame complete, whole]
  rfl

/-! ### A complete frame (R179) -/

/-- The request that a frame spells: none for a frame that is not of a request's class. -/
def requestOf (cls code : Byte) (fields : List Byte) : Option Request := if cls = 0x01 then parseRequest code fields else none

theorem requestOf_eq_none {cls code : Byte} {fields : List Byte} (h : cls ≠ 0x01 ∨ parseRequest code fields = none) :
    requestOf cls code fields = none := by
  unfold requestOf
  split
  next hc => exact h.resolve_left (not_not.2 hc)
  next => rfl

theorem State.arrival_admitted {s : State} {tag cls code : Byte} {fields : List Byte} {r : Request}
    (h : requestOf cls code fields = some r) (room : s.link.inbox.length < 4) :
    s.arrival tag cls code fields = s.modLink fun l => { l with inbox := l.inbox ++ [{ tag := tag, request := r }] } := by
  unfold State.arrival
  rw [show (if cls = 0x01 then parseRequest code fields else none) = some r from h]
  exact if_pos room

theorem State.arrival_busy {s : State} {tag cls code : Byte} {fields : List Byte} {r : Request}
    (h : requestOf cls code fields = some r) (full : 4 ≤ s.link.inbox.length) :
    s.arrival tag cls code fields = s.immediate tag code .busy := by
  unfold State.arrival
  rw [show (if cls = 0x01 then parseRequest code fields else none) = some r from h]
  exact if_neg (Nat.not_lt.2 full)

theorem State.arrival_malformed {s : State} {tag cls code : Byte} {fields : List Byte} (h : requestOf cls code fields = none) :
    s.arrival tag cls code fields = s.immediate tag code .malformed := by
  unfold State.arrival
  rw [show (if cls = 0x01 then parseRequest code fields else none) = none from h]

/-- R180: an answer takes a free position of the reply queue. -/
theorem State.immediate_fills {s : State} (room : s.link.reserved.length + s.link.filled.length < 8) (tag code : Byte)
    (st : Status) : s.immediate tag code st = s.fill tag code st .none :=
  if_pos (decide_eq_true room)

/-- R179, R186: without a free position the frame is dropped. -/
theorem State.immediate_overruns {s : State} (full : 8 ≤ s.link.reserved.length + s.link.filled.length) (tag code : Byte)
    (st : Status) : s.immediate tag code st = s.linkLoss .overrun :=
  if_neg fun room => Nat.not_lt.2 full (of_decide_eq_true room)

/-- Settles O14: what the complete frame spells and the inbox's room say what is asked, and the reply queue's room what becomes of an
answer. -/
theorem aCompleteFrameIsAdmittedAnsweredOrDropped : Obligations.ACompleteFrameIsAdmittedAnsweredOrDropped := by
  intro o n cls tag code octets fields s ha hq frame whole length bounded
  rw [exec_requestArrival ha frame whole length bounded]
  have spelled (r : Request) (hc : cls = 0x01) (hr : parseRequest code fields = some r) :
      requestOf cls code fields = some r := (if_pos hc).trans hr
  refine ⟨fun r hc hr room => ?_, fun room => ⟨fun r hc hr full => ?_, fun bad => ?_⟩, fun full unasked => ?_⟩
  · rw [State.arrival_admitted (s := s.receiver .hunting) (spelled r hc hr) room]
    exact settle_quiet hq
  · rw [State.arrival_busy (s := s.receiver .hunting) (spelled r hc hr) full,
      State.immediate_fills (s := s.receiver .hunting) room]
    exact settle_quiet hq
  · rw [State.arrival_malformed (requestOf_eq_none bad), State.immediate_fills (s := s.receiver .hunting) room]
    exact settle_quiet hq
  · have answered : ∃ st, (s.receiver .hunting).arrival tag cls code fields = (s.receiver .hunting).immediate tag code st := by
      cases hr : requestOf cls code fields with
      | none => exact ⟨_, State.arrival_malformed hr⟩
      | some r =>
        refine ⟨_, State.arrival_busy hr ?_⟩
        rcases unasked with h | h | h
        · rw [requestOf_eq_none (.inl h)] at hr; cases hr
        · rw [requestOf_eq_none (.inr h)] at hr; cases hr
        · exact h
    obtain ⟨st, answers⟩ := answered
    rw [answers, State.immediate_overruns (s := s.receiver .hunting) full]
    exact settle_quiet hq

/-! ### CHARACTER_ERROR, RECEIVE_GAP_TIMEOUT and BREAK (R178) -/

theorem State.lose_outside {s : State} (h : s.link.receiver = .hunting ∨ s.link.receiver = .awaiting) (why : LinkReason)
    (after : Receiver) : s.lose why after = s.receiver after := by
  unfold State.lose
  rcases h with h | h <;> rw [h]

theorem State.lose_inFrame {s : State} {octets : List Byte} (h : s.link.receiver = .inFrame octets) (why : LinkReason)
    (after : Receiver) : s.lose why after = (s.receiver after).linkLoss why := by
  unfold State.lose
  rw [h]

theorem exec_characterError {s : State} (ha : s.awake = true) : exec .characterError s = settle (s.lose .badChar .hunting) :=
  if_pos ha

theorem exec_receiveGapTimeout {s : State} (ha : s.awake = true) : exec .receiveGapTimeout s = settle (s.lose .gap .hunting) :=
  if_pos ha

/-- Settles O15: outside a frame nothing is lost, and in one the frame is, with its reason. -/
theorem aCharacterErrorOrAGapLosesThePartialFrame : Obligations.ACharacterErrorOrAGapLosesThePartialFrame := by
  intro s ha hq
  rw [exec_characterError ha, exec_receiveGapTimeout ha]
  refine ⟨fun outside => ?_, fun octets frame => ?_⟩
  · rw [State.lose_outside outside, State.lose_outside outside]
    exact ⟨settle_quiet hq, settle_quiet hq⟩
  · rw [State.lose_inFrame frame, State.lose_inFrame frame]
    exact ⟨settle_quiet hq, settle_quiet hq⟩

/-- R170 to R172: the state in which the part has been woken, and DORMANT is not pending. -/
def State.woken (s : State) : State := s.modPower fun p => { p with state := .run, wake := none, pending := false }

/-- R170 to R172: a BREAK wakes a part that is neither in reset nor stopped for one. -/
theorem exec_lineBreak {s : State} (hh : s.power.held = false) (hw : s.power.wait ≠ .stopping) : exec .lineBreak s =
    settle (s.woken.lose .cut .awaiting) :=
  if_neg (not_or.2 ⟨by simp [hh], hw⟩)

/-- Settles O16: the part wakes, and a partial frame is lost as by a character error. -/
theorem aBreakWakesThePart : Obligations.ABreakWakesThePart := by
  intro s hh hw hq
  rw [exec_lineBreak hh hw]
  refine ⟨fun outside => ?_, fun octets frame => ?_⟩
  · rw [State.lose_outside (s := s.woken) outside]
    exact settle_quiet hq
  · rw [State.lose_inFrame (s := s.woken) frame]
    exact settle_quiet hq

end Sys2Proof.Machine
end

section
/-! SUPPORT. The notice outbox (R182, R183): what a posting leaves of it, and which entry goes next. -/

namespace Sys2Proof.Machine

open Sys2Proof

/-! ### A posting (R183) -/

/-- The kinds and keys after a posting: those that were there, and the posted one when it is new. -/
theorem postIn_keys (snap : Snapshot) (flags : BitVec 16) (out : List Notice) :
    ((postIn snap flags out).map fun n => n.snapshot.key) =
      (out.map fun n => n.snapshot.key) ++ if ∃ n ∈ out, n.snapshot.key = snap.key then [] else [snap.key] := by
  induction out with
  | nil => simp [postIn]
  | cons n out ih =>
    unfold postIn
    split
    next same => simp [same]
    next other => simp [ih, other]

/-- R183: a posting of a new kind and key makes the last entry. -/
theorem postIn_new {snap : Snapshot} {out : List Notice} (h : ∀ n ∈ out, n.snapshot.key ≠ snap.key) (flags : BitVec 16) :
    postIn snap flags out = out ++ [{ snapshot := snap, flags := flags }] := by
  induction out with
  | nil => rfl
  | cons n out ih =>
    obtain ⟨other, rest⟩ := List.forall_mem_cons.1 h
    unfold postIn
    rw [if_neg other, ih rest]
    rfl

/-- R183: the entry of the posted kind and key is renewed, where it is the only one. -/
theorem renewed_mem_postIn {snap : Snapshot} {out : List Notice} {n : Notice} (unique : (out.map fun n => n.snapshot.key).Nodup)
    (hn : n ∈ out) (same : n.snapshot.key = snap.key) (flags : BitVec 16) :
    ({ snapshot := snap, flags := n.flags ||| flags } : Notice) ∈ postIn snap flags out := by
  induction out with
  | nil => cases hn
  | cons m out ih =>
    obtain ⟨first, rest⟩ := List.nodup_cons.1 unique
    unfold postIn
    rcases List.mem_cons.1 hn with rfl | later
    · rw [if_pos same]
      exact List.mem_cons_self
    · have other : m.snapshot.key ≠ snap.key := fun h =>
        first (List.mem_map.2 ⟨n, later, same.trans h.symm⟩)
      rw [if_neg other]
      exact List.mem_cons_of_mem _ (ih rest later)

/-- Settles O26, from what a posting leaves of the kinds and keys, and of each entry. -/
theorem aPostingKeepsOneEntryPerKey : Obligations.APostingKeepsOneEntryPerKey := by
  intro snap flags out unique
  refine ⟨?_, fun n hn other => (mem_postIn_other other flags out).2 hn, fun n hn same => renewed_mem_postIn unique hn same flags,
    fun absent => postIn_new absent flags⟩
  rw [postIn_keys]
  split
  next => rwa [List.append_nil]
  next absent =>
    refine List.nodup_append.2 ⟨unique, List.nodup_singleton _, fun k hk l hl => ?_⟩
    obtain ⟨n, hn, rfl⟩ := List.mem_map.1 hk
    rw [List.mem_singleton.1 hl]
    exact fun same => absent ⟨n, hn, same⟩

/-! ### The entry that goes next (R182) -/

/-- No notice goes before another that it does not go before, by kind and then by key. -/
def Notice.precedes (n m : Notice) : Prop :=
  n.snapshot.key.1.rank < m.snapshot.key.1.rank ∨
    (n.snapshot.key.1.rank = m.snapshot.key.1.rank ∧ n.snapshot.key.2 ≤ m.snapshot.key.2)

theorem Notice.precedes_refl (n : Notice) : n.precedes n := .inr ⟨rfl, le_rfl⟩

theorem Notice.precedes_trans {n m k : Notice} (h : n.precedes m) (g : m.precedes k) : n.precedes k := by
  unfold Notice.precedes at *
  omega

theorem Notice.precedes_of_goesBefore {n m : Notice} (h : n.goesBefore m = true) : n.precedes m :=
  (of_decide_eq_true h).imp_right fun ⟨kind, key⟩ => ⟨kind, key.le⟩

theorem Notice.precedes_of_not_goesBefore {n m : Notice} (h : ¬ n.goesBefore m = true) : m.precedes n := by
  have behind := mt decide_eq_true h
  unfold Notice.precedes
  omega

/-- R182: of an outbox with an entry one goes next, and it precedes every entry. -/
theorem firstNotice_cons (n : Notice) (out : List Notice) :
    ∃ m ∈ n :: out, firstNotice (n :: out) = some m ∧ ∀ k ∈ n :: out, m.precedes k := by
  induction out generalizing n with
  | nil => exact ⟨n, List.mem_cons_self, rfl, List.forall_mem_singleton.2 n.precedes_refl⟩
  | cons a out ih =>
    obtain ⟨m, hm, first, least⟩ := ih a
    unfold firstNotice
    rw [first]
    by_cases before : n.goesBefore m = true
    · refine ⟨n, List.mem_cons_self, if_pos before, List.forall_mem_cons.2 ⟨n.precedes_refl, fun k hk => ?_⟩⟩
      exact Notice.precedes_trans (Notice.precedes_of_goesBefore before) (least k hk)
    · refine ⟨m, List.mem_cons_of_mem _ hm, if_neg before, List.forall_mem_cons.2 ⟨?_, least⟩⟩
      exact Notice.precedes_of_not_goesBefore before

/-- Settles O27, by the entry that `firstNotice_cons` gives. -/
theorem theNoticeOfHighestPriorityGoesFirst : Obligations.TheNoticeOfHighestPriorityGoesFirst := by
  intro out nonempty
  obtain ⟨n, rest, rfl⟩ := List.exists_cons_of_ne_nil nonempty
  exact firstNotice_cons n rest

end Sys2Proof.Machine
end

section
/-! SUPPORT. The transmitter of the command link (R174, R180, R182): CLRDY, and the start and the end of a frame. -/

namespace Sys2Proof.Machine

open Sys2Proof

/-! ### CLRDY (R182, R170) -/

/-- Settles O21, by whether the part dozes with an entry in its outbox. -/
theorem clrdyIsRecordedAndWakesADozingPart : Obligations.ClrdyIsRecordedAndWakesADozingPart := by
  intro s hq
  refine ⟨fun doze held told => ?_, fun other => ?_, settle_quiet hq⟩
  · exact (if_pos ⟨doze, held, told⟩).trans (settle_quiet hq)
  · have rests : ¬(s.power.state = .doze ∧ s.power.held = false ∧ s.link.outbox ≠ []) := by
      rintro ⟨doze, held, told⟩
      rcases other with h | h | h
      · exact h doze
      · rw [held] at h; cases h
      · exact told h
    exact (if_neg rests).trans (settle_quiet hq)

/-! ### FRAME_TRANSMIT_START (R182) -/

/-- R182: the transmitter may start a frame, and what goes next is a segment of a reply. -/
theorem exec_frameTransmitStart_reply {s : State} {r : Reply} (may : s.maySend = true) (next : s.nextFrameChoice = .reply r) :
    exec .frameTransmitStart s = settle (s.send (r.segmentFrame r.sent) true) := by
  refine (if_pos may).trans ?_
  rw [next]

/-- R182: a notice's frame going out, its entry out of the outbox. -/
def State.sendsNotice (s : State) (n : Notice) : State :=
  (s.send (noticeFrame n s.now) false).modLink fun l =>
    { l with outbox := l.outbox.filter fun m => decide (m.snapshot.key ≠ n.snapshot.key) }

theorem exec_frameTransmitStart_notice {s : State} {n : Notice} (may : s.maySend = true) (next : s.nextFrameChoice = .notice n) :
    exec .frameTransmitStart s = settle ((s.sendsNotice n).noticeSent n.snapshot) := by
  refine (if_pos may).trans ?_
  rw [next]
  rfl

/-- R182: with CLRDY asserted, an idle transmitter of a part in RUN may start. -/
theorem State.maySend_of_idle {s : State} (ha : s.awake = true) (hc : s.link.clrdy = true) (hs : s.link.sending = none) :
    s.maySend = true := by
  simp [State.maySend, ha, hc, hs]

/-- Settles O22, by the first filled reply, and by CLRDY. -/
theorem aReplySegmentIsSentFirst : Obligations.AReplySegmentIsSentFirst := by
  intro s ha hs hq
  refine ⟨fun r rest asserted filled => ?_, fun deasserted => ?_⟩
  · have next : s.nextFrameChoice = .reply r := by unfold State.nextFrameChoice; rw [filled]
    rw [exec_frameTransmitStart_reply (State.maySend_of_idle ha asserted hs) next]
    exact settle_quiet hq
  · exact if_neg (by simp [State.maySend, deasserted])

/-- R182, R176: without a filled reply the outbox's first entry goes next. -/
theorem State.nextFrameChoice_notice {s : State} {n : Notice} (hf : s.link.filled = []) (ho : s.power.operating = true)
    (hn : firstNotice s.link.outbox = some n) : s.nextFrameChoice = .notice n := by
  unfold State.nextFrameChoice
  rw [hf]
  exact (if_pos ho).trans (by rw [hn])

/-- R140: with no ended entry of the subscription waiting for room, the outcome list takes none. -/
theorem State.flushOutcomes_none {s : State} {x : Sub} (h : ∀ e ∈ s.text.outbox, e.sub = x → e.state ≠ .sent ∧ e.state ≠ .failed) :
    s.flushOutcomes x = s := by
  have unended : (s.text.outbox.filter fun e => decide (e.sub = x) && e.isEnded) = [] := by
    rw [List.filter_eq_nil_iff]
    intro e he
    have waits := h e he
    simpa [OutEntry.isEnded] using waits
  unfold State.flushOutcomes
  rw [unended]
  exact if_pos List.take_nil

/-- R80, R140, R149, R186: of a notice that is not LINK, MEAS or TEXT, the sending restarts nothing. -/
theorem State.noticeSent_other (s : State) {n : Snapshot} (h : n.key.1 ∉ [NoticeKind.link, NoticeKind.meas, NoticeKind.text]) :
    s.noticeSent n = s := by
  cases n with
  | link | meas | text => exact absurd h (by simp [Snapshot.key])
  | _ => rfl

/-- R186: the sending of a LINK notice restarts the five counts. -/
theorem State.noticeSent_link (s : State) {n : Snapshot} (h : n.key.1 = .link) : s.noticeSent n =
    s.modLink fun l => { l with counts := { gap := 0, cut := 0, badChar := 0, length := 0, overrun := 0 } } := by
  cases n with
  | link => rfl
  | _ => cases h

/-- R80: the sending of a MEAS notice makes its serving level and its best index the reference. -/
theorem State.noticeSent_meas (s : State) {n : Snapshot} {x d l cs} (h : n = .meas x d l cs) :
    s.noticeSent n = s.modMeas x fun m => { m with reference := some (l, cs.head?.map Prod.fst) } := by
  subst h; rfl

/-- R140, R149: the sending of a TEXT notice empties the outcome list and restarts the two counts. -/
theorem State.noticeSent_text {s : State} {n : Snapshot} {x a b c d os r l i o u m} (h : n = .text x a b c d os r l i o u m)
    (unended : ∀ e ∈ s.text.outbox, e.sub = x → e.state ≠ .sent ∧ e.state ≠ .failed) :
    s.noticeSent n = s.modText x fun t => { t with outcomes := [], received := 0, latest := none, incomplete := 0 } := by
  subst h
  exact State.flushOutcomes_none unended

/-- Settles O23, by the kind of the notice that goes. -/
theorem aNoticeIsSentWhenNoReplyWaits : Obligations.ANoticeIsSentWhenNoReplyWaits := by
  intro n s ha hc hs hf ho hn hq
  rw [exec_frameTransmitStart_notice (State.maySend_of_idle ha hc hs) (State.nextFrameChoice_notice hf ho hn)]
  refine ⟨fun other => ?_, fun link => ?_, fun x d l cs meas => ?_, fun x a b c d os r l i o u m text unended => ?_⟩
  · rw [State.noticeSent_other _ other]
    exact settle_quiet hq
  · rw [State.noticeSent_link _ link]
    exact settle_quiet hq
  · rw [State.noticeSent_meas _ meas]
    exact settle_quiet hq
  · rw [State.noticeSent_text (s := s.sendsNotice n) text unended]
    exact settle_quiet hq

/-! ### FRAME_TRANSMIT_END (R180, R174) -/

/-- R155: a suspended erase runs on. -/
def Running.resumed (now : Slot) (q : Running) : Running :=
  if q.op.isErase = true ∧ q.since = none then { q with since := some now } else q

theorem State.modStore_self {s : State} {f : Store → Store} (h : f s.store = s.store) : s.modStore f = s := by
  unfold State.modStore; rw [h]

/-- R155: with no transmit window ORDERED an erase that is suspended runs on, and every other operation as it does. -/
theorem State.syncErase_resumes {s : State} (h : s.transmitting = false) :
    s.syncErase = s.modStore fun st => { st with running := st.running.map (Running.resumed s.now) } := by
  have stands (hr : s.store.running.map (Running.resumed s.now) = s.store.running) :
      s = s.modStore fun st => { st with running := st.running.map (Running.resumed s.now) } :=
    (State.modStore_self (congrArg (fun r => { s.store with running := r }) hr)).symm
  unfold State.syncErase
  rw [h]
  cases hr : s.store.running with
  | none => exact stands (by rw [hr]; rfl)
  | some q =>
    cases he : q.op.isErase with
    | false => simpa [he] using stands (by rw [hr]; simp [Running.resumed, he])
    | true =>
      cases hs : q.since with
      | none => simp [State.modStore, hr, Running.resumed, he, hs]
      | some t => simpa [he, hs] using stands (by rw [hr]; simp [Running.resumed, hs])

/-- R174, R155: what is left of the store's queue when a reset begins: the mark that follows a running relocation copy. -/
def Store.keptMarks (st : Store) : List StoreOp :=
  match st.running.map Running.op with
  | some (.relocCopy _ p _ _) => st.queue.filter fun o => decide (o = .mark p .relocation)
  | _ => []

/-- R174, R59, R155: the state in which the reset behind a RESET reply has begun. -/
theorem State.beginReset_eq (s : State) : s.beginReset = { s with
    cal := { s.cal with windows := [], outstanding := [] }
    voice := s.voice.stop
    store := { s.store with
      running := s.store.running.map (Running.resumed s.now), queue := s.store.keptMarks, reclaim := none }
    power := { s.power with wait := .stopping } } := by
  unfold State.beginReset
  dsimp only
  rw [State.syncErase_resumes rfl]
  have marks : (match s.store.running with
      | some { op := .relocCopy _ src _ _, .. } => s.store.queue.filter fun o => decide (o = .mark src .relocation)
      | _ => []) = s.store.keptMarks := by
    unfold Store.keptMarks
    cases s.store.running with
    | none => rfl
    | some q => obtain ⟨op, accumulated, since⟩ := q; cases op <;> rfl
  rw [← marks]
  rfl

/-- R180: the state in which the transmitter has sent its frame. -/
def State.unsending (s : State) : State := s.modLink fun l => { l with sending := none }

theorem exec_frameTransmitEnd {s : State} {f : Sending} (hf : s.link.sending = some f) (ha : s.awake = true) :
    exec .frameTransmitEnd s = settle (if f.reply then s.unsending.replySent else s.unsending) := by
  change execFrameTransmitEnd s = _
  unfold execFrameTransmitEnd
  rw [hf]
  exact if_pos ha

/-- R180: a segment with more to follow. -/
theorem State.replySent_more {s : State} {r : Reply} {rest : List Reply} (hf : s.link.filled = r :: rest)
    (more : r.sent + 1 < r.segments.length) :
    s.replySent = s.modLink fun l => { l with filled := { r with sent := r.sent + 1 } :: rest } := by
  unfold State.replySent
  rw [hf]
  exact if_pos more

/-- R180, R174: after the last segment the position is free, and behind the RESET reply the reset begins. -/
theorem State.replySent_last {s : State} {r : Reply} {rest : List Reply} (hf : s.link.filled = r :: rest)
    (last : r.segments.length ≤ r.sent + 1) :
    s.replySent = if r.isReset = true ∧ s.power.wait = .replying then (s.modLink fun l => { l with filled := rest }).beginReset
      else s.modLink fun l => { l with filled := rest } := by
  unfold State.replySent
  rw [hf]
  exact if_neg (Nat.not_lt.2 last)

/-- R172 to R174: a part that stops for a reset takes nothing more. -/
theorem State.awake_of_stopping {s : State} (h : s.power.wait = .stopping) : s.awake = false :=
  decide_eq_false fun ⟨_, _, runs⟩ => runs h

/-- Settles O24, by what the frame was, and by what follows the reply's segment. -/
theorem theLastSegmentFreesThePosition : Obligations.TheLastSegmentFreesThePosition := by
  intro f s hf ha hq
  rw [exec_frameTransmitEnd hf ha]
  refine ⟨fun notice => ?_, fun r rest reply filled => ⟨fun more => ?_, fun last => ⟨fun other => ?_, fun waits code done => ?_⟩⟩⟩
  · rw [notice]
    exact settle_quiet hq
  · rw [if_pos reply, State.replySent_more (s := s.unsending) filled more]
    exact settle_quiet hq
  · have stays : ¬(r.isReset = true ∧ s.unsending.power.wait = .replying) := by
      rintro ⟨reset, waits⟩
      obtain ⟨code, done⟩ := of_decide_eq_true reset
      exact other.elim (fun h => h waits) fun h => h.elim (fun h => h code) fun h => h done
    rw [if_pos reply, State.replySent_last (s := s.unsending) filled last, if_neg stays]
    exact settle_quiet hq
  · have begins : r.isReset = true ∧ s.unsending.power.wait = .replying := ⟨decide_eq_true ⟨code, done⟩, waits⟩
    rw [if_pos reply, State.replySent_last (s := s.unsending) filled last, if_pos begins, State.beginReset_eq]
    exact ⟨_, settle_quiet hq, State.awake_of_stopping rfl, rfl⟩

end Sys2Proof.Machine
end

section
/-! SUPPORT. That a legal state need not be followed by one (R108, R115). The blocks' legal states leave one thing unsaid: a handover
in flight is the handover of a running connection. -/

namespace Sys2Proof.Machine

open Sys2Proof

/-! ### A handover without a connection -/

/-- A GRANT_RX window of subscription A for the dedicated context unit, ORDERED. -/
def strayWindow : Window :=
  { id := 0, owner := .sub .A, reporter := .context, purpose := .grantRx, cls := .access, channel := 5, start := 0, len := 1
    requested := 0, slack := none, block := none, state := .ordered, withdrawn := false }

/-- The entry of a grant list that answers a burst of reference 9. -/
def strayGrant : Grant := { reference := 9, rx := 2, tx := 6 }

/-- A RETURN access of reference 9 that watches the window. -/
def strayAccess : Access :=
  { reference := 9, deadline := 16, base := 0, frames := [{ number := 2, tx := none, rx := some 0 }] }

/-- A part that has started and has no connection, but the RETURN access of a handover in flight, and the access's grant about to be
received. -/
def strayReturn : State :=
  { State.reset with
    pending := [.frontEndResult 0 (.block (.grant 0 [strayGrant]) 100)]
    power := { Power.reset .powerOn with operating := true, held := false }
    cal := { Calendar.reset with
      windows := [strayWindow], outstanding := [{ number := 0, order := strayWindow.order, window := 0 }] }
    ctx := { CtxUnit.reset with handover := .returning strayAccess } }

/-- Every block of it is legal: no clause speaks of a handover without an ACTIVE record. -/
theorem strayReturn_legal : strayReturn.legal := by
  obtain ⟨-, link, -, meas, voice, text, store, -, engaged, calls, -⟩ := theResetStateIsLegal
  have power : strayReturn.power.legal := ⟨by decide, by decide, by decide⟩
  have cal : strayReturn.cal.legal := ⟨List.pairwise_singleton _ _, by decide⟩
  have ctx : strayReturn.ctx.legal := ⟨by decide, fun old h => (by cases h), fun _ => rfl⟩
  have modes : strayReturn.modesLegal := fun x => by cases x <;> decide
  exact ⟨power, link, cal, meas, voice, text, store, ctx, engaged, calls, modes⟩

/-- R115: the access succeeds, and the measurement of A goes on in mode DEDICATED, without a connection. -/
theorem strayReturn_step : ∃ t, step strayReturn = .next t ∧ (t.measOf .A).mode = .dedicated ∧ t.connection .A = none :=
  ⟨_, rfl, by decide, by decide⟩

/-- Refutes O7: the grant of a RETURN access without a connection, a legal state that no run reaches, leaves a subscription in the mode
DEDICATED without one (R66). -/
theorem not_stepsKeepTheStateLegal : ¬ Obligations.StepsKeepTheStateLegal := by
  rintro ⟨keeps, -⟩
  obtain ⟨t, stepped, dedicated, unconnected⟩ := strayReturn_step
  obtain ⟨-, -, -, -, -, -, -, -, -, -, modes⟩ := keeps _ _ strayReturn_legal stepped
  obtain ⟨connected, -⟩ := (modes .A).1 dedicated
  rw [unconnected] at connected
  cases connected

end Sys2Proof.Machine
end
